-- ==== Sys2Proof/Word.lean ====
section
/-!
DEFINITION. Word.lean: bytes, byte strings, keyed maps in one canonical form, saturating counters and device time.
-/
namespace Sys2Proof

/-- A byte. -/
abbrev Byte := BitVec 8

/-- A string of bytes: a frame, a command buffer, a page. -/
abbrev Bytes := List Byte

/-- A map from numbers: a list of (key, value) pairs with keys strictly rising. -/
abbrev KMap (α : Type) := List (Nat × α)

/-- The keys are strictly rising. -/
def kSorted {α : Type} : KMap α → Bool
  | [] => true
  | [_] => true
  | (a, _) :: (b, y) :: r => decide (a < b) && kSorted ((b, y) :: r)

/-- The value listed at a key. -/
def kFind {α : Type} : KMap α → Nat → Option α
  | [], _ => none
  | (a, x) :: r, k => if a = k then some x else kFind r k

/-- The value at a key, or what an unlisted key holds. -/
def kGet {α : Type} (d : α) (m : KMap α) (k : Nat) : α := (kFind m k).getD d

/-- The map with a value listed at a key. -/
def kInsert {α : Type} : KMap α → Nat → α → KMap α
  | [], k, v => [(k, v)]
  | (a, x) :: r, k, v =>
    if k < a then (k, v) :: (a, x) :: r
    else if k = a then (k, v) :: r
    else (a, x) :: kInsert r k v

/-- The map with nothing listed at a key. -/
def kErase {α : Type} (m : KMap α) (k : Nat) : KMap α := m.filter fun p => p.1 != k

/-- The map with a value at a key, where an unlisted key holds `d`: storing `d` removes the entry. -/
def kPut {α : Type} [DecidableEq α] (d : α) (m : KMap α) (k : Nat) (v : α) : KMap α :=
  if v = d then kErase m k else kInsert m k v

/-- The number whose bytes are given, least significant first (R10: registers, buffers). -/
def leNat : Bytes → Nat
  | [] => 0
  | b :: r => b.toNat + 256 * leNat r

/-- The number whose bytes are given, most significant first (R10: the wire). -/
def beNat (l : Bytes) : Nat := leNat l.reverse

/-- A number as n bytes, least significant first. -/
def toLE : Nat → Nat → Bytes
  | 0, _ => []
  | n + 1, v => BitVec.ofNat 8 v :: toLE n (v / 256)

/-- A number as n bytes, most significant first. -/
def toBE (n v : Nat) : Bytes := (toLE n v).reverse

/-- `len` bytes from offset `off`; bytes past the end are left out. -/
def slice (l : Bytes) (off len : Nat) : Bytes := (l.drop off).take len

/-- The string with the bytes `w` written over it from offset `off`. -/
def splice (l : Bytes) (off : Nat) (w : Bytes) : Bytes :=
  l.take off ++ w ++ l.drop (off + w.length)

/-- Bits hi to lo of a number (R7). -/
def bits (v hi lo : Nat) : Nat := v / 2 ^ lo % 2 ^ (hi + 1 - lo)

/-- A number cut to its low n bits. -/
def low (n v : Nat) : Nat := v % 2 ^ n

/-- A Bool as a bit. -/
def bit (b : Bool) : Nat := if b then 1 else 0

/-- A counter of w bits that saturates at all ones (R15). -/
def satAdd (w v n : Nat) : Nat := min (v + n) (2 ^ w - 1)

/-- The two's complement value of the low n bits. -/
def asInt (n v : Nat) : Int := if low n v < 2 ^ (n - 1) then (low n v : Int) else (low n v : Int) - 2 ^ n

/-- An integer as an n-bit two's complement word. -/
def ofInt (n : Nat) (v : Int) : Nat := (v % (2 ^ n : Int)).toNat

/-- An integer held within [lo, hi]. -/
def clampInt (lo hi v : Int) : Int := max lo (min hi v)

/-- The quotient rounded up. -/
def ceilDiv (a b : Nat) : Nat := (a + b - 1) / b

/-- One second in units of 2^-16 ns. -/
def secT : Nat := 1000000000 * 65536

/-- A 96-bit device time value (R9) for an instant given in units of 2^-16 ns. -/
def packTime (t : Nat) : Nat := (t / secT % 2 ^ 48) * 2 ^ 48 + t % secT

/-- The instant, in units of 2^-16 ns, that a 96-bit device time value names. -/
def unpackTime (v : Nat) : Nat := bits v 95 48 * secT + bits v 47 0

/-- The nanoseconds field of a 96-bit device time value is at most 999,999,999 (R9). -/
def timeOk (v : Nat) : Bool := decide (bits v 47 16 ≤ 999999999)

/-- Whole nanoseconds in units of 2^-16 ns. -/
def nsT (n : Nat) : Nat := n * 65536

/-- Replace element i of a list; a list shorter than that is unchanged. -/
def setAt {α : Type} : List α → Nat → α → List α
  | [], _, _ => []
  | _ :: r, 0, v => v :: r
  | x :: r, n + 1, v => x :: setAt r n v

/-- Apply a state change for each element of a list in turn. -/
def forEach {σ α : Type} (l : List α) (f : α → σ → σ) (s : σ) : σ := l.foldl (fun s a => f a s) s

end Sys2Proof
end

