-- ==== Sys2Proof/Machine/Types.lean ====
section
/-!
DEFINITION. Machine/Types.lean: the records of the data plane as plain data: stream tables, frames, ports, Berths, Tide
Tables, Quays, Breakwater instances and store regions. `Machine/State.lean` puts them together; `Syntax.lean` uses them
for what a peer sends during a join (R389).
-/
namespace Sys2Proof

/-- What one crossing of the die bridge does to a frame (R49): the words that the code corrected, and whether a word with
an uncorrectable error loses the frame. -/
structure Cross where
  corrected : Nat
  lost : Bool
  deriving DecidableEq, Repr

/-- What happens to a frame on its way to its home quadrant and on from there (R21, R49). -/
structure Path where
  toHome : Cross
  toEgress : Cross
  deriving DecidableEq, Repr

end Sys2Proof

namespace Sys2Proof.Machine

/-! ### Streams (04_streams_and_ingress.md) -/

/-- A key entry (R82, R86, R109): the compared fields and the handle it names. Fields that its profile ignores are
zero. -/
structure Key where
  profile : Nat
  vid : Nat
  port : Nat
  ipv6 : Nat
  dscp : Nat
  proto : Nat
  mac : Nat
  ssrc : Nat
  srcPort : Nat
  dstPort : Nat
  ipSrc : Nat
  ipDst : Nat
  deriving DecidableEq, Repr

/-- A handle record (R109); KEYS is counted from the key store. -/
structure Handle where
  valid : Bool
  homeQ : Nat
  hostCopy : Bool
  activeTx : Bool
  notDup : Bool
  egrLen : Nat
  egrBase : Nat
  meterEn : Bool
  gateEn : Bool
  blockOver : Bool
  blocked : Bool
  gateId : Nat
  meterId : Nat
  maxSdu : Nat
  rwVidEn : Bool
  rwVid : Nat
  rwMac : Nat
  hostClass : Nat
  deriving DecidableEq, Repr

/-- A meter record (R104, R109). -/
structure Meter where
  cir : Nat
  eir : Nat
  cbs : Nat
  ebs : Nat
  markDei : Bool
  mafrEn : Bool
  dropYellow : Bool
  cm : Bool
  cf : Bool
  deriving DecidableEq, Repr

/-- A meter's state in one quadrant (R105). Buckets are in units of `tokenUnit` to the byte, t_last in 2^-16 ns. -/
structure MeterQ where
  c : Nat
  e : Nat
  tLast : Int
  mafr : Bool
  deriving DecidableEq, Repr

/-- An entry of a stream gate list (R109). -/
structure GEntry where
  isOpen : Bool
  ipvValid : Bool
  ipv : Nat
  frac : Nat
  intervalNs : Nat
  octetMax : Nat
  deriving DecidableEq, Repr

/-- An operational stream gate list: its entries, its start and cycle in units of 2^-16 ns, and INIT_STATE. -/
structure GateOper where
  entries : List GEntry
  base : Nat
  cycle : Nat
  initOpen : Bool
  deriving DecidableEq, Repr

/-- A stream gate (R102, R103, R109). -/
structure Gate where
  /-- ADMIN_BASE, the 96-bit value. -/
  base : Nat
  cycleNs : Nat
  cycleFrac : Nat
  count : Nat
  initOpen : Bool
  closeOctEn : Bool
  closeInvEn : Bool
  admin : KMap GEntry
  /-- The pending start, in units of 2^-16 ns. -/
  pend : Option Nat
  /-- PEND_START: the last start computed, in units of 2^-16 ns. -/
  pendStart : Nat
  oper : Option GateOper
  deriving DecidableEq, Repr

/-- A gate's state in one quadrant (R102): the octets admitted in the interval marked, whether a frame of it would have
exceeded OCTET_MAX, and the two latches. -/
structure GateQ where
  octets : Nat
  exceeded : Bool
  /-- Cycle number and entry of the interval that `octets` counts. -/
  cyc : Int
  entry : Nat
  closedOct : Bool
  closedInv : Bool
  deriving DecidableEq, Repr

/-- The stream tables; the four replicas take every change within one step and are held once (R84). -/
structure StrmS where
  /-- Key entries and the handles they name, in order of insertion. -/
  keys : List (Key × Nat)
  handles : KMap Handle
  /-- Pool entries as 32-bit words: PORT in [31:24], BERTH in [15:0] (R109). -/
  pool : KMap Nat
  /-- Old lists whose frames are still being replicated: base and length (R98). -/
  oldLists : List (Nat × Nat)
  meters : KMap Meter
  /-- By 4 x meter + quadrant. -/
  meterQ : KMap MeterQ
  gates : KMap Gate
  /-- By 4 x gate + quadrant. -/
  gateQ : KMap GateQ
  /-- Counters of R107 by 32 x handle + 8 x quadrant + number. -/
  cnt : KMap Nat
  deriving DecidableEq, Repr

/-! ### Frames, ports, Berths, Tide Tables and Quays (chapters 05, 06, 07) -/

/-- A frame in the device, without its check sequence. -/
structure Frame where
  bytes : Bytes
  /-- Its length as it leaves, check sequence included, once known (R117). -/
  elen : Option Nat
  /-- Its stream adds an R-TAG, which raises the largest length it can take (R117). -/
  tagged : Bool
  /-- Ingress timestamp (R170). -/
  ts : Nat
  /-- Ingress port; none for a frame that did not arrive on a port. -/
  inPort : Option Nat
  /-- The reception that still brings it; none once the receive MAC has passed it (R168). -/
  rx : Option Nat
  handle : Option Nat
  /-- A relayed PTP event message, which the egress MAC corrects (R68). -/
  ptp : Bool
  /-- The epoch whose record decided it in duo mode; it waits for that record's acknowledgement (R377). -/
  epoch : Option Nat
  deriving DecidableEq, Repr

/-- The frame itself keeps the wire: its reception brings it, and no fragment's end frees the wire before (R168, R182). -/
def Frame.receiving (f : Frame) (more : Bool) : Bool := f.rx.isSome && !more

/-- A frame in a Berth: its launch time, and whether it has been counted late (R115, R116). -/
structure Item where
  f : Frame
  launch : Option Nat
  late : Bool
  deriving DecidableEq, Repr

/-- A selected timed frame on its way to its Quay, staged there, or late and waiting for a free instant (R153, R154). -/
structure Staged where
  it : Item
  berth : Nat
  port : Nat
  tc : Nat
  charge : Nat
  /-- The OVERHEAD that the charge holds (R117). -/
  ovh : Nat
  /-- On its way to the Quay: the port was busy as its wire instant passed (R153). -/
  busy : Bool
  deriving DecidableEq, Repr

/-- The frame on a port's wire. Instants are in units of 2^-16 / 200 ns, in which a byte lasts a whole number. -/
structure Wire where
  f : Frame
  berth : Nat
  tc : Nat
  charge : Nat
  /-- The OVERHEAD that the charge holds (R117). -/
  ovh : Nat
  start : Nat
  stop : Nat
  /-- It ends with an invalid check sequence (R168). -/
  bad : Bool
  /-- It is pre-emptable and pre-emption was active at its start (R178). -/
  pre : Bool
  /-- Bytes of it that earlier fragments carried. -/
  sent : Nat
  /-- A fragment follows (R147). -/
  more : Bool
  /-- 0 the frame has not counted in PREEMPTIONS, 1 it counts at this fragment's end, 2 it has counted. -/
  preCnt : Nat
  deriving DecidableEq, Repr

/-- A pre-empted frame's remainder (R147, R182). -/
structure Part where
  f : Frame
  berth : Nat
  tc : Nat
  charge : Nat
  /-- The OVERHEAD that the charge holds (R117). -/
  ovh : Nat
  bad : Bool
  sent : Nat
  /-- It counts or has counted in PREEMPTIONS. -/
  counted : Bool
  deriving DecidableEq, Repr

/-- A frame that waits under the handle record and the egress list that it was identified under (R85). -/
structure Waiting where
  h : Nat
  rec_ : Handle
  list : List Nat
  deriving DecidableEq, Repr

/-- A reception in progress on a port, from its start to its end (R100, R107, R167). -/
structure RxS where
  id : Nat
  f : Frame
  /-- The length decided at the start (R100). -/
  decl : Option Nat
  /-- MAC control frame (R167). -/
  ctrl : Bool
  /-- 0 none, 1 IDENTIFIED, 2 UNMATCHED, 3 UNMATCHED and DEFAULT_DROPS, 4 TRAPPED (R108). -/
  count : Nat
  /-- Stream counters to raise at the end, as (handle, quadrant, number) (R100, R107). -/
  counters : List (Nat × Nat × Nat)
  /-- The stream whose filter judges it at its end, because its length was not known (R100). -/
  wait : Option Waiting
  /-- What the bridge does to it on its way to its home and to its egress quadrant (R49). -/
  path : Sys2Proof.Path
  deriving DecidableEq, Repr

/-- A pre-emptable frame being reassembled (R183). -/
structure AsmS where
  frameCount : Nat
  bytes : Bytes
  ts : Nat
  deriving DecidableEq, Repr

/-- An access that a hand-over copy holds (R129), the copy of a replica (R405), or an earlier held write (R254). -/
inductive HeldAcc where
  /-- A read by the host driver, or else by the monitor's path. -/
  | read (host : Bool) (off len : Nat)
  /-- A write of a whole register, or, if `half` says so, of its high half alone (R447). -/
  | write (host : Bool) (off : Nat) (half : Bool) (data : Nat)
  /-- The command of a mailbox slot, whose access Fened makes. -/
  | slot (i : Nat)
  /-- A pending timed command, whose access Fened makes. -/
  | timed (handle : Nat)
  /-- The monitor's MON_RD. -/
  | words (off n : Nat)
  /-- A STRM_CMD write, by the host driver or else by the monitor's path, whose row sets the COMMIT or CANCEL bit of the
  gate record (R103). -/
  | gateOp (host commit cancel : Bool) (data : Nat)
  /-- A read of the store aperture (R254). -/
  | aper (off len : Nat)
  /-- An accepted mailbox command, by its request, that gets no response any more: the mailbox closed (R265). -/
  | command (req : Bytes)
  deriving DecidableEq, Repr

/-- The shadowed parameters of a Berth (R126): weight, shaper enable, rate, burst. -/
abbrev ShadowSet := Nat × Bool × Nat × Nat

/-- A hand-over copy in progress (R128): its instant, the balance of each Berth at it, the shadow sets and the OVERHEAD
that it carries, the charges since and the credits of R117 as negative charges, the held accesses in order, and the timed
commands that it ends (R309). -/
structure HandS where
  at_ : Nat
  bals : List (Nat × Int)
  sets : List (Nat × ShadowSet)
  ovh : Nat
  charges : List (Nat × Int)
  held : List HeldAcc
  done : List Nat
  deriving DecidableEq, Repr

/-- A port beyond its registers. -/
structure PortS where
  wire : Option Wire
  part : Option Part
  /-- Late SEND_NOW frames that the Quay handed back (R154). -/
  late : List Staged
  rx : Option RxS
  asm : Option AsmS
  /-- Verify mPackets sent in this round (R179). -/
  tries : Nat
  /-- Lanes whose last whole FEC window stayed below DEG_CLR (R177). -/
  fecOk : List Nat
  hand : Option HandS
  /-- The instant of the last hand-over (R130). -/
  handAt : Option Nat
  deriving DecidableEq, Repr

/-- A Berth beyond its registers: the queue, the active parameters (R126) and the shaper and race state. -/
structure BerthS where
  queue : List Item
  weight : Nat
  shaper : Bool
  rate : Nat
  burst : Nat
  /-- Balance in units of 2^-32 byte (R122). -/
  bal : Int
  tLast : Int
  /-- The balance at earlier instants, newest first, and the charges and credits by instant, for a hand-over that the log
  names late (R130). -/
  trail : List (Int × Int)
  spent : List (Int × Int)
  inRace : Bool
  finish : Nat
  deriving DecidableEq, Repr

/-- A Tide Table list: its entries as 64-bit words, its start and cycle in units of 2^-16 ns, and the registers it was
committed from. -/
structure TideList where
  entries : List Nat
  start : Nat
  cycle : Nat
  base : Nat
  cycleReg : Nat
  deriving DecidableEq, Repr

/-- A port's Tide Table beyond its registers (R133-R142). -/
structure TideS where
  admin : KMap Nat
  pend : Option TideList
  oper : Option TideList
  /-- The entries of the operational bank, which changes only by commit: STOP leaves them (R141, R160). -/
  bank : List Nat
  /-- The mirror copy of R140 runs. -/
  copying : Bool
  /-- The instant up to which the entries of the operational list have been performed (R142, R157). -/
  done : Nat
  deriving DecidableEq, Repr

/-- A Quay: timed frames on their way to it and staged in it, oldest first. -/
structure QuayS where
  transit : List Staged
  staged : List Staged
  deriving DecidableEq, Repr

/-- An engine's hold conditions (R171, R172). -/
structure EngS where
  laser : Bool
  temp : Bool
  deriving DecidableEq, Repr

/-- Ports, Berths, Tide Tables, Quays and engines. -/
structure PlaneS where
  ports : KMap PortS
  berths : KMap BerthS
  /-- Virtual time by 8 x port + class (R118). -/
  vt : KMap Nat
  /-- Active OVERHEAD by port; a port not listed has 20 (R117, R126). -/
  ovh : KMap Nat
  tide : KMap TideS
  quay : KMap QuayS
  eng : KMap EngS
  /-- Engines in STARTING, in the order of their ENGINE_EN writes; the first eight have places (R403). -/
  starting : List Nat
  /-- The number of the next reception. -/
  nextRx : Nat
  deriving DecidableEq, Repr

/-! ### Breakwater instances (08_breakwater.md) -/

/-- The CFG record of an instance (R213). -/
structure BrkwCfg where
  mode : Nat
  algo : Nat
  individual : Bool
  seqSrc : Nat
  ext : Nat
  gen : Nat
  rtagPop : Bool
  latentEn : Bool
  refPath : Nat
  histLen : Nat
  skewNs : Nat
  resetMs : Nat
  latentDiff : Nat
  dlRegion : Nat
  histRegion : Nat
  genNext : Nat
  latentPaths : Nat
  latentPeriod : Nat
  latentReset : Nat
  deriving DecidableEq, Repr

/-- A path table entry and what the instance has learnt of the path (R195, R201, R202). -/
structure BrkwPath where
  valid : Bool
  hold : Bool
  port : Nat
  ofs : Int
  samples : Nat
  lastSeen : Option Nat
  deriving DecidableEq, Repr

/-- A Breakwater instance. -/
structure Brkw where
  cfg : BrkwCfg
  paths : List BrkwPath
  top : Nat
  /-- The last accepted number, if any (R194). -/
  last : Option Nat
  /-- The latest release instant of a frame released from the delay line (R204). -/
  relTop : Nat
  takeAny : Bool
  /-- Numbers accepted and still within the history. -/
  seen : List Nat
  /-- Arrivals of numbers not yet paired for an offset sample, as (number, path, timestamp). -/
  arrivals : List (Nat × Nat × Nat)
  /-- RESET_MS has run out once since the last accepted copy (R196). -/
  silent : Bool
  /-- Private counts of R210. -/
  passedP : Nat
  discardedP : Nat
  dlPeak : Nat
  deriving DecidableEq, Repr

/-- The Breakwater instances and their counters, by 16 x instance + number, and path counters, by
32 x instance + 4 x path + number. -/
structure BrkwS where
  inst : KMap Brkw
  cnt : KMap Nat
  pathCnt : KMap Nat
  /-- Instant of the last time step or load: samples within 1 ms of it are discarded (R202). -/
  stepAt : Option Nat
  deriving DecidableEq, Repr

/-! ### Stream store (09_stream_store.md) -/

/-- A page in use by a ring: its number in the quadrant, its base time, the offset in the ring's byte stream at which
it begins, and, once it has been spilled, its page on the drive. -/
structure PageRef where
  no : Nat
  base : Nat
  start : Nat
  drive : Option Nat
  /-- A page of the window holds it. -/
  win : Bool
  deriving DecidableEq, Repr

/-- A stored record (R220): its offset in the ring's byte stream, its time, and what its frame needs on leaving. -/
structure Rec where
  off : Nat
  time : Nat
  path : Nat
  marker : Bool
  len : Nat
  f : Frame
  /-- The received number, for the merge of R204. -/
  num : Nat
  /-- A join did not copy the page it lies on (R390). -/
  gap : Bool
  deriving DecidableEq, Repr

/-- A ring of records: its pages and records in order, and where its stored bytes begin and end. -/
structure Ring where
  pages : List PageRef
  recs : List Rec
  rd : Nat
  wr : Nat
  deriving DecidableEq, Repr

/-- A region (R221): its record, its hold and record settings, its rings (path rings by path; ring 0 otherwise). -/
structure Region where
  valid : Bool
  /-- 0 delay line, 1 history, 2 hold, 3 record. -/
  kind : Nat
  quad : Nat
  handle : Nat
  pages : List Nat
  /-- A HOLD record binds it to PORT (R223). -/
  bound : Bool
  port : Nat
  trigger : Nat
  force : Bool
  drain : Nat
  surplus : Nat
  ageMs : Nat
  padNs : Nat
  arm : Bool
  ring : Bool
  spill : Nat
  rate : Nat
  spillPages : Nat
  rings : KMap Ring
  /-- 0 DIRECT, 1 HOLDING, 2 DRAINING. -/
  state : Nat
  /-- The instant at which the path returned (R226). -/
  tUp : Nat
  /-- Frames drained since the hold began, which HOLD_END shows (R312). -/
  drained : Nat
  shift : Int
  deriving DecidableEq, Repr

/-- A replay cursor (R233, R234). -/
structure Cursor where
  region : Nat
  berth : Nat
  lateOk : Bool
  state : Nat
  cause : Nat
  t1 : Nat
  t2 : Nat
  l : Nat
  frames : Nat
  /-- Offset of the next record to read. -/
  next : Nat
  deriving DecidableEq, Repr

/-- The stream store beyond its registers and its bytes. -/
structure StorS where
  regions : KMap Region
  /-- Counters by 16 x region + number (R239). -/
  cnt : KMap Nat
  cursors : KMap Cursor
  /-- Pages that have returned an uncorrectable error (R216), and pages retired, by 2^20 x quadrant + page. -/
  bad : List Nat
  retired : List Nat
  /-- Lines that hold symbol errors, by line address, with the number of symbols (R216, R424). -/
  ecc : KMap Nat
  /-- Pages of the drives that hold spilled pages, by 2^40 x slot + page. -/
  drive : KMap Bytes
  /-- Stacks that were retrained after a failure and had held region pages, with the lines written since: every other line of
  such a stack is uncorrectable (R406). -/
  stale : KMap (List Nat)
  deriving DecidableEq, Repr

/-- What a serving unit sends a joiner in the CONFIG and STREAM epochs (R389). -/
structure PeerData where
  regs : KMap Nat
  strm : StrmS
  plane : PlaneS
  brkw : BrkwS
  stor : StorS
  /-- The parameters of each PTP instance. -/
  ptp : KMap Bytes
  deriving DecidableEq, Repr

/-- A section's head in the Saffron record (R361, R363): the next SEQ and the next place of its ring. -/
structure Sect where
  nextSeq : Nat
  place : Nat
  deriving DecidableEq, Repr

/-! ### Values at reset -/

/-- A handle record at reset. -/
def Handle.init : Handle :=
  ⟨false, 0, false, false, false, 0, 0, false, false, false, false, 0, 0, 0, false, 0, 0, 0⟩

/-- A meter record at reset. -/
def Meter.init : Meter := ⟨0, 0, 0, 0, false, false, false, false, false⟩

/-- A meter's quadrant state at reset: its buckets hold what CBS and EBS admit, nothing. -/
def MeterQ.init : MeterQ := ⟨0, 0, 0, false⟩

/-- A gate list entry at reset. -/
def GEntry.init : GEntry := ⟨false, false, 0, 0, 0, 0⟩

/-- A stream gate at reset: INIT_STATE is 1, no list. -/
def Gate.init : Gate := ⟨0, 0, 0, 0, true, false, false, [], none, 0, none⟩

/-- A gate's quadrant state at reset. -/
def GateQ.init : GateQ := ⟨0, false, 0, 0, false, false⟩

/-- The stream tables at reset: empty. -/
def StrmS.init : StrmS := ⟨[], [], [], [], [], [], [], [], []⟩

/-- A port at reset: nothing sent or received. -/
def PortS.init : PortS := ⟨none, none, [], none, none, 0, [], none, none⟩

/-- A Berth at reset: empty; the active set holds the registers' reset values. -/
def BerthS.init : BerthS := ⟨[], 1, false, 0, 0, 0, 0, [], [], false, 0⟩

/-- A Tide Table at reset: no list (R136). -/
def TideS.init : TideS := ⟨[], none, none, [], false, 0⟩

/-- A Quay at reset: empty. -/
def QuayS.init : QuayS := ⟨[], []⟩

/-- An engine at reset. -/
def EngS.init : EngS := ⟨false, false⟩

/-- The plane at reset. -/
def PlaneS.init : PlaneS := ⟨[], [], [], [], [], [], [], [], 0⟩

/-- A CFG record at reset (R213). -/
def BrkwCfg.init : BrkwCfg where
  mode := 0
  algo := 0
  individual := false
  seqSrc := 0
  ext := 0
  gen := 0
  rtagPop := false
  latentEn := false
  refPath := 0
  histLen := 128
  skewNs := 0
  resetMs := 2000
  latentDiff := 100
  dlRegion := 0xFFFFFFFF
  histRegion := 0xFFFFFFFF
  genNext := 0
  latentPaths := 2
  latentPeriod := 2000
  latentReset := 30000

/-- A path entry at reset. -/
def BrkwPath.init : BrkwPath := ⟨false, false, 0, 0, 0, none⟩

/-- An instance at reset: take_any is set (R196). -/
def Brkw.init : Brkw := ⟨BrkwCfg.init, List.replicate 8 BrkwPath.init, 0, none, 0, true, [], [], false, 0, 0, 0⟩

/-- The instances at reset. RST_N is the first of the events that count in RESETS only where an instance is used; the
counters read 0 (R213). -/
def BrkwS.init : BrkwS := ⟨[], [], [], none⟩

/-- An empty ring. -/
def Ring.init : Ring := ⟨[], [], 0, 0⟩

/-- A region at reset: not valid. -/
def Region.init : Region where
  valid := false
  kind := 0
  quad := 0
  handle := 0
  pages := []
  bound := false
  port := 0
  trigger := 0
  force := false
  drain := 0
  surplus := 0
  ageMs := 0
  padNs := 100000
  arm := false
  ring := false
  spill := 0
  rate := 0
  spillPages := 0
  rings := []
  state := 0
  tUp := 0
  drained := 0
  shift := 0

/-- A replay cursor at reset. -/
def Cursor.init : Cursor := ⟨0, 0, false, 0, 0, 0, 0, 0, 0, 0⟩

/-- The store at reset: no region. -/
def StorS.init : StorS := ⟨[], [], [], [], [], [], [], []⟩

end Sys2Proof.Machine
end

