-- ==== Sys2Proof/Syntax.lean ====
section
/-!
DEFINITION. Syntax.lean: the commands the block takes, one constructor of `Instr` per row of spec/opcode_table.json.
The table gives no operands: what each command carries is what its rule says the outside world supplies
(notes/assumptions/1.md). Whatever the device holds itself is read from the state and is no operand.
-/
namespace Sys2Proof

open Sys2Proof.Machine

/-- Which of the two register paths an access comes by (R446). -/
inductive Src where
  /-- The host driver, over PCI Express. -/
  | host
  /-- The Hjelpofel monitor (R414). -/
  | mon
  deriving DecidableEq, Repr

/-- A received fragment mPacket of the MAC merge sublayer (R183): the first fragment of a frame, or a later one. -/
structure MPacket where
  /-- 0 for the first fragment; otherwise a continuation. -/
  cont : Bool
  /-- The frame count carried by the start delimiter, 0-3. -/
  frameCount : Nat
  /-- The start delimiter is one the standard defines. -/
  smdOk : Bool
  /-- The last fragment of its frame. -/
  last : Bool
  /-- The check sequence of the mPacket is right. -/
  crcOk : Bool
  /-- Bytes it carries. -/
  bytes : Bytes
  /-- What the die bridge does to the frame that it starts or completes (R24, R49). -/
  path : Path
  /-- The ingress timestamp of its start delimiter, in units of 2^-16 ns (R170). -/
  ts : Nat
  deriving DecidableEq, Repr

/-- A read of the stream store: of a region or for a cursor, by number, and what the die bridge does to the frame that it
yields (R24, R49). -/
structure StoreRead where
  no : Nat
  x : Cross
  deriving DecidableEq, Repr

/-- The new level of an input pin of a spill slot (R270, R274). -/
structure SlotPin where
  slot : Nat
  low : Bool
  deriving DecidableEq, Repr

/-- How a PMBus transaction ended: acknowledged or not, and whether the PEC byte, if one is used, is right (R39, R46). -/
structure PmbusEnd where
  ack : Bool
  pecOk : Bool
  deriving DecidableEq, Repr

/-- The PTP messages Fened originates: the event messages of R67, a Pdelay_Resp with the ingress time of the Pdelay_Req
that it answers in units of 2^-16 ns, and the general messages of a master port (R65, R77). -/
inductive PtpMsg where
  | sync | delayReq | pdelayReq
  | pdelayResp (t2 : Nat)
  | announce | delayResp
  deriving DecidableEq, Repr

/-- A message that an instance originates, with what the bridge does to it on its way to a port of die B (R24, R49). -/
structure PtpSend where
  msg : PtpMsg
  cross : Cross
  deriving DecidableEq, Repr

/-- What a monitor row carries in the place of its first operand (R412): the operand of its own command, or a line as it
comes in over MON_RX, without its end; `early` says that it comes before the prompt of the command before it. -/
inductive MonArg where
  | num (v : Nat)
  | line (early : Bool) (text : Bytes)
  deriving DecidableEq, Repr

/-- A scan with the one-bit bypass register: the instruction code, 0xFF or one that R421 does not list, and the bit
shifted in. -/
structure BypassScan where
  code : Nat
  tdi : Nat
  deriving DecidableEq, Repr

/-- The live values of one lane (PORT_LANE). -/
structure LaneState where
  signal : Bool
  cdrLock : Bool
  amLock : Bool
  rxPower : Nat
  txPower : Nat
  deriving DecidableEq, Repr

/-- Why a spill drive stops (R237). -/
inductive SpillFault where
  /-- An I/O error of the drive. -/
  | io
  /-- The drive is removed. -/
  | removed
  /-- Fened stalls. -/
  | stall
  deriving DecidableEq, Repr

/-- The drive in a spill slot, as its link and its NVMe controller present it (R235, R341). -/
structure DriveInfo where
  /-- Capacity of namespace 1 in bytes. -/
  capacity : Nat
  /-- A format ends within 600 s. -/
  formats : Bool
  /-- The link comes up when the slot is powered. -/
  trains : Bool
  speed : Nat
  width : Nat
  tempK : Nat
  pctUsed : Nat
  critWarn : Nat
  mediaErrors : Nat
  deriving DecidableEq, Repr

/-- A completion that reaches the host endpoint (R256-R258, R264). -/
structure Completion where
  /-- 0 successful, 1 unsupported request, 2 configuration retry, 4 completer abort. -/
  status : Nat
  poisoned : Bool
  /-- The bytes it brings: all that its read still wants, or fewer (R256). -/
  bytes : Bytes
  /-- What the die bridge does to a frame that it completes (R24, R285). -/
  cross : Cross
  deriving DecidableEq, Repr

/-- A mailbox request that the host driver writes into a slot and posts (R299, R303). -/
structure Req where
  slot : Nat
  filMajor : Nat
  filMinor : Nat
  timed : Bool
  lateOk : Bool
  tag : Nat
  /-- EXEC_TIME as the 96-bit value of R9. -/
  execTime : Nat
  params : Bytes
  deriving DecidableEq, Repr

/-- A report to the fault collector (R345): source, kind, detail. The class follows from the kind (R347). -/
structure Report where
  source : Nat
  kind : Nat
  addr : Nat
  injected : Bool
  deriving DecidableEq, Repr

/-- What the peer's ERR and ALIVE pins say (R373): a complementary pair shows healthy or fault, and with an equal pair
the ALIVE input may still toggle. -/
inductive PeerPins where
  | up (healthy : Bool)
  | failed (healthy : Bool)
  | silent (toggling : Bool)
  deriving DecidableEq, Repr

/-- The strapping pins that RST_N latches. -/
structure Straps where
  duoRank : Bool
  monEn : Bool
  ftest : Bool
  deriving DecidableEq, Repr

/-- What a peer says of itself when it asks to join (R388). -/
structure PeerInfo where
  serial : Nat
  filMajor : Nat
  filMinor : Nat
  stepLog : Nat
  rank : Bool
  part : Nat
  /-- It asks this unit to serve; otherwise it answers this unit's own request. -/
  asks : Bool
  /-- It holds a claim. -/
  claims : Bool
  /-- It is SOLO. -/
  solo : Bool
  deriving DecidableEq, Repr

/-- What an Announce message carries (R59, R77). -/
structure Announce where
  utcOffset : Nat
  leap59 : Bool
  leap61 : Bool
  gmClass : Nat
  gmId : Nat
  stepsRemoved : Nat
  /-- The port state that the best master algorithm of the profile gives this port. -/
  portState : Nat
  deriving DecidableEq, Repr

/-- One entry of a step record (R375). Times are 96-bit values of R9; a COMMAND entry carries the command itself, whose
register effects the standby applies, and so does a TIMED entry. -/
inductive StepEntry where
  | run (handle count rx gen anchor : Nat)
  | command (opcode at_ : Nat) (params : Bytes)
  | timed (handle opcode exec : Nat) (params : Bytes)
  | handover (p at_ : Nat)
  | tide (p op at_ start : Nat)
  | replay (cur op l : Nat)
  | swap (epoch : Nat)
  | empty (epoch : Nat)
  deriving DecidableEq, Repr

/-- A step record of the duo link (R375). -/
structure StepRecord where
  epoch : Nat
  entries : List StepEntry
  deriving DecidableEq, Repr


/-- The commands of the block: one constructor per row of the opcode table. -/
inductive Instr where
  /-- REGISTER_WRITE (R11): A host or monitor write to a BAR0 register that has no row of its own: the field is set, cleared or dropped under its block's rules. -/
  | registerWrite (src : Src) (off len data : Nat)
  /-- FRAME_RX_START (R20): The MAC accepts a frame start; the frame is timestamped, identified, policed, recovered, numbered, tapped, replicated and enqueued. -/
  | frameRxStart (p ts : Nat) (path : Path) (bytes : Bytes)
  /-- FRAME_RX_END (R167): The frame's end arrives and the MAC classifies it; stream and port counters update and rejected cut-through copies are aborted. -/
  | frameRxEnd (p len : Nat) (fcsOk : Bool)
  /-- MPACKET_RX (R183): A received fragment mPacket is reassembled, or discarded on a frame-count or SMD error. -/
  | mpacketRx (p : Nat) (m : MPacket)
  /-- VERIFY_MPACKET_RX (R179): A received verify mPacket is answered with a response mPacket. -/
  | verifyMpacketRx (p : Nat)
  /-- RESPONSE_MPACKET_RX (R179): A received response mPacket moves the verify status to SUCCEEDED. -/
  | responseMpacketRx (p : Nat)
  /-- SCHEDULER_SELECTION (R114): When the MAC can take a frame, the scheduler picks the port's next frame by class, launch time, finish tag, shaper and gate fit. -/
  | schedulerSelection (p : Nat)
  /-- HAND_OFF_TIME (R114): A timed frame's launch time less the staging lead is reached and the frame is handed towards its Quay. -/
  | handOffTime (p : Nat)
  /-- SHAPER_CREDIT_RETURN (R119): A Berth's shaper balance accrues back to zero and the Berth re-enters the race. -/
  | shaperCreditReturn (b : Nat)
  /-- QUAY_ARRIVAL (R153): A timed frame reaches its Quay; the transit monitor updates and a late arrival meets its policy. -/
  | quayArrival (g transit : Nat)
  /-- QUAY_LAUNCH (R156): At a staged frame's wire instant, the Quay launches it or judges it late or colliding. -/
  | quayLaunch (p : Nat)
  /-- TIDE_ENTRY_START (R142): A Tide Table entry starts and sets the gates and the hold state. -/
  | tideEntryStart (p : Nat)
  /-- HOLD_ADVANCE_EVENT (R151): Hold is asserted HOLD_ADVANCE before a SetAndHold entry. -/
  | holdAdvanceEvent (p : Nat)
  /-- RELEASE_ADVANCE_EVENT (R151): Hold is released RELEASE_ADVANCE before a SetAndRelease entry. -/
  | releaseAdvanceEvent (p : Nat)
  /-- TIDE_SWITCH (R140): At S, the pending list becomes operational and a Berth hand-over starts. -/
  | tideSwitch (p : Nat)
  /-- TIDE_MIRROR_COPY_END (R140): The copy of the committed list into the administrative bank ends and LOCKED clears. -/
  | tideMirrorCopyEnd (p : Nat)
  /-- TIDE_CTRL_COMMIT (R137): A COMMIT write checks the administrative list and makes it pending with start S. -/
  | tideCtrlCommit (src : Src) (p data : Nat)
  /-- TIDE_CTRL_CANCEL (R139): A CANCEL write ends the pending commit. -/
  | tideCtrlCancel (src : Src) (p data : Nat)
  /-- TIDE_CTRL_STOP (R141): A STOP write cancels the pending commit, ends the operational list and returns the gates to IDLE_GATES. -/
  | tideCtrlStop (src : Src) (p data : Nat)
  /-- HANDOVER (R127): A HANDOVER write to SCHD_BERTH_STATE starts a hand-over of the Berth's port. -/
  | handover (src : Src) (b data : Nat)
  /-- HANDOVER_COPY_END (R128): The hand-over exchange ends, balances are restated and held accesses land. -/
  | handoverCopyEnd (p : Nat)
  /-- SCHD_BERTH_CFG_WRITE (R112): A write of a Berth's CFG assigns, releases or shadows its parameters. -/
  | schdBerthCfgWrite (src : Src) (b data : Nat)
  /-- SCHD_BERTH_SHAPER_WRITE (R126): A write of a Berth's shaper goes to the shadow and sets SHADOW_PEND. -/
  | schdBerthShaperWrite (src : Src) (b data : Nat)
  /-- STREAM_GATE_SWITCH (R103): At its start, a pending stream gate list becomes operational. -/
  | streamGateSwitch (gate : Nat)
  /-- STREAM_GATE_ENTRY (R102): A stream gate entry starts and its octet count restarts. -/
  | streamGateEntry (gate : Nat)
  /-- EGRESS_POOL_FREE (R98): An old egress list's entries become free once every frame identified under it has been replicated. -/
  | egressPoolFree
  /-- STRM_KEY_INSERT (R83): The INSERT operation on KEY places a key entry, with relocation and the overflow store. -/
  | strmKeyInsert (src : Src) (data : Nat)
  /-- STRM_KEY_DELETE (R84): The DELETE operation on KEY removes a key entry from all replicas. -/
  | strmKeyDelete (src : Src) (data : Nat)
  /-- STRM_KEY_LOOKUP (R108): The LOOKUP operation on KEY returns the key's handle. -/
  | strmKeyLookup (src : Src) (data : Nat)
  /-- STRM_HANDLE_WRITE (R85): The WRITE operation on HANDLE creates or updates a handle record atomically in every replica. -/
  | strmHandleWrite (src : Src) (data : Nat)
  /-- STRM_HANDLE_DELETE (R85): The DELETE operation on HANDLE deletes its keys and then the handle. -/
  | strmHandleDelete (src : Src) (data : Nat)
  /-- STRM_EGRESS_WRITE (R98): The WRITE operation on EGRESS writes 16 pool entries, with entries in force protected. -/
  | strmEgressWrite (src : Src) (data : Nat)
  /-- STRM_METER_WRITE (R106): The WRITE operation on METER writes a meter record, fills its buckets and checks the store charge. -/
  | strmMeterWrite (src : Src) (data : Nat)
  /-- STRM_GATE_CFG_WRITE (R103): The WRITE operation on GATE_CFG sets a stream gate configuration and clears latches, under the commit lock. -/
  | strmGateCfgWrite (src : Src) (data : Nat)
  /-- STRM_GATE_COMMIT (R103): The COMMIT bit of a GATE_CFG write makes the administrative stream gate list pending. -/
  | strmGateCommit (src : Src) (data : Nat)
  /-- STRM_GATE_CANCEL (R103): The CANCEL bit of a GATE_CFG write cancels the pending stream gate commit. -/
  | strmGateCancel (src : Src) (data : Nat)
  /-- STRM_GATE_LIST_WRITE (R103): The WRITE operation on GATE_LIST writes administrative stream gate entries. -/
  | strmGateListWrite (src : Src) (data : Nat)
  /-- STRM_COUNTERS_CLEAR (R109): The CLEAR operation on COUNTERS zeroes a handle's counters in every quadrant. -/
  | strmCountersClear (src : Src) (data : Nat)
  /-- STRM_READ (R110): The READ operation returns a STRM record or counters into STRM_DATA. -/
  | strmRead (src : Src) (data : Nat)
  /-- SLACK_WINDOW (R36): A 100 µs slack window closes and is judged against the thresholds. -/
  | slackWindow (q : Nat) (periods : List Nat) (tj : Int)
  /-- AVS_LOWER (R44): After a continuous DWELL above LOWER_THR in TRACK mode, the setpoint is lowered by STEP_DOWN. -/
  | avsLower
  /-- AVS_SETTLE (R46): SETTLE after a VOUT_COMMAND passes; READ_VOUT is checked, with one retry and NO_RESP. -/
  | avsSettle
  /-- AVS_READ_VOUT_POLL (R39): READ_VOUT is read every 10 ms. -/
  | avsReadVoutPoll
  /-- PMBUS_TRANSACTION_DONE (R43): A PMBus transaction ends and a pending raise follows. -/
  | pmbusTransactionDone (e : PmbusEnd) (data : Nat)
  /-- AVS_ALERT (R47): AVS_ALERT_N low: STATUS_WORD is read, CLEAR_FAULTS written and AVS_ALERT reported. -/
  | avsAlert
  /-- CORE_AVS_CTRL_WRITE (R42): A write of CORE_AVS_CTRL sets the mode, restarts the engine and clears NO_RESP. -/
  | coreAvsCtrlWrite (src : Src) (data : Nat)
  /-- CORE_AVS_LIMITS_WRITE (R45): A write of the voltage limits may force a setpoint correction. -/
  | coreAvsLimitsWrite (src : Src) (data : Nat)
  /-- CORE_STAGE_LEAD_WRITE (R34): A new staging lead applies to later selections, and frames past their new hand-off go to the Quay at once. -/
  | coreStageLeadWrite (src : Src) (g data : Nat)
  /-- REF_LOSS (R53): No reference edge for 100 ns stops the counters, clears TIME_VALID and reports REF_LOSS. -/
  | refLoss
  /-- REF_RETURN (R53): Reference edges return; the counters resume and a held STEP or LOAD takes effect. -/
  | refReturn
  /-- TIME_CTR_RELOAD (R55): One disagreeing counter is reloaded from the voted time. -/
  | timeCtrReload (k value : Nat)
  /-- TIME_VOTE_SPLIT (R56): All three counters disagree; the one nearest the prediction is selected and SUSPECT set. -/
  | timeVoteSplit (c0 c1 c2 : Nat)
  /-- TIME_CMD_STEP (R60): A STEP write adds TIME_ADJ_OFS to all counters at a reference edge. -/
  | timeCmdStep (src : Src) (data : Nat)
  /-- TIME_CMD_LOAD (R60): A LOAD write sets all counters from TIME_LOAD at a reference edge. -/
  | timeCmdLoad (src : Src) (data : Nat)
  /-- SET_VALID (R61): A SET_VALID write sets TIME_VALID. -/
  | setValid (src : Src) (data : Nat)
  /-- CLEAR_SUSPECT (R56): A CLEAR_SUSPECT write clears TIME_SUSPECT. -/
  | clearSuspect (src : Src) (data : Nat)
  /-- PPS_IN_EDGE (R63): An active PPS_IN edge is timestamped and stored. -/
  | ppsInEdge (rising : Bool)
  /-- PPS_IN_TIMEOUT (R63): No PPS_IN edge for 1.5 s makes PPS_IN invalid. -/
  | ppsInTimeout
  /-- PPS_OUT_PULSE (R64): At each whole second plus OUT_OFS, PPS_OUT pulses as its mode allows. -/
  | ppsOutPulse
  /-- SERVO_UPDATE (R72): Fened selects the servo source and slews or steps the time, changing servo state. -/
  | servoUpdate
  /-- PTP_INTERVAL (R67): Fened originates a PTP event message through a timed Berth at its interval. -/
  | ptpInterval (inst p : Nat) (msg : PtpSend)
  /-- SYNC_RECEIVED (R73): A Sync gives an offset sample, which may be held as a suspected step. -/
  | syncReceived (inst p : Nat) (offset : Int)
  /-- DELAY_EXCHANGE (R73): A delay exchange completes; the filter updates or reloads on a delay step. -/
  | delayExchange (inst p : Nat) (delay : Int)
  /-- SUSPECTED_STEP_TIMEOUT (R73): Two delay-request intervals pass without a delay step and the samples apply again. -/
  | suspectedStepTimeout (s : Nat)
  /-- SYNC_TIMEOUT (R72): A PTP source receives no Sync for three intervals and becomes invalid. -/
  | syncTimeout (s : Nat)
  /-- CONFIRM_EXPIRY (R76): CONFIRM_S ends; the new delay is accepted and DELAY_ACCEPTED reported. -/
  | confirmExpiry (s : Nat)
  /-- READMIT_EXPIRY (R75): An excluded source stayed within tolerance for READMIT_S and is re-admitted. -/
  | readmitExpiry (s : Nat)
  /-- HOLD_SPEC_EXPIRY (R77): HOLD_SPEC_S passes in HOLDOVER; HOLD_SPEC_OUT is set and clockClass drops. -/
  | holdSpecExpiry
  /-- SPLIT_WRITE (R164): A write of SPLIT changes the group's port layout, stopping and starting ports. -/
  | splitWrite (src : Src) (g data : Nat)
  /-- ENGINE_EN_WRITE (R403): A write of ENGINE_EN starts an engine into STARTING or stops it. -/
  | engineEnWrite (src : Src) (g data : Nat)
  /-- ENGINE_START_DONE (R403): An engine ends its start: microcode load, laser check and calibration, then RUNNING or a hold. -/
  | engineStartDone (g laser mcodeMin mcodeMax : Nat)
  /-- LASER_SAMPLE (R171): The laser input is sampled and may report LASER_LOW or enter LASER_HOLD. -/
  | laserSample (g : Nat) (input : Int)
  /-- LASER_HOLD_END (R171): The input stays above LOW_THR for 100 ms and the engine returns to RUNNING. -/
  | laserHoldEnd (g : Nat)
  /-- ENGINE_TEMP_SAMPLE (R172): The case temperature is read and may report ENGINE_HOT or trip TEMP_HOLD. -/
  | engineTempSample (g : Nat) (temp : Int)
  /-- TEMP_HOLD_END (R172): The case stays below 65 °C for 10 s and the engine leaves TEMP_HOLD. -/
  | tempHoldEnd (g : Nat)
  /-- PORT_ENABLE_WRITE (R174): A write of ENABLE starts or stops a port's link bring-up. -/
  | portEnableWrite (src : Src) (p data : Nat)
  /-- RECEIVE_ALIGNED (R175): The lanes lock, deskew and lock FEC with no fault, and the port enters UP_HOLD. -/
  | receiveAligned (p : Nat) (lanes : List LaneState)
  /-- UP_HOLD_EXPIRY (R175): UP_HOLD_MS passes without a fault and the port enters UP, starting verification. -/
  | upHoldExpiry (p : Nat)
  /-- LOCAL_FAULT (R176): Loss of signal or alignment moves the port to DOWN_HOLD or ACQUIRING. -/
  | localFault (p : Nat) (lanes : List LaneState)
  /-- REMOTE_FAULT (R176): A received remote fault moves the port to DOWN_HOLD or ACQUIRING. -/
  | remoteFault (p : Nat)
  /-- DOWN_HOLD_EXPIRY (R176): DOWN_HOLD ends in UP if no fault is present, otherwise in ACQUIRING. -/
  | downHoldExpiry (p : Nat)
  /-- FEC_WINDOW (R177): A 1 ms FEC window ends and FEC_DEGRADED is set or cleared. -/
  | fecWindow (p : Nat) (lane symbols corr uncorr : Nat)
  /-- VERIFY_TIMEOUT (R179): VERIFY_MS passes without a response; another verify mPacket is sent or FAILED is reached. -/
  | verifyTimeout (p : Nat)
  /-- PORT_MM_RESTART (R179): The RESTART bit returns the verify status to INITIAL. -/
  | portMmRestart (src : Src) (p data : Nat)
  /-- BRKW_CFG_WRITE (R200): The WRITE operation on CFG sets an instance's mode and parameters under the ALIGN, history and lock checks. -/
  | brkwCfgWrite (src : Src) (data : Nat)
  /-- BRKW_PATHS_WRITE (R201): The WRITE operation on PATHS sets the path table and restarts offset learning. -/
  | brkwPathsWrite (src : Src) (data : Nat)
  /-- BRKW_READ (R212): The READ operation returns an instance record into BRKW_DATA. -/
  | brkwRead (src : Src) (data : Nat)
  /-- BRKW_COUNTERS_CLEAR (R213): The CLEAR operation on COUNTERS zeroes the fourteen instance counters. -/
  | brkwCountersClear (src : Src) (data : Nat)
  /-- BRKW_PATH_CNT_CLEAR (R213): The CLEAR operation on PATH_CNT zeroes one path's counters. -/
  | brkwPathCntClear (src : Src) (data : Nat)
  /-- BRKW_OP_RESET_SEQ (R196): The RESET_SEQ operation sets take_any and clears the history. -/
  | brkwOpResetSeq (src : Src) (data : Nat)
  /-- ALIGN_RELEASE (R203): A ring head reaches its release instant less 20 µs; it is read, passes step 8 and is enqueued with its launch time. -/
  | alignRelease (n : Nat) (path : Path)
  /-- RESET_MS_SILENCE (R196): No copy accepted for RESET_MS sets take_any. -/
  | resetMsSilence (n : Nat)
  /-- LATENT_PERIOD (R210): At each LATENT_PERIOD_MS, the latent error test runs. -/
  | latentPeriod (n : Nat)
  /-- LATENT_RESET (R210): At each LATENT_RESET_MS, the private counts are reset. -/
  | latentReset (n : Nat)
  /-- STOR_REGION_WRITE (R221): The WRITE operation on REGION creates or resizes a region under the charge and page checks. -/
  | storRegionWrite (src : Src) (data : Nat)
  /-- STOR_REGION_DELETE (R222): The DELETE operation on REGION frees its pages and charge. -/
  | storRegionDelete (src : Src) (data : Nat)
  /-- STOR_HOLD_WRITE (R223): The WRITE operation on HOLD binds and configures a hold region. -/
  | storHoldWrite (src : Src) (data : Nat)
  /-- STOR_RECORD_WRITE (R229): The WRITE operation on RECORD sets arm, ring, replay rate and spill. -/
  | storRecordWrite (src : Src) (data : Nat)
  /-- STOR_COUNTERS_CLEAR (R239): The CLEAR operation on COUNTERS zeroes a region's counters. -/
  | storCountersClear (src : Src) (data : Nat)
  /-- STOR_REPLAY_START (R233): The START operation on REPLAY schedules a replay on a cursor. -/
  | storReplayStart (src : Src) (data : Nat)
  /-- STOR_REPLAY_STOP (R234): The STOP operation on REPLAY ends a replay at once. -/
  | storReplayStop (src : Src) (data : Nat)
  /-- STOR_READ (R238): The READ operation returns a STOR record, state or page map. -/
  | storRead (src : Src) (data : Nat)
  /-- HOLD_STATE_CHANGE (R224): 1 µs after an egress path change, a hold region enters HOLDING, DRAINING or DIRECT. -/
  | holdStateChange (r : Nat)
  /-- HOLD_DRAIN_READ (R226): A paced or shifted drain read takes a frame from the hold ring and enqueues it. -/
  | holdDrainRead (r : StoreRead)
  /-- REPLAY_READ (R234): A paced replay read takes the next record and enqueues it, or ends the replay. -/
  | replayRead (cur : StoreRead)
  /-- SCRUB_PASS (R217): The scrubber reads and corrects store lines once per PERIOD_H. -/
  | scrubPass
  /-- SPILL_PAGE_WRITTEN (R235): A window page's write and Flush complete and the page returns to the window. -/
  | spillPageWritten (slot r : Nat)
  /-- SPILL_READ_COMPLETE (R235): An extent page read back ahead of need arrives in the window. -/
  | spillReadComplete (slot r : Nat)
  /-- SPILL_IO (R237): A drive fault, removal or Fened stall stops copying and sets FAULT. -/
  | spillIo (slot : Nat) (why : SpillFault)
  /-- SPILL_CPL_TIMEOUT (R269): A drive read is not completed in 50 ms. -/
  | spillCplTimeout (slot : Nat)
  /-- PERST_N_ASSERT (R262): PERST_N assertion resets host-facing state and stops DMA. -/
  | perstNAssert
  /-- PERST_N_RELEASE (R263): PERST_N release starts link training. -/
  | perstNRelease
  /-- FUNCTION_READY (R263): The host function becomes ready and the mailbox opens. -/
  | functionReady
  /-- HOT_RESET (R262): A hot reset resets host-facing state and releases claims. -/
  | hotReset
  /-- INITIATE_FLR (R264): An Initiate FLR write starts a function-level reset and quarantines outstanding tags. -/
  | initiateFlr
  /-- FLR_COMPLETE (R264): The function-level reset completes within 10 ms. -/
  | flrComplete
  /-- HOST_LINK_DOWN (R266): DL_Down halts DMA channels, closes the mailbox and logs HOST_LINK_DOWN. -/
  | hostLinkDown
  /-- HOST_LINK_UP (R266): The host link returns and the function presents its reset state. -/
  | hostLinkUp (speed width : Nat)
  /-- BUS_MASTER_ENABLE_CLEAR (R250): Clearing Bus Master Enable stops new requests and stops DMA channels with BME_OFF. -/
  | busMasterEnableClear
  /-- BUS_MASTER_ENABLE_SET (R250): Setting Bus Master Enable sends messages for pending unmasked vectors. -/
  | busMasterEnableSet
  /-- CONFIG_SPACE_WRITE (R241): A configuration write sets a header or capability field, such as Memory Space Enable or the completion timeout value. -/
  | configSpaceWrite (off data : Nat)
  /-- RESIZABLE_BAR_WRITE (R245): A BAR Size write resizes BAR2/3 while Memory Space Enable is 0. -/
  | resizableBarWrite (data : Nat)
  /-- PM_CONTROL_WRITE (R259): A PM Control write moves the function between D0 and D3hot. -/
  | pmControlWrite (data : Nat)
  /-- PME_TURN_OFF (R259): PME_Turn_Off is acknowledged and the link moves towards L2 and D3cold. -/
  | pmeTurnOff
  /-- ASPM_L1_ENTRY (R261): 7 µs idle with L1 enabled enters L1. -/
  | aspmL1Entry
  /-- ASPM_L1_EXIT (R261): A request or completion to send leaves L1. -/
  | aspmL1Exit
  /-- MSIX_VECTOR_UNMASK (R248): Unmasking a vector with its pending bit set sends its message. -/
  | msixVectorUnmask (v : Nat)
  /-- APERTURE_READ (R247): A BAR2/3 read returns stored bytes, poisoned on an uncorrectable line. -/
  | apertureRead (off len : Nat)
  /-- APERTURE_WRITE (R247): A BAR2/3 write is applied to the store, or dropped without WRITE_EN. -/
  | apertureWrite (off : Nat) (bytes : Bytes) (poisoned : Bool)
  /-- HOST_APER_BASE_WRITE (R246): A write of APER_BASE moves the aperture for later requests. -/
  | hostAperBaseWrite (src : Src) (data : Nat)
  /-- BAR_ACCESS_ERROR (R244): A BAR0 access wider than 8 bytes or crossing a boundary gets Unsupported Request or is dropped and counted. -/
  | barAccessError (write : Bool) (off len : Nat)
  /-- COMPLETION_RECEIVED (R258): A completion arrives and is written, or ends its descriptor with CPL_ERROR or POISON, or is discarded as unexpected. -/
  | completionReceived (tag : Nat) (cpl : Completion)
  /-- COMPLETION_TIMEOUT (R256): A read's timeout expires; the descriptor ends CPL_TIMEOUT and the tag is quarantined. -/
  | completionTimeout (tag : Nat)
  /-- TAG_QUARANTINE_END (R256): A quarantined tag's period ends and it may be reused. -/
  | tagQuarantineEnd (tag : Nat)
  /-- SLOT_PRESENCE_CHANGE (R271): A drive is inserted or removed; a powered slot shuts down on removal. -/
  | slotPresenceChange (slot : Nat) (drive : Option DriveInfo)
  /-- SLOT_POWER_FAULT (R271): SPx_PWRFLT_N low removes slot power and sets PWR_FAULT_SEEN. A high
  level ends the fault (R270, R274). -/
  | slotPowerFault (pin : SlotPin)
  /-- ATTENTION_BUTTON_PRESS (R272): A debounced button press starts or cancels the power sequence. A low level
  is a press; a high level lets the button go (R270, R274). -/
  | attentionButtonPress (pin : SlotPin)
  /-- BUTTON_SEQUENCE_TIMEOUT (R272): 5 s after the press, Fened shuts the drive down or powers the slot up. -/
  | buttonSequenceTimeout (slot : Nat)
  /-- NVME_SHUTDOWN_COMPLETE (R272): The drive's shutdown completes, or 1 s passes, and slot power goes off. -/
  | nvmeShutdownComplete (slot : Nat)
  /-- SPILL_LINK_CHANGE (R271): A spill link comes up or goes down, setting LINK_CHG. -/
  | spillLinkChange (slot : Nat) (up : Bool) (speed width : Nat)
  /-- DMA_START (R284): START sends a held writeback and resumes the channel at HEAD. -/
  | dmaStart (src : Src) (ch data : Nat)
  /-- DMA_STOP (R283): STOP stops the channel with CAUSE STOPPED. -/
  | dmaStop (src : Src) (ch data : Nat)
  /-- DMA_RESET (R284): RESET returns the channel to IDLE with zeroed indices. -/
  | dmaReset (src : Src) (ch data : Nat)
  /-- DMA_TAIL_WRITE (R276): A TAIL write hands descriptors to the channel, or is dropped. -/
  | dmaTailWrite (src : Src) (ch data : Nat)
  /-- DMA_CH_CFG_WRITE (R286): A CFG write sets ring size, receive class and request line in IDLE or STOPPED. -/
  | dmaChCfgWrite (src : Src) (ch data : Nat)
  /-- DESCRIPTOR_FETCHED (R276): A descriptor fetch read completes. -/
  | descriptorFetched (ch : Nat) (bytes : Bytes)
  /-- DESCRIPTOR_EXECUTE (R280): After the previous writeback, the next descriptor is checked and its data requests are issued. -/
  | descriptorExecute (ch : Nat)
  /-- DESCRIPTOR_COMPLETE (R281): All writes are acknowledged or the flush read completes; the writeback and MSI-X follow. -/
  | descriptorComplete (ch : Nat)
  /-- RX_CLASS_DELIVERY (R286): A waiting receive-class frame is written to the next FRAME_RX descriptor. -/
  | rxClassDelivery (ch : Nat)
  /-- DMA_REQ_ENABLE (R288): Setting EN of a request line loads PTR with the oldest stored byte. -/
  | dmaReqEnable (src : Src) (r data : Nat)
  /-- REQUEST_BURST (R288): An asserted request line starts a burst of the bound S2H descriptor. -/
  | requestBurst (r : Nat)
  /-- MBX_POST (R299): A POST bit moves a FREE slot to POSTED. -/
  | mbxPost (src : Src) (data : Nat)
  /-- MBX_RELEASE (R299): A RELEASE bit returns a DONE slot to FREE. -/
  | mbxRelease (src : Src) (data : Nat)
  /-- MBX_ACCEPT (R300): Fened takes the next posted slot, checks the command and executes or schedules it. -/
  | mbxAccept
  /-- TIMED_EXECUTE (R309): A pending timed command reaches EXEC_TIME and executes, queuing TIMED_DONE. -/
  | timedExecute
  /-- IDENTIFY (R333): Returns the unit's identification. -/
  | identify (r : Req)
  /-- GET_STATE (R333): Returns Fened, duo, servo and fault state. -/
  | getState (r : Req)
  /-- RESET (R334): Clears LATCHED, restarts Fened or resets the unit according to SCOPE. -/
  | reset (r : Req)
  /-- CLAIM (R314): Grants an expert claim on one function. -/
  | claim (r : Req)
  /-- RELEASE (R317): Ends a claim; Fened re-reads and checks the function's registers. -/
  | release (r : Req)
  /-- CANCEL_TIMED (R310): Cancels a pending timed command. -/
  | cancelTimed (r : Req)
  /-- LIST_TIMED (R333): Lists pending timed commands. -/
  | listTimed (r : Req)
  /-- FW_BEGIN (R323): Erases a firmware slot. -/
  | fwBegin (r : Req)
  /-- FW_WRITE (R335): Writes a piece of a firmware slot. -/
  | fwWrite (r : Req)
  /-- FW_VERIFY (R323): Checks a slot's fit and returns its header. -/
  | fwVerify (r : Req)
  /-- FW_ACTIVATE (R325): Restarts Welcor from a named slot while the data plane runs. -/
  | fwActivate (r : Req)
  /-- ACTIVATION_LOAD_DONE (R325): The boot ROM has checked and loaded the named slot. -/
  | activationLoadDone (ok : Bool)
  /-- FENED_TAKEOVER (R325): The new Fened re-reads registers, resumes the servo and spill and takes over ALIVE. -/
  | fenedTakeover
  /-- ACTIVATION_GRACE_EXPIRY (R325): The 2 s grace ends without takeover; the boot ROM falls back to the previous slot. -/
  | activationGraceExpiry
  /-- FW_QUERY (R335): Returns the state of both firmware slots. -/
  | fwQuery (r : Req)
  /-- FW_SET_MIN_SEC (R335): Raises the fused minimum security version. -/
  | fwSetMinSec (r : Req)
  /-- SAFF_INFO (R336): Returns Saffron section capacities and heads. -/
  | saffInfo (r : Req)
  /-- SAFF_READ (R336): Returns Saffron records from FIRST onwards. -/
  | saffRead (r : Req)
  /-- SAFF_CLEAR (R367): Empties a Saffron section 0–4. -/
  | saffClear (r : Req)
  /-- TIME_GET (R337): Returns time and its status registers. -/
  | timeGet (r : Req)
  /-- TIME_LOAD (R337): Loads the device time by mailbox. -/
  | timeLoad (r : Req)
  /-- TIME_STEP (R337): Steps the device time by mailbox. -/
  | timeStep (r : Req)
  /-- TIME_CFG (R337): Writes the servo, check and PPS configuration. -/
  | timeCfg (r : Req)
  /-- TIME_SRC_SET (R337): Enables a time source and sets its priority. -/
  | timeSrcSet (r : Req)
  /-- TIME_SRC_READMIT (R75): Re-admits an excluded source at once. -/
  | timeSrcReadmit (r : Req)
  /-- TIME_SRC_GET (R337): Returns a time source's record. -/
  | timeSrcGet (r : Req)
  /-- TIME_PORT_SET (R337): Writes a port's asymmetry and PTP configuration. -/
  | timePortSet (r : Req)
  /-- TIME_CLEAR_SUSPECT (R337): Clears TIME_SUSPECT by mailbox. -/
  | timeClearSuspect (r : Req)
  /-- PTP_INST_SET (R338): Creates or replaces a PTP instance. -/
  | ptpInstSet (r : Req)
  /-- PTP_INST_DELETE (R338): Deletes a PTP instance. -/
  | ptpInstDelete (r : Req)
  /-- PTP_INST_GET (R337): Returns a PTP instance's configuration and state. -/
  | ptpInstGet (r : Req)
  /-- PORT_GROUP_SET (R339): Writes a group's engine, split and laser configuration. -/
  | portGroupSet (r : Req)
  /-- PORT_SET (R339): Writes a port's configuration. -/
  | portSet (r : Req)
  /-- PORT_GET (R339): Returns a port's status, configuration and counters. -/
  | portGet (r : Req)
  /-- PORT_GROUP_GET (R339): Returns a group's configuration, status and lanes. -/
  | portGroupGet (r : Req)
  /-- MM_RESTART (R179): Restarts a port's MAC merge verification. -/
  | mmRestart (r : Req)
  /-- PROFILE_SET (R339): Writes a lookup profile. -/
  | profileSet (r : Req)
  /-- PORT_LOOKUP_SET (R339): Writes a port's profiles and default rule. -/
  | portLookupSet (r : Req)
  /-- HANDLE_CREATE (R339): Creates a stream handle with its home quadrant. -/
  | handleCreate (r : Req)
  /-- HANDLE_WRITE (R339): Rewrites a handle record. -/
  | handleWrite (r : Req)
  /-- HANDLE_DELETE (R85): Deletes a handle and its keys. -/
  | handleDelete (r : Req)
  /-- KEY_INSERT (R83): Inserts a key entry. -/
  | keyInsert (r : Req)
  /-- KEY_DELETE (R339): Deletes a key entry. -/
  | keyDelete (r : Req)
  /-- KEY_LOOKUP (R339): Returns the handle of a key. -/
  | keyLookup (r : Req)
  /-- EGRESS_SET (R98): Places a new egress list in the pool and points the handle at it. -/
  | egressSet (r : Req)
  /-- METER_SET (R106): Writes a flow meter record. -/
  | meterSet (r : Req)
  /-- GATE_CFG_SET (R339): Writes a stream gate configuration. -/
  | gateCfgSet (r : Req)
  /-- GATE_LIST_WRITE (R339): Writes stream gate list entries. -/
  | gateListWrite (r : Req)
  /-- GATE_COMMIT (R103): Commits or cancels a stream gate list. -/
  | gateCommit (r : Req)
  /-- STREAM_GET (R339): Returns a handle record, counters and egress entries. -/
  | streamGet (r : Req)
  /-- STREAM_CLEAR (R339): Clears a handle's counters. -/
  | streamClear (r : Req)
  /-- FILTER_UNLATCH (R339): Clears the BLOCKED, MAFR and gate latches. -/
  | filterUnlatch (r : Req)
  /-- STRM_USAGE_GET (R339): Returns stream table usage. -/
  | strmUsageGet (r : Req)
  /-- PORT_STRM_CNT_GET (R339): Returns a port's stream counters. -/
  | portStrmCntGet (r : Req)
  /-- BERTH_SET (R339): Writes a Berth's configuration and shaper, allocating on request. -/
  | berthSet (r : Req)
  /-- BERTH_GET (R126): Returns a Berth's active and shadow sets, state and counters. -/
  | berthGet (r : Req)
  /-- BERTH_RELEASE (R112): Releases a Berth and discards its frames. -/
  | berthRelease (r : Req)
  /-- TIDE_CFG_SET (R339): Writes a port's base, cycle, port configuration and masks. -/
  | tideCfgSet (r : Req)
  /-- TIDE_WRITE (R339): Writes administrative Tide Table entries. -/
  | tideWrite (r : Req)
  /-- TIDE_COMMIT (R137): Commits, cancels or stops a port's Tide Table. -/
  | tideCommit (r : Req)
  /-- TIDE_GET (R339): Returns a port's Tide Table status and counters. -/
  | tideGet (r : Req)
  /-- TIDE_READ (R339): Returns Tide Table entries from a bank. -/
  | tideRead (r : Req)
  /-- PORT_HANDOVER (R127): Starts, or arms for its instant, a hand-over of a port. -/
  | portHandover (r : Req)
  /-- BRKW_SET (R340): Writes a Breakwater instance's CFG, PATHS or both. -/
  | brkwSet (r : Req)
  /-- BRKW_GET (R340): Returns an instance's records, state and counters. -/
  | brkwGet (r : Req)
  /-- BRKW_PATH_GET (R340): Returns one path's counters. -/
  | brkwPathGet (r : Req)
  /-- BRKW_RESET_SEQ (R196): Resets an instance's sequence recovery. -/
  | brkwResetSeq (r : Req)
  /-- BRKW_CLEAR (R340): Clears an instance's counters or path counters. -/
  | brkwClear (r : Req)
  /-- BRKW_POOL_GET (R340): Returns on-chip history pool use. -/
  | brkwPoolGet (r : Req)
  /-- REGION_CREATE (R221): Creates a store region. -/
  | regionCreate (r : Req)
  /-- REGION_RESIZE (R222): Enlarges or shrinks a region. -/
  | regionResize (r : Req)
  /-- REGION_DELETE (R222): Deletes a region. -/
  | regionDelete (r : Req)
  /-- REGION_GET (R340): Returns a region's records, state and counters. -/
  | regionGet (r : Req)
  /-- HOLD_SET (R223): Writes a hold record. -/
  | holdSet (r : Req)
  /-- HOLD_FORCE (R223): Sets or clears FORCE_DOWN of a hold. -/
  | holdForce (r : Req)
  /-- RECORD_SET (R340): Writes a record region's record. -/
  | recordSet (r : Req)
  /-- RECORD_ARM (R229): Arms or disarms a record region. -/
  | recordArm (r : Req)
  /-- REPLAY_START (R233): Starts a replay on a cursor. -/
  | replayStart (r : Req)
  /-- REPLAY_STOP (R234): Stops a replay. -/
  | replayStop (r : Req)
  /-- REPLAY_GET (R340): Returns a replay cursor's record. -/
  | replayGet (r : Req)
  /-- STORE_GET (R340): Returns store quadrant, ECC, scrub and cursor status. -/
  | storeGet (r : Req)
  /-- SCRUB_SET (R340): Writes the scrub configuration. -/
  | scrubSet (r : Req)
  /-- PAGEMAP_GET (R340): Returns the page addresses and base times of a region. -/
  | pagemapGet (r : Req)
  /-- SPILL_PREPARE (R341): Formats a spill drive's namespace 1. -/
  | spillPrepare (r : Req)
  /-- SPILL_SET (R341): Writes a drive's spill configuration. -/
  | spillSet (r : Req)
  /-- SPILL_GET (R341): Returns spill and slot status. -/
  | spillGet (r : Req)
  /-- SLOT_POWER (R341): Powers a spill slot down or up. -/
  | slotPower (r : Req)
  /-- SLOT_LOCATE (R341): Starts or ends blinking of the attention indicator. -/
  | slotLocate (r : Req)
  /-- DUO_GET (R342): Returns duo state and peer information. -/
  | duoGet (r : Req)
  /-- DUO_CFG (R342): Writes the duo configuration in SOLO. -/
  | duoCfg (r : Req)
  /-- DUO_JOIN (R388): Starts a join with the peer. -/
  | duoJoin (r : Req)
  /-- DUO_LEAVE (R392): Makes the unit SOLO with its ports disabled. -/
  | duoLeave (r : Req)
  /-- DUO_SWAP (R391): Exchanges the roles at an epoch boundary. -/
  | duoSwap (r : Req)
  /-- FLT_GET (R343): Returns the collector's state and first cause. -/
  | fltGet (r : Req)
  /-- FLT_LOG_READ (R352): Returns logged fault messages. -/
  | fltLogRead (r : Req)
  /-- FLT_CFG (R343): Writes QUIET_MS, LIMIT and WINDOW_S. -/
  | fltCfg (r : Req)
  /-- FLT_CLEAR_FIRST (R353): Clears the sticky first cause by mailbox. -/
  | fltClearFirst (r : Req)
  /-- PWR_GET (R343): Returns domain, voltage and temperature state. -/
  | pwrGet (r : Req)
  /-- PWR_DOMAIN_SET (R404): Switches a power domain on or off. -/
  | pwrDomainSet (r : Req)
  /-- SLACK_SET (R343): Writes a quadrant's slack thresholds and target. -/
  | slackSet (r : Req)
  /-- AVS_SET (R343): Writes the adaptive-voltage control and limits. -/
  | avsSet (r : Req)
  /-- STAGE_LEAD_SET (R343): Writes a group's staging lead. -/
  | stageLeadSet (r : Req)
  /-- CORE_GET (R343): Returns core slack, buffer, AVS and bridge status. -/
  | coreGet (r : Req)
  /-- MON_ACCESS (R411): Unlocks or locks monitor writes. -/
  | monAccess (r : Req)
  /-- FREEZE (R344): Sets the mailbox freeze latch after the response. -/
  | freeze (r : Req)
  /-- CAPTURE_READ (R344): Returns bytes of the captured state in FROZEN. -/
  | captureRead (r : Req)
  /-- CAPTURE_RELEASE (R420): Releases the capture and ends FROZEN. -/
  | captureRelease (r : Req)
  /-- FAULT_REPORT (R349): A report reaches the collector and joins or opens a batch. -/
  | faultReport (r : Report)
  /-- FAULT_BATCH_CLOSE (R349): 32 ns after its first report, a batch closes, is ranked, coalesced and logged, and may enter FAULT. -/
  | faultBatchClose
  /-- PAIR_CLOSE (R350): A coalescing pair closes 1 ms after its last report and writes REPEAT_CLOSE. -/
  | pairClose (source kind : Nat)
  /-- QUIET_PERIOD_EXPIRY (R356): QUIET_MS runs out and the collector recovers or latches if no fatal condition is live. -/
  | quietPeriodExpiry (aonMs : Nat)
  /-- FATAL_CONDITION_CLEAR (R356): The last live fatal condition clears and a due recovery takes place. -/
  | fatalConditionClear (aonMs : Nat)
  /-- FENED_STALL (R360): No heartbeat for TIMEOUT_MS stops ALIVE and reports FENED_STALL. -/
  | fenedStall
  /-- FLT_CMD_CLEAR_FIRST (R353): The CLEAR_FIRST bit clears FLT_FIRST_CAUSE and FLT_FIRST_TIME. -/
  | fltCmdClearFirst (src : Src) (data : Nat)
  /-- SAFF_RECORD_WRITE (R364): A queued Saffron record is written, read back and rewritten on a mismatch. -/
  | saffRecordWrite (mismatches : Nat)
  /-- SAFF_READ_CTRL_START (R369): The START bit reads a Saffron record into SAFF_DATA. -/
  | saffReadCtrlStart (src : Src) (data : Nat)
  /-- LIFETIME_SNAPSHOT (R365): Every powered hour, a lifetime SNAPSHOT is written. -/
  | lifetimeSnapshot
  /-- EPOCH_END (R375): A 2 µs epoch ends and the active sends its step record. -/
  | epochEnd
  /-- STEP_RECORD_RX (R375): The standby applies a received step record and acknowledges it. -/
  | stepRecordRx (rec : StepRecord)
  /-- STEP_ACK_RX (R377): The active receives an acknowledgement and releases the held frames of that epoch. -/
  | stepAckRx (epoch roundTrip : Nat)
  /-- ACK_TIMEOUT (R377): A record unacknowledged for 20 µs is a link loss on the active. -/
  | ackTimeout
  /-- RECORD_SILENCE (R383): No record for 4 µs is a link loss on the standby, which enters MUTED. -/
  | recordSilence
  /-- PEER_PIN_CHANGE (R373): The peer reading changes to UP, FAILED or SILENT and may report DUO_PEER_LOST. -/
  | peerPinChange (reading : PeerPins)
  /-- DECISION_WINDOW_OPEN (R384): At SILENCE_US after the last record, the muted standby evaluates its takeover decision. -/
  | decisionWindowOpen
  /-- DECISION_WINDOW_END (R383): The window ends without takeover; unconfirmed frames are discarded. -/
  | decisionWindowEnd
  /-- TAKEOVER_COMPLETE (R383): The log is applied and emission armed; the unit becomes SOLO ACTIVE. -/
  | takeoverComplete
  /-- SOLE_ACTION_STOP (R381): A SECONDARY stops its sole actions SILENCE_US after a link loss. -/
  | soleActionStop
  /-- ORPHAN_EXPIRY (R378): A copy unmatched for 53 µs is discarded and counted in ORPHANS. -/
  | orphanExpiry
  /-- MISSING_EXPIRY (R378): A log entry unmatched for 50 µs is counted in MISSING. -/
  | missingExpiry
  /-- CONFIG_EPOCH_END (R389): The joiner has written the configuration and the STREAM epoch begins. -/
  | configEpochEnd (data : PeerData)
  /-- STREAM_EPOCH_END (R389): The joiner has applied stream states and its queued log; the STORE epoch begins. -/
  | streamEpochEnd (data : PeerData)
  /-- STORE_CATCHUP_END (R389): The store copy ends and both units enter IN_STEP at the next epoch boundary. -/
  | storeCatchupEnd (pages : List (Nat × Bytes))
  /-- JOIN_ABORT (R390): A failure during a join discards the received state and makes the joiner SOLO with ports disabled. -/
  | joinAbort
  /-- RST_N_ASSERT (R400): RST_N low darkens transmitters, drives pins low and stops the slots and host link. -/
  | rstNAssert
  /-- RST_N_RELEASE (R401): RST_N release latches the straps and starts the always-on domain. -/
  | rstNRelease (straps : Straps)
  /-- SUPPLY_OUT_OF_WINDOW (R398): A supply outside its window for 10 µs clears OK and sets LOW_SEEN. -/
  | supplyOutOfWindow (supply : Nat)
  /-- ALWAYS_ON_READY (R401): The always-on domain becomes ready, finds the Saffron heads and starts the boot ROM. -/
  | alwaysOnReady
  /-- BOOT_ROM_LOAD_DONE (R295): The boot ROM finishes its slot checks and starts Fened, or enters RESTRICTED. -/
  | bootRomLoadDone
  /-- MEMORY_TRAINING_DONE (R402): A memory stack ends training as READY or FAILED. -/
  | memoryTrainingDone (m : Nat) (ok : Bool)
  /-- FENED_READY (R401): Fened completes initialisation and reaches READY. -/
  | fenedReady
  /-- PWR_DOMAIN_CTRL_WRITE (R404): A REQ write switches power domains on or off. -/
  | pwrDomainCtrlWrite (src : Src) (data : Nat)
  /-- DOMAIN_READY (R405): A switched-on domain becomes ready, with its quadrant replica copied. -/
  | domainReady (d : Nat)
  /-- BRIDGE_DOWN (R407): A bridge direction stops carrying words and BRIDGE_DOWN is reported. -/
  | bridgeDown (d : Nat)
  /-- BRIDGE_RETRAIN (R407): Every 10 ms, a down bridge direction retrains. -/
  | bridgeRetrain (d : Nat) (ok : Bool)
  /-- STORE_STACK_FAIL (R347): A memory stack stops answering and STORE_STACK_FAIL is reported. -/
  | storeStackFail (m : Nat)
  /-- STACK_AUTO_RETRAIN (R406): 100 ms after a stack fails in service, Fened retrains it once. -/
  | stackAutoRetrain (m : Nat)
  /-- FREEZE_PIN (R415): A rising edge held 50 ns on FREEZE starts a freeze. -/
  | freezePin
  /-- FREEZE_PIN_LOW (R417): The FREEZE pin falls, which may end the freeze. -/
  | freezePinLow
  /-- CAPTURE_COPY_DONE (R419): The capture copy ends, which may end the freeze. -/
  | captureCopyDone
  /-- MAILBOX_LATCH_EXPIRY (R417): The mailbox freeze latch clears 5 s after the freeze started. -/
  | mailboxLatchExpiry
  /-- MON_ID (R413): Monitor ID prints identification and states. -/
  | monId
  /-- MON_RD (R413): Monitor RD prints BAR0 words. -/
  | monRd (off : MonArg) (n : Nat)
  /-- MON_WR (R414): Monitor WR writes one BAR0 word. -/
  | monWr (off : MonArg) (data : Nat)
  /-- MON_SAFF (R413): Monitor SAFF prints Saffron records. -/
  | monSaff (sect seq n : Nat)
  /-- MON_CAP (R420): Monitor CAP prints captured state. -/
  | monCap (off n : Nat)
  /-- MON_FREEZE (R415): Monitor FREEZE sets the monitor freeze latch. -/
  | monFreeze
  /-- MON_THAW (R417): Monitor THAW clears the monitor, JTAG and mailbox freeze latches. -/
  | monThaw
  /-- MON_CAPREL (R420): Monitor CAPREL releases the capture. -/
  | monCaprel
  /-- MON_BAUD (R410): Monitor BAUD changes the serial rate. -/
  | monBaud (rate : Nat)
  /-- MON_FTEST (R423): Monitor FTEST prints a factory-test challenge. -/
  | monFtest
  /-- MON_FTEST_RESP (R423): Monitor FTEST RESP verifies the response and may enter factory test mode. -/
  | monFtestResp (response : Bytes)
  /-- MON_INJECT (R424): Monitor INJECT submits an injected fault report. -/
  | monInject (source kind addr : Nat)
  /-- MON_INJECT_ECC (R424): Monitor INJECT_ECC corrupts symbols of a store line. -/
  | monInjectEcc (addr symbols : Nat)
  /-- JTAG_EXTEST (R421): EXTEST drives the boundary register while RST_N is low. -/
  | jtagExtest (boundary : Nat)
  /-- JTAG_IDCODE (R421): IDCODE shifts out the 32-bit identification. -/
  | jtagIdcode
  /-- JTAG_SAMPLE_PRELOAD (R421): SAMPLE/PRELOAD accesses the boundary register. -/
  | jtagSamplePreload (boundary : Nat)
  /-- JTAG_FREEZE (R421): FREEZE sets the JTAG freeze latch at Update-IR. -/
  | jtagFreeze
  /-- JTAG_THAW (R421): THAW clears the freeze latches at Update-IR. -/
  | jtagThaw
  /-- JTAG_CAP_READ (R421): CAP_READ shifts out capture words from an offset. -/
  | jtagCapRead (off n : Nat)
  /-- JTAG_SAFF_READ (R422): SAFF_READ shifts out the MRAM record at an offset. -/
  | jtagSaffRead (off : Nat)
  /-- JTAG_CAP_RELEASE (R421): CAP_RELEASE releases the capture at Update-IR. -/
  | jtagCapRelease
  /-- JTAG_BYPASS (R421): BYPASS selects the one-bit bypass register. -/
  | jtagBypass (scan : BypassScan)
  /-- FENED_HEARTBEAT (R360): A heartbeat beat from Fened reaches the collector and restarts the TIMEOUT_MS watch, so ALIVE can resume after a stall. -/
  | fenedHeartbeat
  /-- ALIVE_EDGE (R360): Every 500 µs of the always-on timer, ALIVE toggles, and its first edge comes 500 µs after every stop cause has ended. -/
  | aliveEdge
  /-- PPS_OUT_PULSE_END (R64): WIDTH_US after an active edge, PPS_OUT returns to its inactive level. -/
  | ppsOutPulseEnd
  /-- REGISTER_READ (R448): A host read of a BAR0 register latches the _HI companion, captures a 64-bit value for a half read, discards a held low half and waits for earlier posted writes. -/
  | registerRead (src : Src) (off len : Nat)
  /-- PEER_JOIN_ACCEPTED (R388): The peer's join request arrives over the duo link and a SOLO unit enters JOINING as the ACTIVE serving unit. -/
  | peerJoinAccepted (peer : PeerInfo)
  /-- ANNOUNCE_RECEIVED (R59): A PTP Announce message is taken by Fened, updating the UTC offset, leap flags, upstream class and the port's PTP state. -/
  | announceReceived (inst p : Nat) (a : Announce)
  /-- SUPPLY_IN_WINDOW (R398): A supply returns to its window and its live OK bit is set again. -/
  | supplyInWindow (supply : Nat)
  /-- POWER_REMOVAL (R396): The supplies are removed: VDD_AON falls, the pins stop being driven and every state except the Saffron record is lost. -/
  | powerRemoval
  deriving DecidableEq, Repr

end Sys2Proof
end

