-- ==== Sys2Proof/Config.lean ====
section
/-!
DEFINITION. Config.lean: what the spec leaves open, as constants without a body. No proof can see their values, so a
claim that holds holds whatever they are (notes/assumptions/5.md).
-/
namespace Sys2Proof

/-- The free values: the n-th value that the spec leaves open. A use cuts it to the range the spec sets, if any. -/
opaque Config.free : Nat → Nat

/-- The n-th free signed value. -/
opaque Config.freeInt : Nat → Int

/-- What a voltage field of 10 bits shows for a voltage in mV that it cannot hold (R51). -/
opaque Config.overMv : Nat → BitVec 10

/-- The n-th PTP message that Fened originates, but for what R67 has written into it. -/
opaque Config.ptpMessage : Nat → Bytes

/-- Whether an image's header signature verifies against the vendor key fused at manufacture (R294), by the header. -/
opaque Config.imageSigned : Bytes → Bool

/-- SHA-384 of an image body (R293). -/
opaque Config.sha384 : Bytes → Bytes

/-- SHA-256 of a function's registers in a DIGEST record (R365). -/
opaque Config.sha256 : Bytes → Bytes

/-- Whether a factory-test response verifies against the factory key over the challenge and serial number (R423). -/
opaque Config.testSigned : Nat → Nat → Bytes → Bool

/-- A byte of the Saffron record's directory, whose layout the spec does not give, by what it holds and its offset (R361,
R363). -/
opaque Config.dirByte : List (Option Machine.Sect × Option Machine.Sect) → Nat → Byte

/-- The section table of a captured state, which the stepping decides: source, kind, offset and length (R419). -/
opaque Config.capSections : List (Nat × Nat × Nat × Nat)

/-- A byte of a captured state that no rule fixes, by the number of the capture and its offset (R419). -/
opaque Config.capByte : Nat → Nat → Byte

end Sys2Proof
end

