-- ==== Sys2Proof/Machine/RegNames.lean ====
section
/-!
DEFINITION. Machine/RegNames.lean: the names of the BAR0 registers (19_register_blocks.md R443, R444) and of their
fields, as the chapter that owns each block gives them. A register set (several offsets under one name) has one name
per offset, with the offset in hexadecimal after it. RSV fields have no name: they hold nothing (R11, R450).
-/
namespace Sys2Proof.Machine

/-- The registers of BAR0 (R443). -/
inductive Reg where
  | CORE_SLACK_CTRL
  | CORE_SLACK_CFG
  | CORE_SLACK_STATUS
  | CORE_SLACK_MIN
  | CORE_QBUF_STATUS
  | CORE_QBUF_DROP
  | CORE_AVS_CTRL
  | CORE_AVS_LIMITS
  | CORE_AVS_STATUS
  | CORE_AVS_COUNT
  | CORE_STAGE_LEAD
  | CORE_BRIDGE_CNT_00
  | CORE_BRIDGE_CNT_08
  | CORE_BRIDGE_CNT_10
  | CORE_BRIDGE_CNT_18
  | CORE_BRIDGE_CNT_20
  | TIME_NOW
  | TIME_NOW_HI
  | TIME_STATUS
  | TIME_INCR
  | TIME_ADJ_OFS
  | TIME_LOAD
  | TIME_LOAD_HI
  | TIME_CMD
  | TIME_VOTE_CNT
  | TIME_SERVO_CFG
  | TIME_CHECK_CFG
  | TIME_EVT_CNT
  | TIME_PPS_IN_TS
  | TIME_PPS_IN_HI
  | TIME_PPS_CFG
  | TIME_SRC_00
  | TIME_SRC_08
  | TIME_SRC_10
  | TIME_SRC_18
  | TIME_PORT_ASYM
  | TIME_PORT_CFG
  | STRM_INDEX
  | STRM_CMD
  | STRM_STATUS
  | STRM_USAGE
  | STRM_DATA
  | STRM_PROFILE
  | STRM_PORT_CFG
  | STRM_PORT_CNT_00
  | STRM_PORT_CNT_08
  | STRM_PORT_CNT_10
  | STRM_PORT_CNT_18
  | STRM_PORT_CNT_20
  | SCHD_BERTH_CFG
  | SCHD_BERTH_SHAPER
  | SCHD_BERTH_STATE
  | SCHD_BERTH_CNT
  | TIDE_CTRL
  | TIDE_PORT_CFG
  | TIDE_ADMIN_BASE
  | TIDE_ADMIN_BASE_HI
  | TIDE_ADMIN_CYCLE
  | TIDE_PEND_START
  | TIDE_PEND_START_HI
  | TIDE_STATUS
  | TIDE_OPER_BASE
  | TIDE_OPER_BASE_HI
  | TIDE_OPER_CYCLE
  | TIDE_OPER_SWITCH
  | TIDE_OPER_SWITCH_HI
  | TIDE_OPER_INDEX
  | TIDE_OPER_DATA
  | TIDE_CNT_00
  | TIDE_CNT_08
  | TIDE_CNT_10
  | TIDE_CNT_18
  | TIDE_CNT_20
  | TIDE_CNT_28
  | TIDE_ADMIN_ENTRY
  | PORT_GRP_CFG
  | PORT_GRP_STATUS
  | PORT_LASER_CFG
  | PORT_GRP_CNT
  | PORT_LANE_00
  | PORT_LANE_08
  | PORT_CFG
  | PORT_STATUS
  | PORT_FEC_CFG
  | PORT_MM_CFG
  | PORT_MM_STATUS
  | PORT_CNT_00
  | PORT_CNT_08
  | PORT_CNT_10
  | PORT_CNT_18
  | PORT_CNT_20
  | PORT_CNT_28
  | PORT_CNT_30
  | PORT_CNT_38
  | PORT_CNT_40
  | PORT_CNT_48
  | PORT_CNT_50
  | PORT_CNT_58
  | PORT_CNT_60
  | PORT_CNT_68
  | PORT_CNT_70
  | PORT_CNT_78
  | PORT_CNT_80
  | PORT_CNT_88
  | PORT_CNT_90
  | PORT_CNT_98
  | BRKW_INDEX
  | BRKW_CMD
  | BRKW_STATUS
  | BRKW_POOL
  | BRKW_DATA
  | STOR_INDEX
  | STOR_CMD
  | STOR_STATUS
  | STOR_QUAD
  | STOR_ECC_CNT
  | STOR_SCRUB_CFG
  | STOR_CURSORS
  | STOR_SPILL_CFG
  | STOR_SPILL_STAT
  | STOR_DATA
  | HOST_STATUS
  | HOST_APER_BASE
  | HOST_APER_CTRL
  | HOST_QUAR
  | HOST_WAKE_CFG
  | HOST_VEC_MAP
  | HOST_CNT_00
  | HOST_CNT_08
  | HOST_CNT_10
  | HOST_CNT_18
  | HOST_CNT_20
  | HOST_CNT_28
  | HOST_CNT_30
  | HOST_CNT_38
  | HOST_CNT_40
  | SPIL_SLOT_CAP
  | SPIL_SLOT_CTRL
  | SPIL_SLOT_STATUS
  | SPIL_CNT_00
  | SPIL_CNT_08
  | SPIL_CNT_10
  | SPIL_CNT_18
  | SPIL_CNT_20
  | SPIL_CNT_28
  | DMA_CTRL
  | DMA_CH_RING_BASE
  | DMA_CH_CFG
  | DMA_CH_CMD
  | DMA_CH_TAIL
  | DMA_CH_HEAD
  | DMA_CH_STATUS
  | DMA_CH_CNT_00
  | DMA_CH_CNT_08
  | DMA_RX_CNT_00
  | DMA_RX_CNT_08
  | DMA_RX_CNT_10
  | DMA_RX_CNT_18
  | DMA_REQ_00
  | DMA_REQ_08
  | DMA_REQ_10
  | MBX_STATUS
  | MBX_FW_VER
  | MBX_CLAIM
  | MBX_DOORBELL
  | MBX_SLOT_STATE
  | MBX_EVT_WR
  | MBX_EVT_RD
  | MBX_CNT_00
  | MBX_CNT_08
  | MBX_CNT_10
  | MBX_CNT_18
  | MBX_CNT_20
  | FLT_STATUS
  | FLT_FIRST_CAUSE
  | FLT_FIRST_CAUSE_HI
  | FLT_FIRST_TIME
  | FLT_FIRST_TIME_HI
  | FLT_CFG
  | FLT_ALIVE_CFG
  | FLT_CMD
  | FLT_RECOVERIES
  | FLT_LOG_WR
  | FLT_LOG_INDEX
  | FLT_LOG_DATA
  | FLT_LOG_DATA_HI
  | FLT_CNT_00
  | FLT_CNT_08
  | FLT_CNT_10
  | FLT_CNT_18
  | FLT_CNT_20
  | FLT_CNT_28
  | FLT_PINS
  | SAFF_SECT_00
  | SAFF_SECT_08
  | SAFF_READ_CTRL
  | SAFF_DATA
  | SAFF_CNT_00
  | SAFF_CNT_08
  | SAFF_CNT_10
  | DUO_CFG
  | DUO_STATUS
  | DUO_PEER
  | DUO_PEER_INFO
  | DUO_ACK
  | DUO_JOIN_PROG
  | DUO_CNT_00
  | DUO_CNT_08
  | DUO_CNT_10
  | DUO_CNT_18
  | DUO_CNT_20
  | DUO_CNT_28
  | DUO_CNT_30
  | DUO_CNT_38
  | DUO_CNT_40
  | DUO_CNT_48
  | DUO_CNT_50
  | DUO_CNT_58
  | PWR_DOMAIN_STATUS
  | PWR_DOMAIN_CTRL
  | PWR_STRAPS
  | PWR_RESET_CAUSE
  | PWR_BOOT_NO
  | PWR_SUPPLY
  | PWR_MEM_STATUS
  | PWR_MILESTONE
  | PWR_CNT_00
  | PWR_CNT_08
  | PWR_CNT_10
  | PWR_CNT_18
  | DBG_STATUS
  | DBG_FREEZE_START
  | DBG_FREEZE_START_HI
  | DBG_FREEZE_END
  | DBG_FREEZE_END_HI
  | DBG_CNT_00
  | DBG_CNT_08
  | DBG_CNT_10
  | DBG_CNT_18
  deriving DecidableEq, Repr

/-- The fields of the registers of BAR0. -/
inductive Fld where
  | CORE_SLACK_CTRL_ENABLE
  | CORE_SLACK_CTRL_LOWER_THR
  | CORE_SLACK_CTRL_WARN_THR
  | CORE_SLACK_CTRL_RAISE_THR
  | CORE_SLACK_CFG_TARGET_SIZE
  | CORE_SLACK_STATUS_LOW
  | CORE_SLACK_STATUS_NEG
  | CORE_SLACK_STATUS_LOW_SEEN
  | CORE_SLACK_STATUS_WIN_SLACK
  | CORE_SLACK_MIN_TJ
  | CORE_SLACK_MIN_MIN_SLACK
  | CORE_QBUF_STATUS_PEAK_MIB
  | CORE_QBUF_STATUS_NOW_MIB
  | CORE_QBUF_DROP_COUNT
  | CORE_AVS_CTRL_MODE
  | CORE_AVS_CTRL_PEC
  | CORE_AVS_CTRL_ADDR
  | CORE_AVS_CTRL_STEP_UP
  | CORE_AVS_CTRL_STEP_DOWN
  | CORE_AVS_LIMITS_DWELL_MS
  | CORE_AVS_LIMITS_SETTLE_US
  | CORE_AVS_LIMITS_CEIL_MV
  | CORE_AVS_LIMITS_FLOOR_MV
  | CORE_AVS_STATUS_STATUS_WORD
  | CORE_AVS_STATUS_NO_RESP
  | CORE_AVS_STATUS_ALERT
  | CORE_AVS_STATUS_UNSUP_MODE
  | CORE_AVS_STATUS_BUSY
  | CORE_AVS_STATUS_READ_MV
  | CORE_AVS_STATUS_SET_MV
  | CORE_AVS_COUNT_RAISES
  | CORE_AVS_COUNT_LOWERS
  | CORE_STAGE_LEAD_MARGIN_LOW
  | CORE_STAGE_LEAD_MAX_TRANSIT
  | CORE_STAGE_LEAD_LEAD
  | CORE_BRIDGE_CNT_FRAMES
  | CORE_BRIDGE_CNT_BYTES
  | CORE_BRIDGE_DROP
  | CORE_BRIDGE_CORR
  | CORE_BRIDGE_UNCORR
  | CORE_BRIDGE_CNT_PEAK_RATE
  | TIME_NOW_NOW
  | TIME_NOW_HI_SEC_HI
  | TIME_STATUS_VALID
  | TIME_STATUS_SUSPECT
  | TIME_STATUS_REF_OK
  | TIME_STATUS_PPS_IN_OK
  | TIME_STATUS_FROZEN_SEEN
  | TIME_STATUS_SERVO_STATE
  | TIME_STATUS_SERVO_SRC
  | TIME_STATUS_SPLIT_SEEN
  | TIME_STATUS_RELOAD_SEEN
  | TIME_STATUS_LAST_BAD
  | TIME_STATUS_HOLD_SPEC_OUT
  | TIME_INCR_NS
  | TIME_INCR_FRAC
  | TIME_ADJ_OFS_OFS
  | TIME_LOAD_LOAD
  | TIME_LOAD_HI_LOAD_HI
  | TIME_CMD_SET_VALID
  | TIME_CMD_CLEAR_SUSPECT
  | TIME_CMD_LOAD
  | TIME_CMD_STEP
  | TIME_VOTE_CNT_RELOADS
  | TIME_VOTE_CNT_SPLITS
  | TIME_SERVO_CFG_STEP_THR
  | TIME_SERVO_CFG_LOCK_THR
  | TIME_SERVO_CFG_HOLD_SPEC_S
  | TIME_CHECK_CFG_CONFIRM_S
  | TIME_CHECK_CFG_READMIT_S
  | TIME_CHECK_CFG_DELAY_STEP_NS
  | TIME_CHECK_CFG_CHECK_TOL_NS
  | TIME_EVT_CNT_STEPS
  | TIME_EVT_CNT_EXCLUSIONS
  | TIME_EVT_CNT_HOLDOVERS
  | TIME_EVT_CNT_FREEZES
  | TIME_PPS_IN_TS_TS
  | TIME_PPS_IN_HI_TS_HI
  | TIME_PPS_CFG_OUT_MODE
  | TIME_PPS_CFG_OUT_POL
  | TIME_PPS_CFG_IN_POL
  | TIME_PPS_CFG_WIDTH_US
  | TIME_PPS_CFG_OUT_OFS
  | TIME_PPS_CFG_IN_DELAY
  | TIME_SRC_ENABLE
  | TIME_SRC_PRIORITY
  | TIME_SRC_OFFSET
  | TIME_SRC_MPD
  | TIME_SRC_SRC_VALID
  | TIME_SRC_EXCLUDED
  | TIME_SRC_CONFIRMING
  | TIME_SRC_EXCL_SEEN
  | TIME_PORT_ASYM_ASYM
  | TIME_PORT_CFG_RTC_EN
  | TIME_PORT_CFG_P2P_ADD_LINK
  | TIME_PORT_CFG_INST
  | STRM_INDEX_INDEX
  | STRM_CMD_START
  | STRM_CMD_TABLE
  | STRM_CMD_OP
  | STRM_CMD_BANK
  | STRM_CMD_REPL_SEL
  | STRM_CMD_REPLICA
  | STRM_STATUS_BUSY
  | STRM_STATUS_RESULT
  | STRM_USAGE_OVF_USED
  | STRM_USAGE_KEYS_USED
  | STRM_USAGE_EGR_USED
  | STRM_DATA_DATA
  | STRM_PROFILE_IGN_DST_PORT
  | STRM_PROFILE_IGN_SRC_PORT
  | STRM_PROFILE_IGN_PROTO
  | STRM_PROFILE_IGN_DSCP
  | STRM_PROFILE_IGN_IP_SRC
  | STRM_PROFILE_IGN_DMAC
  | STRM_PROFILE_VALID
  | STRM_PROFILE_PORT_IN_KEY
  | STRM_PROFILE_TAGGED
  | STRM_PROFILE_FUNCTION
  | STRM_PORT_CFG_HOST_CLASS
  | STRM_PORT_CFG_DEF_HANDLE
  | STRM_PORT_CFG_DEF_RULE
  | STRM_PORT_CFG_PROFILES
  | STRM_PORT_CNT_IDENTIFIED
  | STRM_PORT_CNT_UNMATCHED
  | STRM_PORT_CNT_DEFAULT_DROPS
  | STRM_PORT_CNT_TRAPPED
  | STRM_PORT_CNT_LEN_MISMATCH
  | SCHD_BERTH_CFG_VALID
  | SCHD_BERTH_CFG_KIND
  | SCHD_BERTH_CFG_LATE_POLICY
  | SCHD_BERTH_CFG_SHAPER_EN
  | SCHD_BERTH_CFG_TC
  | SCHD_BERTH_CFG_PORT
  | SCHD_BERTH_CFG_MAX_KIB
  | SCHD_BERTH_CFG_WEIGHT
  | SCHD_BERTH_SHAPER_BURST
  | SCHD_BERTH_SHAPER_RATE
  | SCHD_BERTH_STATE_SHADOW_LATE
  | SCHD_BERTH_STATE_SHADOW_PEND
  | SCHD_BERTH_STATE_IN_DEBT
  | SCHD_BERTH_STATE_BACKLOGGED
  | SCHD_BERTH_STATE_REFERENCED
  | SCHD_BERTH_STATE_HANDOVER
  | SCHD_BERTH_STATE_DEPTH
  | SCHD_BERTH_STATE_BALANCE
  | SCHD_BERTH_CNT_SENT
  | SCHD_BERTH_CNT_LATE
  | SCHD_BERTH_CNT_DROPPED
  | TIDE_CTRL_COMMIT
  | TIDE_CTRL_CANCEL
  | TIDE_CTRL_STOP
  | TIDE_CTRL_PREEMPT_MASK
  | TIDE_CTRL_IDLE_GATES
  | TIDE_PORT_CFG_RELEASE_ADVANCE
  | TIDE_PORT_CFG_HOLD_ADVANCE
  | TIDE_PORT_CFG_OVERHEAD
  | TIDE_ADMIN_BASE_BASE
  | TIDE_ADMIN_BASE_HI_BASE_HI
  | TIDE_ADMIN_CYCLE_COUNT
  | TIDE_ADMIN_CYCLE_CYCLE_FRAC
  | TIDE_ADMIN_CYCLE_CYCLE_NS
  | TIDE_PEND_START_START
  | TIDE_PEND_START_HI_START_HI
  | TIDE_STATUS_PENDING
  | TIDE_STATUS_LOCKED
  | TIDE_STATUS_OPER
  | TIDE_STATUS_HOLD
  | TIDE_STATUS_FAIL_SEEN
  | TIDE_STATUS_COMMIT_RESULT
  | TIDE_STATUS_GATES
  | TIDE_OPER_BASE_BASE
  | TIDE_OPER_BASE_HI_BASE_HI
  | TIDE_OPER_CYCLE_CYCLE
  | TIDE_OPER_SWITCH_SWITCH
  | TIDE_OPER_SWITCH_HI_SWITCH_HI
  | TIDE_OPER_INDEX_INDEX
  | TIDE_OPER_DATA_ENTRY
  | TIDE_CNT_SWITCHES
  | TIDE_CNT_COMMIT_FAILS
  | TIDE_CNT_TX_OVERRUN
  | TIDE_CNT_QUAY_LATE
  | TIDE_CNT_QUAY_COLLIDE
  | TIDE_CNT_PREEMPTIONS
  | TIDE_CNT_STEP_SKIPS
  | TIDE_ADMIN_ENTRY_OP
  | TIDE_ADMIN_ENTRY_GATES
  | TIDE_ADMIN_ENTRY_INTERVAL_FRAC
  | TIDE_ADMIN_ENTRY_INTERVAL_NS
  | PORT_GRP_CFG_ENGINE_EN
  | PORT_GRP_CFG_SPLIT
  | PORT_GRP_STATUS_POPULATED
  | PORT_GRP_STATUS_ENGINE_STATE
  | PORT_GRP_STATUS_LASER_LOW_SEEN
  | PORT_GRP_STATUS_LASER_LOSS_SEEN
  | PORT_GRP_STATUS_TEMP_SEEN
  | PORT_GRP_STATUS_MCODE_IF
  | PORT_GRP_STATUS_CASE_TEMP
  | PORT_GRP_STATUS_LASER_IN
  | PORT_LASER_CFG_LOW_THR
  | PORT_LASER_CFG_LOSS_THR
  | PORT_GRP_CNT_LASER_LOSSES
  | PORT_GRP_CNT_TEMP_TRIPS
  | PORT_LANE_RX_POWER
  | PORT_LANE_TX_POWER
  | PORT_LANE_SIGNAL
  | PORT_LANE_CDR_LOCK
  | PORT_LANE_AM_LOCK
  | PORT_LANE_FEC_SYMBOLS
  | PORT_CFG_ENABLE
  | PORT_CFG_MAX_FRAME
  | PORT_CFG_UP_HOLD_MS
  | PORT_CFG_DOWN_HOLD_US
  | PORT_STATUS_LINK_UP
  | PORT_STATUS_REMOTE_FAULT
  | PORT_STATUS_LOCAL_FAULT
  | PORT_STATUS_FEC_DEGRADED
  | PORT_STATUS_LINK_DOWN_SEEN
  | PORT_STATUS_LINK_STATE
  | PORT_STATUS_WIDTH
  | PORT_FEC_CFG_DEG_SET
  | PORT_FEC_CFG_DEG_CLR
  | PORT_MM_CFG_MM_EN
  | PORT_MM_CFG_VERIFY_EN
  | PORT_MM_CFG_RESTART
  | PORT_MM_CFG_ADD_FRAG
  | PORT_MM_CFG_VERIFY_MS
  | PORT_MM_STATUS_MM_ACTIVE
  | PORT_MM_STATUS_VERIFY
  | PORT_MM_STATUS_FAIL_SEEN
  | PORT_MM_STATUS_HOLD
  | PORT_CNT_RX_FRAMES
  | PORT_CNT_RX_BYTES
  | PORT_CNT_RX_FCS_ERRORS
  | PORT_CNT_RX_RUNTS
  | PORT_CNT_RX_OVERSIZE
  | PORT_CNT_RX_MAC_CTRL
  | PORT_CNT_TX_FRAMES
  | PORT_CNT_TX_BYTES
  | PORT_CNT_TX_BAD_FCS
  | PORT_CNT_TX_ABORTS
  | PORT_CNT_TX_OVERSIZE
  | PORT_CNT_FEC_CORR_CW
  | PORT_CNT_FEC_UNCORR_CW
  | PORT_CNT_LINK_DOWNS
  | PORT_CNT_MM_ASS_OK
  | PORT_CNT_MM_ASS_ERRORS
  | PORT_CNT_MM_SMD_ERRORS
  | PORT_CNT_MM_FRAG_RX
  | PORT_CNT_MM_FRAG_TX
  | PORT_CNT_MM_HOLDS
  | BRKW_INDEX_INSTANCE
  | BRKW_CMD_START
  | BRKW_CMD_PATH
  | BRKW_CMD_TABLE
  | BRKW_CMD_OP
  | BRKW_STATUS_BUSY
  | BRKW_STATUS_RESULT
  | BRKW_POOL_BITS_USED
  | BRKW_DATA_DATA
  | STOR_INDEX_INDEX
  | STOR_CMD_START
  | STOR_CMD_TABLE
  | STOR_CMD_OP
  | STOR_STATUS_BUSY
  | STOR_STATUS_RESULT
  | STOR_QUAD_CHARGE_MBPS
  | STOR_QUAD_RETIRED
  | STOR_QUAD_PAGES_FREE
  | STOR_ECC_CNT_CORR
  | STOR_ECC_CNT_UNCORR
  | STOR_SCRUB_CFG_SCRUB_EN
  | STOR_SCRUB_CFG_PERIOD_H
  | STOR_CURSORS_Q3
  | STOR_CURSORS_Q2
  | STOR_CURSORS_Q1
  | STOR_CURSORS_Q0
  | STOR_SPILL_CFG_ENABLE
  | STOR_SPILL_CFG_BUDGET_MBS
  | STOR_SPILL_STAT_READY
  | STOR_SPILL_STAT_FAULT
  | STOR_SPILL_STAT_FAULT_SEEN
  | STOR_SPILL_STAT_FREE_PAGES
  | STOR_DATA_DATA
  | HOST_STATUS_LINK_UP
  | HOST_STATUS_SPEED
  | HOST_STATUS_WIDTH
  | HOST_STATUS_DSTATE
  | HOST_STATUS_LINK_DOWN_SEEN
  | HOST_APER_BASE_APER_BASE
  | HOST_APER_CTRL_WRITE_EN
  | HOST_QUAR_TAGS
  | HOST_WAKE_CFG_SLOT_EN
  | HOST_WAKE_CFG_FLT_EN
  | HOST_WAKE_CFG_EVT_EN
  | HOST_VEC_MAP_EN
  | HOST_VEC_MAP_VECTOR
  | HOST_CNT_UNEXP_CPL
  | HOST_CNT_QUAR_CPL
  | HOST_CNT_CPL_TIMEOUTS
  | HOST_CNT_CPL_ERRORS
  | HOST_CNT_APER_POISON
  | HOST_CNT_APER_WDROP
  | HOST_CNT_BAD_ACCESS
  | HOST_CNT_LINK_DOWNS
  | HOST_CNT_RESETS
  | SPIL_SLOT_CAP_FEATURES
  | SPIL_SLOT_CAP_SLOT
  | SPIL_SLOT_CTRL_PWR_IND
  | SPIL_SLOT_CTRL_ATTN_IND
  | SPIL_SLOT_CTRL_PERST_REL
  | SPIL_SLOT_CTRL_PWR_ON
  | SPIL_SLOT_STATUS_PRESENT
  | SPIL_SLOT_STATUS_PWR_FAULT
  | SPIL_SLOT_STATUS_BTN
  | SPIL_SLOT_STATUS_LINK_UP
  | SPIL_SLOT_STATUS_PRES_CHG
  | SPIL_SLOT_STATUS_PWR_FAULT_SEEN
  | SPIL_SLOT_STATUS_BTN_PRESSED
  | SPIL_SLOT_STATUS_LINK_CHG
  | SPIL_SLOT_STATUS_SPEED
  | SPIL_SLOT_STATUS_WIDTH
  | SPIL_CNT_INSERTIONS
  | SPIL_CNT_REMOVALS
  | SPIL_CNT_PWR_FAULTS
  | SPIL_CNT_LINK_DOWNS
  | SPIL_CNT_CPL_TIMEOUTS
  | SPIL_CNT_BTN_PRESSES
  | DMA_CTRL_STORE_WR_EN
  | DMA_CH_RING_BASE_BASE
  | DMA_CH_CFG_REQ_EN
  | DMA_CH_CFG_REQ_LINE
  | DMA_CH_CFG_RX_EN
  | DMA_CH_CFG_RX_CLASS
  | DMA_CH_CFG_SIZE_LOG2
  | DMA_CH_CMD_RESET
  | DMA_CH_CMD_STOP
  | DMA_CH_CMD_START
  | DMA_CH_TAIL_TAIL
  | DMA_CH_HEAD_DONE
  | DMA_CH_HEAD_HEAD
  | DMA_CH_STATUS_STATE
  | DMA_CH_STATUS_WB_HELD
  | DMA_CH_STATUS_CAUSE
  | DMA_CH_STATUS_STOP_INDEX
  | DMA_CH_CNT_DESC_OK
  | DMA_CH_CNT_DESC_ERR
  | DMA_CH_CNT_BYTES
  | DMA_RX_CNT_RX_FRAMES
  | DMA_RX_CNT_RX_NO_RING
  | DMA_RX_CNT_RX_NO_DESC
  | DMA_RX_CNT_RX_TOO_LONG
  | DMA_REQ_EN
  | DMA_REQ_ASSERTED
  | DMA_REQ_LOST_SEEN
  | DMA_REQ_REGION
  | DMA_REQ_BURST
  | DMA_REQ_WM
  | DMA_REQ_PTR
  | DMA_REQ_AVAIL
  | MBX_STATUS_FIL_MAJOR
  | MBX_STATUS_FIL_MINOR
  | MBX_STATUS_STATE
  | MBX_STATUS_OPEN
  | MBX_STATUS_SLOT
  | MBX_STATUS_FALLBACK
  | MBX_STATUS_PEND_TIMED
  | MBX_FW_VER_VERSION
  | MBX_CLAIM_INVALID
  | MBX_CLAIM_CLAIMED
  | MBX_DOORBELL_RELEASE
  | MBX_DOORBELL_POST
  | MBX_SLOT_STATE_STATE
  | MBX_EVT_WR_WR
  | MBX_EVT_RD_RD
  | MBX_CNT_COMMANDS
  | MBX_CNT_REJECTED
  | MBX_CNT_SLOT_VIOL
  | MBX_CNT_UNCLAIMED_WR
  | MBX_CNT_EVT_LOST
  | FLT_STATUS_STATE
  | FLT_STATUS_FATAL_LIVE
  | FLT_STATUS_ERR_OUT
  | FLT_STATUS_ALIVE_RUN
  | FLT_STATUS_FATAL_SEEN
  | FLT_STATUS_CONTAINED_SEEN
  | FLT_STATUS_CORRECTED_SEEN
  | FLT_STATUS_STALL_SEEN
  | FLT_STATUS_BATCH
  | FLT_FIRST_CAUSE_CAUSE
  | FLT_FIRST_CAUSE_HI_CAUSE_HI
  | FLT_FIRST_TIME_TIME
  | FLT_FIRST_TIME_HI_TIME_HI
  | FLT_CFG_QUIET_MS
  | FLT_CFG_LIMIT
  | FLT_CFG_WINDOW_S
  | FLT_ALIVE_CFG_TIMEOUT_MS
  | FLT_CMD_CLEAR_FIRST
  | FLT_RECOVERIES_TOTAL
  | FLT_RECOVERIES_IN_WINDOW
  | FLT_LOG_WR_WR
  | FLT_LOG_INDEX_INDEX
  | FLT_LOG_DATA_DATA
  | FLT_LOG_DATA_HI_DATA_HI
  | FLT_CNT_CORRECTED
  | FLT_CNT_CONTAINED
  | FLT_CNT_FATAL
  | FLT_CNT_BATCHES
  | FLT_CNT_DROPPED
  | FLT_CNT_LOG_OVERWRITTEN
  | FLT_PINS_ERR_P
  | FLT_PINS_ERR_N
  | FLT_PINS_ALIVE
  | SAFF_SECT_CAPACITY
  | SAFF_SECT_USED
  | SAFF_SECT_NEWEST
  | SAFF_SECT_OLDEST
  | SAFF_READ_CTRL_START
  | SAFF_READ_CTRL_BUSY
  | SAFF_READ_CTRL_FOUND
  | SAFF_READ_CTRL_SECTION
  | SAFF_READ_CTRL_SEQ
  | SAFF_DATA_DATA
  | SAFF_CNT_WRITES
  | SAFF_CNT_LOST
  | SAFF_CNT_WRITE_FAILS
  | DUO_CFG_ENABLE
  | DUO_CFG_SPLIT_POLICY
  | DUO_CFG_TAKEOVER_WITH_GAPS
  | DUO_CFG_SILENCE_US
  | DUO_STATUS_STATE
  | DUO_STATUS_ROLE
  | DUO_STATUS_RANK
  | DUO_STATUS_LINK_UP
  | DUO_STATUS_PEER_PINS
  | DUO_STATUS_JOIN_EPOCH
  | DUO_STATUS_SOLE
  | DUO_STATUS_SOLE_BARRED
  | DUO_STATUS_GAPS_SEEN
  | DUO_STATUS_SPLIT_SEEN
  | DUO_STATUS_TAKEOVER_SEEN
  | DUO_STATUS_ABORT_SEEN
  | DUO_STATUS_EPOCH
  | DUO_PEER_SERIAL
  | DUO_PEER_INFO_FIL
  | DUO_PEER_INFO_STEPLOG_FMT
  | DUO_ACK_ACK_MAX_NS
  | DUO_ACK_ACK_LAST_NS
  | DUO_JOIN_PROG_PAGES_TOTAL
  | DUO_JOIN_PROG_PAGES_COPIED
  | DUO_CNT_TAKEOVERS
  | DUO_CNT_SWAPS
  | DUO_CNT_JOINS
  | DUO_CNT_JOIN_ABORTS
  | DUO_CNT_LINK_LOSSES
  | DUO_CNT_SPLITS
  | DUO_CNT_MISSING
  | DUO_CNT_ORPHANS
  | DUO_CNT_PEND_DROPS
  | DUO_CNT_RUNS_DEFERRED
  | DUO_CNT_GAP_PAGES
  | DUO_CNT_PARAM_DROPS
  | PWR_DOMAIN_STATUS_CHANGING
  | PWR_DOMAIN_STATUS_ON
  | PWR_DOMAIN_CTRL_REQ
  | PWR_STRAPS_FTEST
  | PWR_STRAPS_MON_EN
  | PWR_STRAPS_DUO_RANK
  | PWR_RESET_CAUSE_CAUSE
  | PWR_BOOT_NO_BOOT_NO
  | PWR_SUPPLY_LOW_SEEN
  | PWR_SUPPLY_OK
  | PWR_MEM_STATUS_FAIL_SEEN
  | PWR_MEM_STATUS_STATE
  | PWR_MILESTONE_US
  | PWR_CNT_DOMAIN_SWITCHES
  | PWR_CNT_MEM_RETRAINS
  | PWR_CNT_BRIDGE_RETRAINS
  | PWR_CNT_SUPPLY_EVENTS
  | DBG_STATUS_FREEZE_ACTIVE
  | DBG_STATUS_CAPTURE_HELD
  | DBG_STATUS_CAP_LOST_SEEN
  | DBG_STATUS_FTEST
  | DBG_STATUS_MON_WRITE
  | DBG_STATUS_MON_UNLOCKED
  | DBG_STATUS_LAST_SOURCE
  | DBG_STATUS_CAP_LINES
  | DBG_FREEZE_START_START
  | DBG_FREEZE_START_HI_START_HI
  | DBG_FREEZE_END_END
  | DBG_FREEZE_END_HI_END_HI
  | DBG_CNT_FREEZES
  | DBG_CNT_CHALLENGE_FAILS
  | DBG_CNT_INJECTIONS
  | DBG_CNT_MON_ERRORS
  deriving DecidableEq, Repr

/-- The number a field goes by in the register store: its place in `Fld`. -/
def Fld.code (f : Fld) : Nat := f.ctorIdx

/-- The key under which the register store holds a field of one register instance. -/
def Fld.key (f : Fld) (i : Nat) : Nat := 1024 * i + f.code

/-- The access types of R11. -/
inductive Access where
  /-- Returns the current value; writes ignored. -/
  | ro
  /-- Returns the last value written. -/
  | rw
  /-- A 1 clears. -/
  | rw1c
  /-- As RW, and kept through every reset but RST_N and power removal. -/
  | rws
  /-- Reads zero; a write triggers an action. -/
  | wo
  deriving DecidableEq, Repr

/-- The BAR0 blocks of R443. -/
inductive Block where
  | HOST | MBX | MSIX | DMA | FLT | SAFF | TIME | DUO | PWR | CORE | PORT | TIDE | SCHD | STRM | BRKW | STOR | SPIL | DBG
  deriving DecidableEq, Repr

/-- One field of a register: its name, its bits, its access type and its reset value. -/
structure FieldDesc where
  fld : Fld
  hi : Nat
  lo : Nat
  acc : Access
  reset : Nat
  deriving DecidableEq, Repr

/-- One register: its block, its place (instance i lies at base + s1 * (i / n2) + s2 * (i % n2)), the number of its
instances, its width and its fields. -/
structure RegDesc where
  reg : Reg
  block : Block
  base : Nat
  s1 : Nat
  n2 : Nat
  s2 : Nat
  count : Nat
  width : Nat
  fields : List FieldDesc
  deriving DecidableEq, Repr

end Sys2Proof.Machine
end

