-- ==== Sys2Proof/Machine/RegMap.lean ====
section
/-!
DEFINITION. Machine/RegMap.lean: where each register of BAR0 lies and the bits, access type and reset value of each of
its fields, block by block, from the field tables of the chapters (R443 names the bases). A reset value that is a
rule and not a number (HOST_VEC_MAP.VECTOR = its index, SPIL_SLOT_CAP.SLOT = its slot, the capacities of R361, what
comes from the Saffron record or a strap) stands in `Fld.resetAt` and in `State.reset`.
-/
namespace Sys2Proof.Machine

/-- Registers of block HOST (10_pcie_endpoint_and_spill_ports.md, R268). -/
def regsHOST : List RegDesc := [
  ⟨.HOST_STATUS, .HOST, 0x0, 0x0, 1, 0x0, 1, 32, [⟨.HOST_STATUS_LINK_UP, 31, 31, .ro, 0⟩, ⟨.HOST_STATUS_SPEED, 30, 27, .ro, 0⟩, ⟨.HOST_STATUS_WIDTH, 26, 22, .ro, 0⟩, ⟨.HOST_STATUS_DSTATE, 21, 20, .ro, 0⟩, ⟨.HOST_STATUS_LINK_DOWN_SEEN, 19, 19, .rws, 0⟩]⟩,
  ⟨.HOST_APER_BASE, .HOST, 0x8, 0x0, 1, 0x0, 1, 64, [⟨.HOST_APER_BASE_APER_BASE, 37, 30, .rw, 0⟩]⟩,
  ⟨.HOST_APER_CTRL, .HOST, 0x10, 0x0, 1, 0x0, 1, 32, [⟨.HOST_APER_CTRL_WRITE_EN, 31, 31, .rw, 0⟩]⟩,
  ⟨.HOST_QUAR, .HOST, 0x18, 0x0, 1, 0x0, 1, 32, [⟨.HOST_QUAR_TAGS, 10, 0, .ro, 0⟩]⟩,
  ⟨.HOST_WAKE_CFG, .HOST, 0x20, 0x0, 1, 0x0, 1, 32, [⟨.HOST_WAKE_CFG_SLOT_EN, 2, 2, .rws, 0⟩, ⟨.HOST_WAKE_CFG_FLT_EN, 1, 1, .rws, 1⟩, ⟨.HOST_WAKE_CFG_EVT_EN, 0, 0, .rws, 1⟩]⟩,
  ⟨.HOST_VEC_MAP, .HOST, 0x100, 0x4, 1, 0x0, 40, 32, [⟨.HOST_VEC_MAP_EN, 31, 31, .rw, 1⟩, ⟨.HOST_VEC_MAP_VECTOR, 10, 0, .rw, 0⟩]⟩,
  ⟨.HOST_CNT_00, .HOST, 0x200, 0x0, 1, 0x0, 1, 64, [⟨.HOST_CNT_UNEXP_CPL, 63, 0, .rws, 0⟩]⟩,
  ⟨.HOST_CNT_08, .HOST, 0x208, 0x0, 1, 0x0, 1, 64, [⟨.HOST_CNT_QUAR_CPL, 63, 0, .rws, 0⟩]⟩,
  ⟨.HOST_CNT_10, .HOST, 0x210, 0x0, 1, 0x0, 1, 64, [⟨.HOST_CNT_CPL_TIMEOUTS, 63, 0, .rws, 0⟩]⟩,
  ⟨.HOST_CNT_18, .HOST, 0x218, 0x0, 1, 0x0, 1, 64, [⟨.HOST_CNT_CPL_ERRORS, 63, 0, .rws, 0⟩]⟩,
  ⟨.HOST_CNT_20, .HOST, 0x220, 0x0, 1, 0x0, 1, 64, [⟨.HOST_CNT_APER_POISON, 63, 0, .rws, 0⟩]⟩,
  ⟨.HOST_CNT_28, .HOST, 0x228, 0x0, 1, 0x0, 1, 64, [⟨.HOST_CNT_APER_WDROP, 63, 0, .ro, 0⟩]⟩,
  ⟨.HOST_CNT_30, .HOST, 0x230, 0x0, 1, 0x0, 1, 64, [⟨.HOST_CNT_BAD_ACCESS, 63, 0, .ro, 0⟩]⟩,
  ⟨.HOST_CNT_38, .HOST, 0x238, 0x0, 1, 0x0, 1, 64, [⟨.HOST_CNT_LINK_DOWNS, 63, 0, .rws, 0⟩]⟩,
  ⟨.HOST_CNT_40, .HOST, 0x240, 0x0, 1, 0x0, 1, 64, [⟨.HOST_CNT_RESETS, 63, 0, .rws, 0⟩]⟩]

/-- Registers of block MBX (12_welcor_and_mailbox.md, R326). -/
def regsMBX : List RegDesc := [
  ⟨.MBX_STATUS, .MBX, 0x10000, 0x0, 1, 0x0, 1, 64, [⟨.MBX_STATUS_FIL_MAJOR, 63, 56, .ro, 0⟩, ⟨.MBX_STATUS_FIL_MINOR, 55, 48, .ro, 0⟩, ⟨.MBX_STATUS_STATE, 34, 32, .ro, 0⟩, ⟨.MBX_STATUS_OPEN, 31, 31, .ro, 0⟩, ⟨.MBX_STATUS_SLOT, 30, 30, .ro, 0⟩, ⟨.MBX_STATUS_FALLBACK, 29, 29, .rws, 0⟩, ⟨.MBX_STATUS_PEND_TIMED, 8, 0, .ro, 0⟩]⟩,
  ⟨.MBX_FW_VER, .MBX, 0x10008, 0x0, 1, 0x0, 1, 64, [⟨.MBX_FW_VER_VERSION, 63, 0, .ro, 0⟩]⟩,
  ⟨.MBX_CLAIM, .MBX, 0x10010, 0x0, 1, 0x0, 1, 32, [⟨.MBX_CLAIM_INVALID, 26, 16, .ro, 0⟩, ⟨.MBX_CLAIM_CLAIMED, 10, 0, .ro, 0⟩]⟩,
  ⟨.MBX_DOORBELL, .MBX, 0x10018, 0x0, 1, 0x0, 1, 32, [⟨.MBX_DOORBELL_RELEASE, 15, 8, .wo, 0⟩, ⟨.MBX_DOORBELL_POST, 7, 0, .wo, 0⟩]⟩,
  ⟨.MBX_SLOT_STATE, .MBX, 0x1001c, 0x0, 1, 0x0, 1, 32, [⟨.MBX_SLOT_STATE_STATE, 15, 0, .ro, 0⟩]⟩,
  ⟨.MBX_EVT_WR, .MBX, 0x10020, 0x0, 1, 0x0, 1, 32, [⟨.MBX_EVT_WR_WR, 5, 0, .ro, 0⟩]⟩,
  ⟨.MBX_EVT_RD, .MBX, 0x10024, 0x0, 1, 0x0, 1, 32, [⟨.MBX_EVT_RD_RD, 5, 0, .rw, 0⟩]⟩,
  ⟨.MBX_CNT_00, .MBX, 0x10040, 0x0, 1, 0x0, 1, 64, [⟨.MBX_CNT_COMMANDS, 63, 0, .ro, 0⟩]⟩,
  ⟨.MBX_CNT_08, .MBX, 0x10048, 0x0, 1, 0x0, 1, 64, [⟨.MBX_CNT_REJECTED, 63, 0, .ro, 0⟩]⟩,
  ⟨.MBX_CNT_10, .MBX, 0x10050, 0x0, 1, 0x0, 1, 64, [⟨.MBX_CNT_SLOT_VIOL, 63, 0, .ro, 0⟩]⟩,
  ⟨.MBX_CNT_18, .MBX, 0x10058, 0x0, 1, 0x0, 1, 64, [⟨.MBX_CNT_UNCLAIMED_WR, 63, 0, .rws, 0⟩]⟩,
  ⟨.MBX_CNT_20, .MBX, 0x10060, 0x0, 1, 0x0, 1, 64, [⟨.MBX_CNT_EVT_LOST, 63, 0, .rws, 0⟩]⟩]

/-- Registers of block DMA (11_dma_engine.md, R290). -/
def regsDMA : List RegDesc := [
  ⟨.DMA_CTRL, .DMA, 0x30000, 0x0, 1, 0x0, 1, 32, [⟨.DMA_CTRL_STORE_WR_EN, 31, 31, .rw, 0⟩]⟩,
  ⟨.DMA_CH_RING_BASE, .DMA, 0x31000, 0x100, 1, 0x0, 16, 64, [⟨.DMA_CH_RING_BASE_BASE, 63, 12, .rw, 0⟩]⟩,
  ⟨.DMA_CH_CFG, .DMA, 0x31008, 0x100, 1, 0x0, 16, 32, [⟨.DMA_CH_CFG_REQ_EN, 22, 22, .rw, 0⟩, ⟨.DMA_CH_CFG_REQ_LINE, 21, 16, .rw, 0⟩, ⟨.DMA_CH_CFG_RX_EN, 13, 13, .rw, 0⟩, ⟨.DMA_CH_CFG_RX_CLASS, 12, 9, .rw, 0⟩, ⟨.DMA_CH_CFG_SIZE_LOG2, 4, 0, .rw, 3⟩]⟩,
  ⟨.DMA_CH_CMD, .DMA, 0x3100c, 0x100, 1, 0x0, 16, 32, [⟨.DMA_CH_CMD_RESET, 2, 2, .wo, 0⟩, ⟨.DMA_CH_CMD_STOP, 1, 1, .wo, 0⟩, ⟨.DMA_CH_CMD_START, 0, 0, .wo, 0⟩]⟩,
  ⟨.DMA_CH_TAIL, .DMA, 0x31010, 0x100, 1, 0x0, 16, 32, [⟨.DMA_CH_TAIL_TAIL, 15, 0, .rw, 0⟩]⟩,
  ⟨.DMA_CH_HEAD, .DMA, 0x31014, 0x100, 1, 0x0, 16, 32, [⟨.DMA_CH_HEAD_DONE, 31, 16, .ro, 0⟩, ⟨.DMA_CH_HEAD_HEAD, 15, 0, .ro, 0⟩]⟩,
  ⟨.DMA_CH_STATUS, .DMA, 0x31018, 0x100, 1, 0x0, 16, 32, [⟨.DMA_CH_STATUS_STATE, 31, 30, .ro, 0⟩, ⟨.DMA_CH_STATUS_WB_HELD, 29, 29, .ro, 0⟩, ⟨.DMA_CH_STATUS_CAUSE, 23, 16, .ro, 0⟩, ⟨.DMA_CH_STATUS_STOP_INDEX, 15, 0, .ro, 0⟩]⟩,
  ⟨.DMA_CH_CNT_00, .DMA, 0x31020, 0x100, 1, 0x0, 16, 64, [⟨.DMA_CH_CNT_DESC_OK, 63, 32, .rws, 0⟩, ⟨.DMA_CH_CNT_DESC_ERR, 31, 0, .rws, 0⟩]⟩,
  ⟨.DMA_CH_CNT_08, .DMA, 0x31028, 0x100, 1, 0x0, 16, 64, [⟨.DMA_CH_CNT_BYTES, 63, 0, .rws, 0⟩]⟩,
  ⟨.DMA_RX_CNT_00, .DMA, 0x33000, 0x20, 1, 0x0, 16, 64, [⟨.DMA_RX_CNT_RX_FRAMES, 63, 0, .rws, 0⟩]⟩,
  ⟨.DMA_RX_CNT_08, .DMA, 0x33008, 0x20, 1, 0x0, 16, 64, [⟨.DMA_RX_CNT_RX_NO_RING, 63, 0, .rws, 0⟩]⟩,
  ⟨.DMA_RX_CNT_10, .DMA, 0x33010, 0x20, 1, 0x0, 16, 64, [⟨.DMA_RX_CNT_RX_NO_DESC, 63, 0, .rws, 0⟩]⟩,
  ⟨.DMA_RX_CNT_18, .DMA, 0x33018, 0x20, 1, 0x0, 16, 64, [⟨.DMA_RX_CNT_RX_TOO_LONG, 63, 0, .rws, 0⟩]⟩,
  ⟨.DMA_REQ_00, .DMA, 0x34000, 0x20, 1, 0x0, 64, 64, [⟨.DMA_REQ_EN, 63, 63, .rw, 0⟩, ⟨.DMA_REQ_ASSERTED, 62, 62, .ro, 0⟩, ⟨.DMA_REQ_LOST_SEEN, 61, 61, .rw1c, 0⟩, ⟨.DMA_REQ_REGION, 48, 32, .rw, 0⟩, ⟨.DMA_REQ_BURST, 30, 24, .rw, 64⟩, ⟨.DMA_REQ_WM, 23, 0, .rw, 64⟩]⟩,
  ⟨.DMA_REQ_08, .DMA, 0x34008, 0x20, 1, 0x0, 64, 64, [⟨.DMA_REQ_PTR, 63, 0, .ro, 0⟩]⟩,
  ⟨.DMA_REQ_10, .DMA, 0x34010, 0x20, 1, 0x0, 64, 64, [⟨.DMA_REQ_AVAIL, 63, 0, .ro, 0⟩]⟩]

/-- Registers of block FLT (14_faults_and_saffron_record.md, R369). -/
def regsFLT : List RegDesc := [
  ⟨.FLT_STATUS, .FLT, 0x40000, 0x0, 1, 0x0, 1, 32, [⟨.FLT_STATUS_STATE, 31, 30, .ro, 0⟩, ⟨.FLT_STATUS_FATAL_LIVE, 29, 29, .ro, 0⟩, ⟨.FLT_STATUS_ERR_OUT, 28, 28, .ro, 1⟩, ⟨.FLT_STATUS_ALIVE_RUN, 27, 27, .ro, 0⟩, ⟨.FLT_STATUS_FATAL_SEEN, 26, 26, .rw1c, 0⟩, ⟨.FLT_STATUS_CONTAINED_SEEN, 25, 25, .rw1c, 0⟩, ⟨.FLT_STATUS_CORRECTED_SEEN, 24, 24, .rw1c, 0⟩, ⟨.FLT_STATUS_STALL_SEEN, 23, 23, .rw1c, 0⟩, ⟨.FLT_STATUS_BATCH, 15, 0, .ro, 0⟩]⟩,
  ⟨.FLT_FIRST_CAUSE, .FLT, 0x40010, 0x0, 1, 0x0, 1, 64, [⟨.FLT_FIRST_CAUSE_CAUSE, 63, 0, .ro, 0⟩]⟩,
  ⟨.FLT_FIRST_CAUSE_HI, .FLT, 0x40018, 0x0, 1, 0x0, 1, 64, [⟨.FLT_FIRST_CAUSE_HI_CAUSE_HI, 63, 0, .ro, 0⟩]⟩,
  ⟨.FLT_FIRST_TIME, .FLT, 0x40020, 0x0, 1, 0x0, 1, 64, [⟨.FLT_FIRST_TIME_TIME, 63, 0, .ro, 0⟩]⟩,
  ⟨.FLT_FIRST_TIME_HI, .FLT, 0x40028, 0x0, 1, 0x0, 1, 32, [⟨.FLT_FIRST_TIME_HI_TIME_HI, 31, 0, .ro, 0⟩]⟩,
  ⟨.FLT_CFG, .FLT, 0x40030, 0x0, 1, 0x0, 1, 64, [⟨.FLT_CFG_QUIET_MS, 63, 48, .rw, 100⟩, ⟨.FLT_CFG_LIMIT, 41, 32, .rw, 8⟩, ⟨.FLT_CFG_WINDOW_S, 16, 0, .rw, 600⟩]⟩,
  ⟨.FLT_ALIVE_CFG, .FLT, 0x40038, 0x0, 1, 0x0, 1, 32, [⟨.FLT_ALIVE_CFG_TIMEOUT_MS, 7, 0, .rw, 5⟩]⟩,
  ⟨.FLT_CMD, .FLT, 0x40040, 0x0, 1, 0x0, 1, 32, [⟨.FLT_CMD_CLEAR_FIRST, 0, 0, .wo, 0⟩]⟩,
  ⟨.FLT_RECOVERIES, .FLT, 0x40048, 0x0, 1, 0x0, 1, 64, [⟨.FLT_RECOVERIES_TOTAL, 63, 32, .ro, 0⟩, ⟨.FLT_RECOVERIES_IN_WINDOW, 9, 0, .ro, 0⟩]⟩,
  ⟨.FLT_LOG_WR, .FLT, 0x40050, 0x0, 1, 0x0, 1, 32, [⟨.FLT_LOG_WR_WR, 31, 0, .ro, 0⟩]⟩,
  ⟨.FLT_LOG_INDEX, .FLT, 0x40054, 0x0, 1, 0x0, 1, 32, [⟨.FLT_LOG_INDEX_INDEX, 31, 0, .rw, 0⟩]⟩,
  ⟨.FLT_LOG_DATA, .FLT, 0x40058, 0x0, 1, 0x0, 1, 64, [⟨.FLT_LOG_DATA_DATA, 63, 0, .ro, 0⟩]⟩,
  ⟨.FLT_LOG_DATA_HI, .FLT, 0x40060, 0x0, 1, 0x0, 1, 64, [⟨.FLT_LOG_DATA_HI_DATA_HI, 63, 0, .ro, 0⟩]⟩,
  ⟨.FLT_CNT_00, .FLT, 0x40080, 0x0, 1, 0x0, 1, 64, [⟨.FLT_CNT_CORRECTED, 63, 0, .ro, 0⟩]⟩,
  ⟨.FLT_CNT_08, .FLT, 0x40088, 0x0, 1, 0x0, 1, 64, [⟨.FLT_CNT_CONTAINED, 63, 0, .ro, 0⟩]⟩,
  ⟨.FLT_CNT_10, .FLT, 0x40090, 0x0, 1, 0x0, 1, 64, [⟨.FLT_CNT_FATAL, 63, 0, .ro, 0⟩]⟩,
  ⟨.FLT_CNT_18, .FLT, 0x40098, 0x0, 1, 0x0, 1, 64, [⟨.FLT_CNT_BATCHES, 63, 0, .ro, 0⟩]⟩,
  ⟨.FLT_CNT_20, .FLT, 0x400a0, 0x0, 1, 0x0, 1, 64, [⟨.FLT_CNT_DROPPED, 63, 0, .ro, 0⟩]⟩,
  ⟨.FLT_CNT_28, .FLT, 0x400a8, 0x0, 1, 0x0, 1, 64, [⟨.FLT_CNT_LOG_OVERWRITTEN, 63, 0, .ro, 0⟩]⟩,
  ⟨.FLT_PINS, .FLT, 0x400c0, 0x0, 1, 0x0, 1, 32, [⟨.FLT_PINS_ERR_P, 31, 31, .ro, 0⟩, ⟨.FLT_PINS_ERR_N, 30, 30, .ro, 1⟩, ⟨.FLT_PINS_ALIVE, 29, 29, .ro, 0⟩]⟩]

/-- Registers of block SAFF (14_faults_and_saffron_record.md, R369). -/
def regsSAFF : List RegDesc := [
  ⟨.SAFF_SECT_00, .SAFF, 0x48000, 0x10, 1, 0x0, 6, 64, [⟨.SAFF_SECT_CAPACITY, 31, 0, .ro, 0⟩, ⟨.SAFF_SECT_USED, 63, 32, .ro, 0⟩]⟩,
  ⟨.SAFF_SECT_08, .SAFF, 0x48008, 0x10, 1, 0x0, 6, 64, [⟨.SAFF_SECT_NEWEST, 31, 0, .ro, 0⟩, ⟨.SAFF_SECT_OLDEST, 63, 32, .ro, 0⟩]⟩,
  ⟨.SAFF_READ_CTRL, .SAFF, 0x48080, 0x0, 1, 0x0, 1, 64, [⟨.SAFF_READ_CTRL_START, 63, 63, .wo, 0⟩, ⟨.SAFF_READ_CTRL_BUSY, 62, 62, .ro, 0⟩, ⟨.SAFF_READ_CTRL_FOUND, 61, 61, .ro, 0⟩, ⟨.SAFF_READ_CTRL_SECTION, 50, 48, .rw, 0⟩, ⟨.SAFF_READ_CTRL_SEQ, 31, 0, .rw, 0⟩]⟩,
  ⟨.SAFF_DATA, .SAFF, 0x48088, 0x8, 1, 0x0, 8, 64, [⟨.SAFF_DATA_DATA, 63, 0, .ro, 0⟩]⟩,
  ⟨.SAFF_CNT_00, .SAFF, 0x480c8, 0x0, 1, 0x0, 1, 64, [⟨.SAFF_CNT_WRITES, 63, 0, .ro, 0⟩]⟩,
  ⟨.SAFF_CNT_08, .SAFF, 0x480d0, 0x0, 1, 0x0, 1, 64, [⟨.SAFF_CNT_LOST, 63, 0, .ro, 0⟩]⟩,
  ⟨.SAFF_CNT_10, .SAFF, 0x480d8, 0x0, 1, 0x0, 1, 64, [⟨.SAFF_CNT_WRITE_FAILS, 63, 0, .ro, 0⟩]⟩]

/-- Registers of block TIME (03_timebase.md, R81). -/
def regsTIME0 : List RegDesc := [
  ⟨.TIME_NOW, .TIME, 0x50000, 0x0, 1, 0x0, 1, 64, [⟨.TIME_NOW_NOW, 63, 0, .ro, 0⟩]⟩,
  ⟨.TIME_NOW_HI, .TIME, 0x50008, 0x0, 1, 0x0, 1, 32, [⟨.TIME_NOW_HI_SEC_HI, 31, 0, .ro, 0⟩]⟩,
  ⟨.TIME_STATUS, .TIME, 0x50010, 0x0, 1, 0x0, 1, 32, [⟨.TIME_STATUS_VALID, 31, 31, .ro, 0⟩, ⟨.TIME_STATUS_SUSPECT, 30, 30, .ro, 0⟩, ⟨.TIME_STATUS_REF_OK, 29, 29, .ro, 0⟩, ⟨.TIME_STATUS_PPS_IN_OK, 28, 28, .ro, 0⟩, ⟨.TIME_STATUS_FROZEN_SEEN, 27, 27, .rw1c, 0⟩, ⟨.TIME_STATUS_SERVO_STATE, 26, 24, .ro, 0⟩, ⟨.TIME_STATUS_SERVO_SRC, 23, 20, .ro, 15⟩, ⟨.TIME_STATUS_SPLIT_SEEN, 19, 19, .rw1c, 0⟩, ⟨.TIME_STATUS_RELOAD_SEEN, 18, 18, .rw1c, 0⟩, ⟨.TIME_STATUS_LAST_BAD, 17, 16, .ro, 0⟩, ⟨.TIME_STATUS_HOLD_SPEC_OUT, 15, 15, .ro, 0⟩]⟩,
  ⟨.TIME_INCR, .TIME, 0x50018, 0x0, 1, 0x0, 1, 64, [⟨.TIME_INCR_NS, 39, 32, .rw, 6⟩, ⟨.TIME_INCR_FRAC, 31, 0, .rw, 1717986918⟩]⟩,
  ⟨.TIME_ADJ_OFS, .TIME, 0x50020, 0x0, 1, 0x0, 1, 64, [⟨.TIME_ADJ_OFS_OFS, 63, 0, .rw, 0⟩]⟩,
  ⟨.TIME_LOAD, .TIME, 0x50028, 0x0, 1, 0x0, 1, 64, [⟨.TIME_LOAD_LOAD, 63, 0, .rw, 0⟩]⟩,
  ⟨.TIME_LOAD_HI, .TIME, 0x50030, 0x0, 1, 0x0, 1, 32, [⟨.TIME_LOAD_HI_LOAD_HI, 31, 0, .rw, 0⟩]⟩,
  ⟨.TIME_CMD, .TIME, 0x50038, 0x0, 1, 0x0, 1, 32, [⟨.TIME_CMD_SET_VALID, 3, 3, .wo, 0⟩, ⟨.TIME_CMD_CLEAR_SUSPECT, 2, 2, .wo, 0⟩, ⟨.TIME_CMD_LOAD, 1, 1, .wo, 0⟩, ⟨.TIME_CMD_STEP, 0, 0, .wo, 0⟩]⟩,
  ⟨.TIME_VOTE_CNT, .TIME, 0x50040, 0x0, 1, 0x0, 1, 64, [⟨.TIME_VOTE_CNT_RELOADS, 63, 32, .ro, 0⟩, ⟨.TIME_VOTE_CNT_SPLITS, 31, 0, .ro, 0⟩]⟩,
  ⟨.TIME_SERVO_CFG, .TIME, 0x50048, 0x0, 1, 0x0, 1, 64, [⟨.TIME_SERVO_CFG_STEP_THR, 63, 32, .rw, 1000⟩, ⟨.TIME_SERVO_CFG_LOCK_THR, 31, 24, .rw, 10⟩, ⟨.TIME_SERVO_CFG_HOLD_SPEC_S, 15, 0, .rw, 300⟩]⟩,
  ⟨.TIME_CHECK_CFG, .TIME, 0x50050, 0x0, 1, 0x0, 1, 64, [⟨.TIME_CHECK_CFG_CONFIRM_S, 63, 48, .rw, 10⟩, ⟨.TIME_CHECK_CFG_READMIT_S, 47, 32, .rw, 60⟩, ⟨.TIME_CHECK_CFG_DELAY_STEP_NS, 31, 16, .rw, 50⟩, ⟨.TIME_CHECK_CFG_CHECK_TOL_NS, 15, 0, .rw, 20⟩]⟩,
  ⟨.TIME_EVT_CNT, .TIME, 0x50058, 0x0, 1, 0x0, 1, 64, [⟨.TIME_EVT_CNT_STEPS, 63, 48, .ro, 0⟩, ⟨.TIME_EVT_CNT_EXCLUSIONS, 47, 32, .ro, 0⟩, ⟨.TIME_EVT_CNT_HOLDOVERS, 31, 16, .ro, 0⟩, ⟨.TIME_EVT_CNT_FREEZES, 15, 0, .ro, 0⟩]⟩,
  ⟨.TIME_PPS_IN_TS, .TIME, 0x50060, 0x0, 1, 0x0, 1, 64, [⟨.TIME_PPS_IN_TS_TS, 63, 0, .ro, 0⟩]⟩,
  ⟨.TIME_PPS_IN_HI, .TIME, 0x50068, 0x0, 1, 0x0, 1, 32, [⟨.TIME_PPS_IN_HI_TS_HI, 31, 0, .ro, 0⟩]⟩,
  ⟨.TIME_PPS_CFG, .TIME, 0x50070, 0x0, 1, 0x0, 1, 64, [⟨.TIME_PPS_CFG_OUT_MODE, 63, 62, .rw, 2⟩, ⟨.TIME_PPS_CFG_OUT_POL, 61, 61, .rw, 0⟩, ⟨.TIME_PPS_CFG_IN_POL, 60, 60, .rw, 0⟩, ⟨.TIME_PPS_CFG_WIDTH_US, 59, 40, .rw, 100⟩, ⟨.TIME_PPS_CFG_OUT_OFS, 31, 16, .rw, 0⟩, ⟨.TIME_PPS_CFG_IN_DELAY, 15, 0, .rw, 0⟩]⟩,
  ⟨.TIME_SRC_00, .TIME, 0x51000, 0x20, 1, 0x0, 9, 32, [⟨.TIME_SRC_ENABLE, 31, 31, .rw, 0⟩, ⟨.TIME_SRC_PRIORITY, 30, 27, .rw, 15⟩]⟩,
  ⟨.TIME_SRC_08, .TIME, 0x51008, 0x20, 1, 0x0, 9, 64, [⟨.TIME_SRC_OFFSET, 63, 0, .ro, 0⟩]⟩,
  ⟨.TIME_SRC_10, .TIME, 0x51010, 0x20, 1, 0x0, 9, 64, [⟨.TIME_SRC_MPD, 63, 0, .ro, 0⟩]⟩,
  ⟨.TIME_SRC_18, .TIME, 0x51018, 0x20, 1, 0x0, 9, 32, [⟨.TIME_SRC_SRC_VALID, 31, 31, .ro, 0⟩, ⟨.TIME_SRC_EXCLUDED, 30, 30, .ro, 0⟩, ⟨.TIME_SRC_CONFIRMING, 29, 29, .ro, 0⟩, ⟨.TIME_SRC_EXCL_SEEN, 28, 28, .rw1c, 0⟩]⟩,
  ⟨.TIME_PORT_ASYM, .TIME, 0x52000, 0x8, 1, 0x0, 256, 64, [⟨.TIME_PORT_ASYM_ASYM, 63, 0, .rw, 0⟩]⟩]

/-- Registers of block TIME (03_timebase.md, R81). -/
def regsTIME1 : List RegDesc := [
  ⟨.TIME_PORT_CFG, .TIME, 0x53000, 0x4, 1, 0x0, 256, 32, [⟨.TIME_PORT_CFG_RTC_EN, 31, 31, .rw, 1⟩, ⟨.TIME_PORT_CFG_P2P_ADD_LINK, 30, 30, .rw, 0⟩, ⟨.TIME_PORT_CFG_INST, 29, 26, .rw, 15⟩]⟩]

/-- Registers of block TIME. -/
def regsTIME : List RegDesc := regsTIME0 ++ regsTIME1

/-- Registers of block DUO (15_duo_redundancy.md, R395). -/
def regsDUO : List RegDesc := [
  ⟨.DUO_CFG, .DUO, 0x60000, 0x0, 1, 0x0, 1, 64, [⟨.DUO_CFG_ENABLE, 63, 63, .rw, 0⟩, ⟨.DUO_CFG_SPLIT_POLICY, 62, 62, .rw, 0⟩, ⟨.DUO_CFG_TAKEOVER_WITH_GAPS, 61, 61, .rw, 0⟩, ⟨.DUO_CFG_SILENCE_US, 45, 32, .rw, 300⟩]⟩,
  ⟨.DUO_STATUS, .DUO, 0x60008, 0x0, 1, 0x0, 1, 64, [⟨.DUO_STATUS_STATE, 63, 61, .ro, 0⟩, ⟨.DUO_STATUS_ROLE, 60, 60, .ro, 0⟩, ⟨.DUO_STATUS_RANK, 59, 59, .ro, 0⟩, ⟨.DUO_STATUS_LINK_UP, 58, 58, .ro, 0⟩, ⟨.DUO_STATUS_PEER_PINS, 57, 56, .ro, 2⟩, ⟨.DUO_STATUS_JOIN_EPOCH, 55, 54, .ro, 0⟩, ⟨.DUO_STATUS_SOLE, 53, 53, .ro, 0⟩, ⟨.DUO_STATUS_SOLE_BARRED, 52, 52, .ro, 0⟩, ⟨.DUO_STATUS_GAPS_SEEN, 51, 51, .rw1c, 0⟩, ⟨.DUO_STATUS_SPLIT_SEEN, 50, 50, .rw1c, 0⟩, ⟨.DUO_STATUS_TAKEOVER_SEEN, 49, 49, .rw1c, 0⟩, ⟨.DUO_STATUS_ABORT_SEEN, 48, 48, .rw1c, 0⟩, ⟨.DUO_STATUS_EPOCH, 47, 0, .ro, 0⟩]⟩,
  ⟨.DUO_PEER, .DUO, 0x60010, 0x0, 1, 0x0, 1, 64, [⟨.DUO_PEER_SERIAL, 63, 0, .ro, 0⟩]⟩,
  ⟨.DUO_PEER_INFO, .DUO, 0x60018, 0x0, 1, 0x0, 1, 32, [⟨.DUO_PEER_INFO_FIL, 31, 16, .ro, 0⟩, ⟨.DUO_PEER_INFO_STEPLOG_FMT, 15, 0, .ro, 0⟩]⟩,
  ⟨.DUO_ACK, .DUO, 0x60020, 0x0, 1, 0x0, 1, 64, [⟨.DUO_ACK_ACK_MAX_NS, 63, 32, .rw1c, 0⟩, ⟨.DUO_ACK_ACK_LAST_NS, 31, 0, .ro, 0⟩]⟩,
  ⟨.DUO_JOIN_PROG, .DUO, 0x60028, 0x0, 1, 0x0, 1, 64, [⟨.DUO_JOIN_PROG_PAGES_TOTAL, 63, 32, .ro, 0⟩, ⟨.DUO_JOIN_PROG_PAGES_COPIED, 31, 0, .ro, 0⟩]⟩,
  ⟨.DUO_CNT_00, .DUO, 0x60040, 0x0, 1, 0x0, 1, 64, [⟨.DUO_CNT_TAKEOVERS, 63, 0, .ro, 0⟩]⟩,
  ⟨.DUO_CNT_08, .DUO, 0x60048, 0x0, 1, 0x0, 1, 64, [⟨.DUO_CNT_SWAPS, 63, 0, .ro, 0⟩]⟩,
  ⟨.DUO_CNT_10, .DUO, 0x60050, 0x0, 1, 0x0, 1, 64, [⟨.DUO_CNT_JOINS, 63, 0, .ro, 0⟩]⟩,
  ⟨.DUO_CNT_18, .DUO, 0x60058, 0x0, 1, 0x0, 1, 64, [⟨.DUO_CNT_JOIN_ABORTS, 63, 0, .ro, 0⟩]⟩,
  ⟨.DUO_CNT_20, .DUO, 0x60060, 0x0, 1, 0x0, 1, 64, [⟨.DUO_CNT_LINK_LOSSES, 63, 0, .ro, 0⟩]⟩,
  ⟨.DUO_CNT_28, .DUO, 0x60068, 0x0, 1, 0x0, 1, 64, [⟨.DUO_CNT_SPLITS, 63, 0, .ro, 0⟩]⟩,
  ⟨.DUO_CNT_30, .DUO, 0x60070, 0x0, 1, 0x0, 1, 64, [⟨.DUO_CNT_MISSING, 63, 0, .ro, 0⟩]⟩,
  ⟨.DUO_CNT_38, .DUO, 0x60078, 0x0, 1, 0x0, 1, 64, [⟨.DUO_CNT_ORPHANS, 63, 0, .ro, 0⟩]⟩,
  ⟨.DUO_CNT_40, .DUO, 0x60080, 0x0, 1, 0x0, 1, 64, [⟨.DUO_CNT_PEND_DROPS, 63, 0, .ro, 0⟩]⟩,
  ⟨.DUO_CNT_48, .DUO, 0x60088, 0x0, 1, 0x0, 1, 64, [⟨.DUO_CNT_RUNS_DEFERRED, 63, 0, .ro, 0⟩]⟩,
  ⟨.DUO_CNT_50, .DUO, 0x60090, 0x0, 1, 0x0, 1, 64, [⟨.DUO_CNT_GAP_PAGES, 63, 0, .ro, 0⟩]⟩,
  ⟨.DUO_CNT_58, .DUO, 0x60098, 0x0, 1, 0x0, 1, 64, [⟨.DUO_CNT_PARAM_DROPS, 63, 0, .ro, 0⟩]⟩]

/-- Registers of block PWR (16_startup_reset_power.md, R409). -/
def regsPWR : List RegDesc := [
  ⟨.PWR_DOMAIN_STATUS, .PWR, 0x70000, 0x0, 1, 0x0, 1, 64, [⟨.PWR_DOMAIN_STATUS_CHANGING, 63, 63, .ro, 0⟩, ⟨.PWR_DOMAIN_STATUS_ON, 46, 0, .ro, 0⟩]⟩,
  ⟨.PWR_DOMAIN_CTRL, .PWR, 0x70008, 0x0, 1, 0x0, 1, 64, [⟨.PWR_DOMAIN_CTRL_REQ, 46, 0, .rw, 87960930222080⟩]⟩,
  ⟨.PWR_STRAPS, .PWR, 0x70010, 0x0, 1, 0x0, 1, 32, [⟨.PWR_STRAPS_FTEST, 2, 2, .ro, 0⟩, ⟨.PWR_STRAPS_MON_EN, 1, 1, .ro, 0⟩, ⟨.PWR_STRAPS_DUO_RANK, 0, 0, .ro, 0⟩]⟩,
  ⟨.PWR_RESET_CAUSE, .PWR, 0x70014, 0x0, 1, 0x0, 1, 32, [⟨.PWR_RESET_CAUSE_CAUSE, 1, 0, .ro, 0⟩]⟩,
  ⟨.PWR_BOOT_NO, .PWR, 0x70018, 0x0, 1, 0x0, 1, 32, [⟨.PWR_BOOT_NO_BOOT_NO, 31, 0, .ro, 0⟩]⟩,
  ⟨.PWR_SUPPLY, .PWR, 0x70020, 0x0, 1, 0x0, 1, 32, [⟨.PWR_SUPPLY_LOW_SEEN, 23, 16, .rw1c, 0⟩, ⟨.PWR_SUPPLY_OK, 7, 0, .ro, 0⟩]⟩,
  ⟨.PWR_MEM_STATUS, .PWR, 0x70028, 0x0, 1, 0x0, 1, 32, [⟨.PWR_MEM_STATUS_FAIL_SEEN, 23, 16, .rw1c, 0⟩, ⟨.PWR_MEM_STATUS_STATE, 15, 0, .ro, 0⟩]⟩,
  ⟨.PWR_MILESTONE, .PWR, 0x70040, 0x4, 1, 0x0, 5, 32, [⟨.PWR_MILESTONE_US, 31, 0, .ro, 4294967295⟩]⟩,
  ⟨.PWR_CNT_00, .PWR, 0x70080, 0x0, 1, 0x0, 1, 64, [⟨.PWR_CNT_DOMAIN_SWITCHES, 63, 0, .ro, 0⟩]⟩,
  ⟨.PWR_CNT_08, .PWR, 0x70088, 0x0, 1, 0x0, 1, 64, [⟨.PWR_CNT_MEM_RETRAINS, 63, 0, .ro, 0⟩]⟩,
  ⟨.PWR_CNT_10, .PWR, 0x70090, 0x0, 1, 0x0, 1, 64, [⟨.PWR_CNT_BRIDGE_RETRAINS, 63, 0, .ro, 0⟩]⟩,
  ⟨.PWR_CNT_18, .PWR, 0x70098, 0x0, 1, 0x0, 1, 64, [⟨.PWR_CNT_SUPPLY_EVENTS, 63, 0, .ro, 0⟩]⟩]

/-- Registers of block CORE (02_handshake_core.md, R51). -/
def regsCORE : List RegDesc := [
  ⟨.CORE_SLACK_CTRL, .CORE, 0x80000, 0x100, 1, 0x0, 4, 32, [⟨.CORE_SLACK_CTRL_ENABLE, 31, 31, .rw, 1⟩, ⟨.CORE_SLACK_CTRL_LOWER_THR, 23, 16, .rw, 120⟩, ⟨.CORE_SLACK_CTRL_WARN_THR, 15, 8, .rw, 50⟩, ⟨.CORE_SLACK_CTRL_RAISE_THR, 7, 0, .rw, 30⟩]⟩,
  ⟨.CORE_SLACK_CFG, .CORE, 0x80004, 0x100, 1, 0x0, 4, 32, [⟨.CORE_SLACK_CFG_TARGET_SIZE, 7, 0, .rw, 64⟩]⟩,
  ⟨.CORE_SLACK_STATUS, .CORE, 0x80008, 0x100, 1, 0x0, 4, 32, [⟨.CORE_SLACK_STATUS_LOW, 31, 31, .ro, 0⟩, ⟨.CORE_SLACK_STATUS_NEG, 30, 30, .ro, 0⟩, ⟨.CORE_SLACK_STATUS_LOW_SEEN, 29, 29, .rw1c, 0⟩, ⟨.CORE_SLACK_STATUS_WIN_SLACK, 15, 0, .ro, 0⟩]⟩,
  ⟨.CORE_SLACK_MIN, .CORE, 0x8000c, 0x100, 1, 0x0, 4, 32, [⟨.CORE_SLACK_MIN_TJ, 31, 16, .ro, 0⟩, ⟨.CORE_SLACK_MIN_MIN_SLACK, 15, 0, .rw1c, 32767⟩]⟩,
  ⟨.CORE_QBUF_STATUS, .CORE, 0x80010, 0x100, 1, 0x0, 4, 32, [⟨.CORE_QBUF_STATUS_PEAK_MIB, 31, 16, .rw1c, 0⟩, ⟨.CORE_QBUF_STATUS_NOW_MIB, 15, 0, .ro, 0⟩]⟩,
  ⟨.CORE_QBUF_DROP, .CORE, 0x80018, 0x100, 1, 0x0, 4, 64, [⟨.CORE_QBUF_DROP_COUNT, 63, 0, .ro, 0⟩]⟩,
  ⟨.CORE_AVS_CTRL, .CORE, 0x81000, 0x0, 1, 0x0, 1, 32, [⟨.CORE_AVS_CTRL_MODE, 31, 30, .rw, 1⟩, ⟨.CORE_AVS_CTRL_PEC, 29, 29, .rw, 1⟩, ⟨.CORE_AVS_CTRL_ADDR, 22, 16, .rw, 64⟩, ⟨.CORE_AVS_CTRL_STEP_UP, 15, 8, .rw, 10⟩, ⟨.CORE_AVS_CTRL_STEP_DOWN, 7, 0, .rw, 5⟩]⟩,
  ⟨.CORE_AVS_LIMITS, .CORE, 0x81008, 0x0, 1, 0x0, 1, 64, [⟨.CORE_AVS_LIMITS_DWELL_MS, 63, 48, .rw, 1000⟩, ⟨.CORE_AVS_LIMITS_SETTLE_US, 47, 32, .rw, 200⟩, ⟨.CORE_AVS_LIMITS_CEIL_MV, 25, 16, .rw, 800⟩, ⟨.CORE_AVS_LIMITS_FLOOR_MV, 9, 0, .rw, 680⟩]⟩,
  ⟨.CORE_AVS_STATUS, .CORE, 0x81010, 0x0, 1, 0x0, 1, 64, [⟨.CORE_AVS_STATUS_STATUS_WORD, 63, 48, .ro, 0⟩, ⟨.CORE_AVS_STATUS_NO_RESP, 47, 47, .ro, 0⟩, ⟨.CORE_AVS_STATUS_ALERT, 46, 46, .rw1c, 0⟩, ⟨.CORE_AVS_STATUS_UNSUP_MODE, 45, 45, .ro, 0⟩, ⟨.CORE_AVS_STATUS_BUSY, 44, 44, .ro, 0⟩, ⟨.CORE_AVS_STATUS_READ_MV, 25, 16, .ro, 0⟩, ⟨.CORE_AVS_STATUS_SET_MV, 9, 0, .ro, 0⟩]⟩,
  ⟨.CORE_AVS_COUNT, .CORE, 0x81018, 0x0, 1, 0x0, 1, 64, [⟨.CORE_AVS_COUNT_RAISES, 63, 32, .ro, 0⟩, ⟨.CORE_AVS_COUNT_LOWERS, 31, 0, .ro, 0⟩]⟩,
  ⟨.CORE_STAGE_LEAD, .CORE, 0x82000, 0x8, 1, 0x0, 32, 64, [⟨.CORE_STAGE_LEAD_MARGIN_LOW, 63, 63, .rw1c, 0⟩, ⟨.CORE_STAGE_LEAD_MAX_TRANSIT, 47, 32, .rw1c, 0⟩, ⟨.CORE_STAGE_LEAD_LEAD, 13, 0, .rw, 1500⟩]⟩,
  ⟨.CORE_BRIDGE_CNT_00, .CORE, 0x83000, 0x40, 1, 0x0, 2, 64, [⟨.CORE_BRIDGE_CNT_FRAMES, 63, 0, .ro, 0⟩]⟩,
  ⟨.CORE_BRIDGE_CNT_08, .CORE, 0x83008, 0x40, 1, 0x0, 2, 64, [⟨.CORE_BRIDGE_CNT_BYTES, 63, 0, .ro, 0⟩]⟩,
  ⟨.CORE_BRIDGE_CNT_10, .CORE, 0x83010, 0x40, 1, 0x0, 2, 64, [⟨.CORE_BRIDGE_DROP, 63, 0, .ro, 0⟩]⟩,
  ⟨.CORE_BRIDGE_CNT_18, .CORE, 0x83018, 0x40, 1, 0x0, 2, 64, [⟨.CORE_BRIDGE_CORR, 63, 32, .ro, 0⟩, ⟨.CORE_BRIDGE_UNCORR, 31, 0, .ro, 0⟩]⟩,
  ⟨.CORE_BRIDGE_CNT_20, .CORE, 0x83020, 0x40, 1, 0x0, 2, 64, [⟨.CORE_BRIDGE_CNT_PEAK_RATE, 63, 0, .rw1c, 0⟩]⟩]

/-- Registers of block PORT (07_ports_optics_and_mac_merge.md, R184). -/
def regsPORT0 : List RegDesc := [
  ⟨.PORT_GRP_CFG, .PORT, 0x100000, 0x10000, 1, 0x0, 32, 32, [⟨.PORT_GRP_CFG_ENGINE_EN, 31, 31, .rw, 0⟩, ⟨.PORT_GRP_CFG_SPLIT, 6, 0, .rw, 0⟩]⟩,
  ⟨.PORT_GRP_STATUS, .PORT, 0x100008, 0x10000, 1, 0x0, 32, 64, [⟨.PORT_GRP_STATUS_POPULATED, 63, 63, .ro, 0⟩, ⟨.PORT_GRP_STATUS_ENGINE_STATE, 62, 60, .ro, 0⟩, ⟨.PORT_GRP_STATUS_LASER_LOW_SEEN, 59, 59, .rw1c, 0⟩, ⟨.PORT_GRP_STATUS_LASER_LOSS_SEEN, 58, 58, .rw1c, 0⟩, ⟨.PORT_GRP_STATUS_TEMP_SEEN, 57, 57, .rw1c, 0⟩, ⟨.PORT_GRP_STATUS_MCODE_IF, 47, 32, .ro, 0⟩, ⟨.PORT_GRP_STATUS_CASE_TEMP, 31, 16, .ro, 0⟩, ⟨.PORT_GRP_STATUS_LASER_IN, 15, 0, .ro, 0⟩]⟩,
  ⟨.PORT_LASER_CFG, .PORT, 0x100010, 0x10000, 1, 0x0, 32, 32, [⟨.PORT_LASER_CFG_LOW_THR, 31, 16, .rw, 2000⟩, ⟨.PORT_LASER_CFG_LOSS_THR, 15, 0, .rw, 1700⟩]⟩,
  ⟨.PORT_GRP_CNT, .PORT, 0x100018, 0x10000, 1, 0x0, 32, 64, [⟨.PORT_GRP_CNT_LASER_LOSSES, 63, 32, .ro, 0⟩, ⟨.PORT_GRP_CNT_TEMP_TRIPS, 31, 0, .ro, 0⟩]⟩,
  ⟨.PORT_LANE_00, .PORT, 0x100100, 0x10000, 8, 0x10, 256, 64, [⟨.PORT_LANE_RX_POWER, 63, 48, .ro, 0⟩, ⟨.PORT_LANE_TX_POWER, 47, 32, .ro, 0⟩, ⟨.PORT_LANE_SIGNAL, 31, 31, .ro, 0⟩, ⟨.PORT_LANE_CDR_LOCK, 30, 30, .ro, 0⟩, ⟨.PORT_LANE_AM_LOCK, 29, 29, .ro, 0⟩]⟩,
  ⟨.PORT_LANE_08, .PORT, 0x100108, 0x10000, 8, 0x10, 256, 64, [⟨.PORT_LANE_FEC_SYMBOLS, 63, 0, .ro, 0⟩]⟩,
  ⟨.PORT_CFG, .PORT, 0x101000, 0x10000, 8, 0x1000, 256, 64, [⟨.PORT_CFG_ENABLE, 63, 63, .rw, 0⟩, ⟨.PORT_CFG_MAX_FRAME, 45, 32, .rw, 9728⟩, ⟨.PORT_CFG_UP_HOLD_MS, 31, 16, .rw, 100⟩, ⟨.PORT_CFG_DOWN_HOLD_US, 15, 0, .rw, 0⟩]⟩,
  ⟨.PORT_STATUS, .PORT, 0x101008, 0x10000, 8, 0x1000, 256, 32, [⟨.PORT_STATUS_LINK_UP, 31, 31, .ro, 0⟩, ⟨.PORT_STATUS_REMOTE_FAULT, 30, 30, .ro, 0⟩, ⟨.PORT_STATUS_LOCAL_FAULT, 29, 29, .ro, 0⟩, ⟨.PORT_STATUS_FEC_DEGRADED, 28, 28, .ro, 0⟩, ⟨.PORT_STATUS_LINK_DOWN_SEEN, 27, 27, .rw1c, 0⟩, ⟨.PORT_STATUS_LINK_STATE, 26, 24, .ro, 0⟩, ⟨.PORT_STATUS_WIDTH, 23, 20, .ro, 0⟩]⟩,
  ⟨.PORT_FEC_CFG, .PORT, 0x101010, 0x10000, 8, 0x1000, 256, 32, [⟨.PORT_FEC_CFG_DEG_SET, 31, 16, .rw, 4000⟩, ⟨.PORT_FEC_CFG_DEG_CLR, 15, 0, .rw, 2000⟩]⟩,
  ⟨.PORT_MM_CFG, .PORT, 0x101018, 0x10000, 8, 0x1000, 256, 32, [⟨.PORT_MM_CFG_MM_EN, 31, 31, .rw, 0⟩, ⟨.PORT_MM_CFG_VERIFY_EN, 30, 30, .rw, 1⟩, ⟨.PORT_MM_CFG_RESTART, 29, 29, .wo, 0⟩, ⟨.PORT_MM_CFG_ADD_FRAG, 25, 24, .rw, 0⟩, ⟨.PORT_MM_CFG_VERIFY_MS, 23, 16, .rw, 10⟩]⟩,
  ⟨.PORT_MM_STATUS, .PORT, 0x10101c, 0x10000, 8, 0x1000, 256, 32, [⟨.PORT_MM_STATUS_MM_ACTIVE, 31, 31, .ro, 0⟩, ⟨.PORT_MM_STATUS_VERIFY, 30, 28, .ro, 0⟩, ⟨.PORT_MM_STATUS_FAIL_SEEN, 27, 27, .rw1c, 0⟩, ⟨.PORT_MM_STATUS_HOLD, 26, 26, .ro, 0⟩]⟩,
  ⟨.PORT_CNT_00, .PORT, 0x101100, 0x10000, 8, 0x1000, 256, 64, [⟨.PORT_CNT_RX_FRAMES, 63, 0, .ro, 0⟩]⟩,
  ⟨.PORT_CNT_08, .PORT, 0x101108, 0x10000, 8, 0x1000, 256, 64, [⟨.PORT_CNT_RX_BYTES, 63, 0, .ro, 0⟩]⟩,
  ⟨.PORT_CNT_10, .PORT, 0x101110, 0x10000, 8, 0x1000, 256, 64, [⟨.PORT_CNT_RX_FCS_ERRORS, 63, 0, .ro, 0⟩]⟩,
  ⟨.PORT_CNT_18, .PORT, 0x101118, 0x10000, 8, 0x1000, 256, 64, [⟨.PORT_CNT_RX_RUNTS, 63, 0, .ro, 0⟩]⟩,
  ⟨.PORT_CNT_20, .PORT, 0x101120, 0x10000, 8, 0x1000, 256, 64, [⟨.PORT_CNT_RX_OVERSIZE, 63, 0, .ro, 0⟩]⟩,
  ⟨.PORT_CNT_28, .PORT, 0x101128, 0x10000, 8, 0x1000, 256, 64, [⟨.PORT_CNT_RX_MAC_CTRL, 63, 0, .ro, 0⟩]⟩,
  ⟨.PORT_CNT_30, .PORT, 0x101130, 0x10000, 8, 0x1000, 256, 64, [⟨.PORT_CNT_TX_FRAMES, 63, 0, .ro, 0⟩]⟩,
  ⟨.PORT_CNT_38, .PORT, 0x101138, 0x10000, 8, 0x1000, 256, 64, [⟨.PORT_CNT_TX_BYTES, 63, 0, .ro, 0⟩]⟩,
  ⟨.PORT_CNT_40, .PORT, 0x101140, 0x10000, 8, 0x1000, 256, 64, [⟨.PORT_CNT_TX_BAD_FCS, 63, 0, .ro, 0⟩]⟩]

/-- Registers of block PORT (07_ports_optics_and_mac_merge.md, R184). -/
def regsPORT1 : List RegDesc := [
  ⟨.PORT_CNT_48, .PORT, 0x101148, 0x10000, 8, 0x1000, 256, 64, [⟨.PORT_CNT_TX_ABORTS, 63, 0, .ro, 0⟩]⟩,
  ⟨.PORT_CNT_50, .PORT, 0x101150, 0x10000, 8, 0x1000, 256, 64, [⟨.PORT_CNT_TX_OVERSIZE, 63, 0, .ro, 0⟩]⟩,
  ⟨.PORT_CNT_58, .PORT, 0x101158, 0x10000, 8, 0x1000, 256, 64, [⟨.PORT_CNT_FEC_CORR_CW, 63, 0, .ro, 0⟩]⟩,
  ⟨.PORT_CNT_60, .PORT, 0x101160, 0x10000, 8, 0x1000, 256, 64, [⟨.PORT_CNT_FEC_UNCORR_CW, 63, 0, .ro, 0⟩]⟩,
  ⟨.PORT_CNT_68, .PORT, 0x101168, 0x10000, 8, 0x1000, 256, 64, [⟨.PORT_CNT_LINK_DOWNS, 63, 0, .ro, 0⟩]⟩,
  ⟨.PORT_CNT_70, .PORT, 0x101170, 0x10000, 8, 0x1000, 256, 64, [⟨.PORT_CNT_MM_ASS_OK, 63, 0, .ro, 0⟩]⟩,
  ⟨.PORT_CNT_78, .PORT, 0x101178, 0x10000, 8, 0x1000, 256, 64, [⟨.PORT_CNT_MM_ASS_ERRORS, 63, 0, .ro, 0⟩]⟩,
  ⟨.PORT_CNT_80, .PORT, 0x101180, 0x10000, 8, 0x1000, 256, 64, [⟨.PORT_CNT_MM_SMD_ERRORS, 63, 0, .ro, 0⟩]⟩,
  ⟨.PORT_CNT_88, .PORT, 0x101188, 0x10000, 8, 0x1000, 256, 64, [⟨.PORT_CNT_MM_FRAG_RX, 63, 0, .ro, 0⟩]⟩,
  ⟨.PORT_CNT_90, .PORT, 0x101190, 0x10000, 8, 0x1000, 256, 64, [⟨.PORT_CNT_MM_FRAG_TX, 63, 0, .ro, 0⟩]⟩,
  ⟨.PORT_CNT_98, .PORT, 0x101198, 0x10000, 8, 0x1000, 256, 64, [⟨.PORT_CNT_MM_HOLDS, 63, 0, .ro, 0⟩]⟩]

/-- Registers of block PORT. -/
def regsPORT : List RegDesc := regsPORT0 ++ regsPORT1

/-- Registers of block TIDE (06_tide_tables_and_launch.md, R160). -/
def regsTIDE0 : List RegDesc := [
  ⟨.TIDE_CTRL, .TIDE, 0x400000, 0x4000, 1, 0x0, 256, 32, [⟨.TIDE_CTRL_COMMIT, 31, 31, .wo, 0⟩, ⟨.TIDE_CTRL_CANCEL, 30, 30, .wo, 0⟩, ⟨.TIDE_CTRL_STOP, 29, 29, .wo, 0⟩, ⟨.TIDE_CTRL_PREEMPT_MASK, 15, 8, .rw, 0⟩, ⟨.TIDE_CTRL_IDLE_GATES, 7, 0, .rw, 255⟩]⟩,
  ⟨.TIDE_PORT_CFG, .TIDE, 0x400008, 0x4000, 1, 0x0, 256, 64, [⟨.TIDE_PORT_CFG_RELEASE_ADVANCE, 47, 32, .rw, 0⟩, ⟨.TIDE_PORT_CFG_HOLD_ADVANCE, 31, 16, .rw, 0⟩, ⟨.TIDE_PORT_CFG_OVERHEAD, 7, 0, .rw, 20⟩]⟩,
  ⟨.TIDE_ADMIN_BASE, .TIDE, 0x400010, 0x4000, 1, 0x0, 256, 64, [⟨.TIDE_ADMIN_BASE_BASE, 63, 0, .rw, 0⟩]⟩,
  ⟨.TIDE_ADMIN_BASE_HI, .TIDE, 0x400018, 0x4000, 1, 0x0, 256, 32, [⟨.TIDE_ADMIN_BASE_HI_BASE_HI, 31, 0, .rw, 0⟩]⟩,
  ⟨.TIDE_ADMIN_CYCLE, .TIDE, 0x400020, 0x4000, 1, 0x0, 256, 64, [⟨.TIDE_ADMIN_CYCLE_COUNT, 50, 40, .rw, 0⟩, ⟨.TIDE_ADMIN_CYCLE_CYCLE_FRAC, 39, 32, .rw, 0⟩, ⟨.TIDE_ADMIN_CYCLE_CYCLE_NS, 31, 0, .rw, 0⟩]⟩,
  ⟨.TIDE_PEND_START, .TIDE, 0x400028, 0x4000, 1, 0x0, 256, 64, [⟨.TIDE_PEND_START_START, 63, 0, .ro, 0⟩]⟩,
  ⟨.TIDE_PEND_START_HI, .TIDE, 0x400030, 0x4000, 1, 0x0, 256, 32, [⟨.TIDE_PEND_START_HI_START_HI, 31, 0, .ro, 0⟩]⟩,
  ⟨.TIDE_STATUS, .TIDE, 0x400038, 0x4000, 1, 0x0, 256, 32, [⟨.TIDE_STATUS_PENDING, 31, 31, .ro, 0⟩, ⟨.TIDE_STATUS_LOCKED, 30, 30, .ro, 0⟩, ⟨.TIDE_STATUS_OPER, 29, 29, .ro, 0⟩, ⟨.TIDE_STATUS_HOLD, 28, 28, .ro, 0⟩, ⟨.TIDE_STATUS_FAIL_SEEN, 27, 27, .rw1c, 0⟩, ⟨.TIDE_STATUS_COMMIT_RESULT, 19, 16, .ro, 0⟩, ⟨.TIDE_STATUS_GATES, 7, 0, .ro, 255⟩]⟩,
  ⟨.TIDE_OPER_BASE, .TIDE, 0x400040, 0x4000, 1, 0x0, 256, 64, [⟨.TIDE_OPER_BASE_BASE, 63, 0, .ro, 0⟩]⟩,
  ⟨.TIDE_OPER_BASE_HI, .TIDE, 0x400048, 0x4000, 1, 0x0, 256, 32, [⟨.TIDE_OPER_BASE_HI_BASE_HI, 31, 0, .ro, 0⟩]⟩,
  ⟨.TIDE_OPER_CYCLE, .TIDE, 0x400050, 0x4000, 1, 0x0, 256, 64, [⟨.TIDE_OPER_CYCLE_CYCLE, 63, 0, .ro, 0⟩]⟩,
  ⟨.TIDE_OPER_SWITCH, .TIDE, 0x400058, 0x4000, 1, 0x0, 256, 64, [⟨.TIDE_OPER_SWITCH_SWITCH, 63, 0, .ro, 0⟩]⟩,
  ⟨.TIDE_OPER_SWITCH_HI, .TIDE, 0x400060, 0x4000, 1, 0x0, 256, 32, [⟨.TIDE_OPER_SWITCH_HI_SWITCH_HI, 31, 0, .ro, 0⟩]⟩,
  ⟨.TIDE_OPER_INDEX, .TIDE, 0x400068, 0x4000, 1, 0x0, 256, 32, [⟨.TIDE_OPER_INDEX_INDEX, 9, 0, .rw, 0⟩]⟩,
  ⟨.TIDE_OPER_DATA, .TIDE, 0x400070, 0x4000, 1, 0x0, 256, 64, [⟨.TIDE_OPER_DATA_ENTRY, 63, 0, .ro, 0⟩]⟩,
  ⟨.TIDE_CNT_00, .TIDE, 0x400080, 0x4000, 1, 0x0, 256, 64, [⟨.TIDE_CNT_SWITCHES, 63, 32, .ro, 0⟩, ⟨.TIDE_CNT_COMMIT_FAILS, 31, 0, .ro, 0⟩]⟩,
  ⟨.TIDE_CNT_08, .TIDE, 0x400088, 0x4000, 1, 0x0, 256, 64, [⟨.TIDE_CNT_TX_OVERRUN, 63, 0, .ro, 0⟩]⟩,
  ⟨.TIDE_CNT_10, .TIDE, 0x400090, 0x4000, 1, 0x0, 256, 64, [⟨.TIDE_CNT_QUAY_LATE, 63, 0, .ro, 0⟩]⟩,
  ⟨.TIDE_CNT_18, .TIDE, 0x400098, 0x4000, 1, 0x0, 256, 64, [⟨.TIDE_CNT_QUAY_COLLIDE, 63, 0, .ro, 0⟩]⟩,
  ⟨.TIDE_CNT_20, .TIDE, 0x4000a0, 0x4000, 1, 0x0, 256, 64, [⟨.TIDE_CNT_PREEMPTIONS, 63, 0, .ro, 0⟩]⟩]

/-- Registers of block TIDE (06_tide_tables_and_launch.md, R160). -/
def regsTIDE1 : List RegDesc := [
  ⟨.TIDE_CNT_28, .TIDE, 0x4000a8, 0x4000, 1, 0x0, 256, 64, [⟨.TIDE_CNT_STEP_SKIPS, 63, 0, .ro, 0⟩]⟩,
  ⟨.TIDE_ADMIN_ENTRY, .TIDE, 0x402000, 0x4000, 1024, 0x8, 262144, 64, [⟨.TIDE_ADMIN_ENTRY_OP, 63, 61, .rw, 0⟩, ⟨.TIDE_ADMIN_ENTRY_GATES, 55, 48, .rw, 0⟩, ⟨.TIDE_ADMIN_ENTRY_INTERVAL_FRAC, 39, 32, .rw, 0⟩, ⟨.TIDE_ADMIN_ENTRY_INTERVAL_NS, 31, 0, .rw, 0⟩]⟩]

/-- Registers of block TIDE. -/
def regsTIDE : List RegDesc := regsTIDE0 ++ regsTIDE1

/-- Registers of block SCHD (05_berths_and_fair_queueing.md, R132). -/
def regsSCHD : List RegDesc := [
  ⟨.SCHD_BERTH_CFG, .SCHD, 0x800000, 0x20, 1, 0x0, 65536, 64, [⟨.SCHD_BERTH_CFG_VALID, 63, 63, .rw, 0⟩, ⟨.SCHD_BERTH_CFG_KIND, 62, 62, .rw, 0⟩, ⟨.SCHD_BERTH_CFG_LATE_POLICY, 61, 61, .rw, 0⟩, ⟨.SCHD_BERTH_CFG_SHAPER_EN, 60, 60, .rw, 0⟩, ⟨.SCHD_BERTH_CFG_TC, 59, 57, .rw, 0⟩, ⟨.SCHD_BERTH_CFG_PORT, 55, 48, .rw, 0⟩, ⟨.SCHD_BERTH_CFG_MAX_KIB, 47, 32, .rw, 0⟩, ⟨.SCHD_BERTH_CFG_WEIGHT, 15, 0, .rw, 1⟩]⟩,
  ⟨.SCHD_BERTH_SHAPER, .SCHD, 0x800008, 0x20, 1, 0x0, 65536, 64, [⟨.SCHD_BERTH_SHAPER_BURST, 56, 32, .rw, 0⟩, ⟨.SCHD_BERTH_SHAPER_RATE, 31, 0, .rw, 0⟩]⟩,
  ⟨.SCHD_BERTH_STATE, .SCHD, 0x800010, 0x20, 1, 0x0, 65536, 64, [⟨.SCHD_BERTH_STATE_SHADOW_LATE, 63, 63, .rw1c, 0⟩, ⟨.SCHD_BERTH_STATE_SHADOW_PEND, 62, 62, .ro, 0⟩, ⟨.SCHD_BERTH_STATE_IN_DEBT, 61, 61, .ro, 0⟩, ⟨.SCHD_BERTH_STATE_BACKLOGGED, 60, 60, .ro, 0⟩, ⟨.SCHD_BERTH_STATE_REFERENCED, 59, 59, .ro, 0⟩, ⟨.SCHD_BERTH_STATE_HANDOVER, 58, 58, .wo, 0⟩, ⟨.SCHD_BERTH_STATE_DEPTH, 52, 32, .ro, 0⟩, ⟨.SCHD_BERTH_STATE_BALANCE, 31, 0, .ro, 0⟩]⟩,
  ⟨.SCHD_BERTH_CNT, .SCHD, 0x800018, 0x20, 1, 0x0, 65536, 64, [⟨.SCHD_BERTH_CNT_SENT, 63, 32, .ro, 0⟩, ⟨.SCHD_BERTH_CNT_LATE, 31, 16, .rw1c, 0⟩, ⟨.SCHD_BERTH_CNT_DROPPED, 15, 0, .rw1c, 0⟩]⟩]

/-- Registers of block STRM (04_streams_and_ingress.md, R108). -/
def regsSTRM : List RegDesc := [
  ⟨.STRM_INDEX, .STRM, 0xa00000, 0x0, 1, 0x0, 1, 32, [⟨.STRM_INDEX_INDEX, 31, 0, .rw, 0⟩]⟩,
  ⟨.STRM_CMD, .STRM, 0xa00008, 0x0, 1, 0x0, 1, 32, [⟨.STRM_CMD_START, 31, 31, .wo, 0⟩, ⟨.STRM_CMD_TABLE, 27, 24, .rw, 0⟩, ⟨.STRM_CMD_OP, 23, 20, .rw, 0⟩, ⟨.STRM_CMD_BANK, 19, 19, .rw, 0⟩, ⟨.STRM_CMD_REPL_SEL, 18, 18, .rw, 0⟩, ⟨.STRM_CMD_REPLICA, 17, 16, .rw, 0⟩]⟩,
  ⟨.STRM_STATUS, .STRM, 0xa00010, 0x0, 1, 0x0, 1, 32, [⟨.STRM_STATUS_BUSY, 31, 31, .ro, 0⟩, ⟨.STRM_STATUS_RESULT, 7, 0, .ro, 0⟩]⟩,
  ⟨.STRM_USAGE, .STRM, 0xa00018, 0x0, 1, 0x0, 1, 64, [⟨.STRM_USAGE_OVF_USED, 63, 48, .ro, 0⟩, ⟨.STRM_USAGE_KEYS_USED, 47, 31, .ro, 0⟩, ⟨.STRM_USAGE_EGR_USED, 30, 13, .ro, 0⟩]⟩,
  ⟨.STRM_DATA, .STRM, 0xa00040, 0x8, 1, 0x0, 8, 64, [⟨.STRM_DATA_DATA, 63, 0, .rw, 0⟩]⟩,
  ⟨.STRM_PROFILE, .STRM, 0xa00800, 0x8, 1, 0x0, 16, 64, [⟨.STRM_PROFILE_IGN_DST_PORT, 13, 13, .rw, 0⟩, ⟨.STRM_PROFILE_IGN_SRC_PORT, 12, 12, .rw, 0⟩, ⟨.STRM_PROFILE_IGN_PROTO, 11, 11, .rw, 0⟩, ⟨.STRM_PROFILE_IGN_DSCP, 10, 10, .rw, 0⟩, ⟨.STRM_PROFILE_IGN_IP_SRC, 9, 9, .rw, 0⟩, ⟨.STRM_PROFILE_IGN_DMAC, 8, 8, .rw, 0⟩, ⟨.STRM_PROFILE_VALID, 6, 6, .rw, 0⟩, ⟨.STRM_PROFILE_PORT_IN_KEY, 5, 5, .rw, 0⟩, ⟨.STRM_PROFILE_TAGGED, 4, 3, .rw, 2⟩, ⟨.STRM_PROFILE_FUNCTION, 2, 0, .rw, 0⟩]⟩,
  ⟨.STRM_PORT_CFG, .STRM, 0xa01000, 0x8, 1, 0x0, 256, 64, [⟨.STRM_PORT_CFG_HOST_CLASS, 51, 48, .rw, 0⟩, ⟨.STRM_PORT_CFG_DEF_HANDLE, 47, 32, .rw, 0⟩, ⟨.STRM_PORT_CFG_DEF_RULE, 21, 20, .rw, 0⟩, ⟨.STRM_PORT_CFG_PROFILES, 19, 0, .rw, 0⟩]⟩,
  ⟨.STRM_PORT_CNT_00, .STRM, 0xa02000, 0x40, 1, 0x0, 256, 64, [⟨.STRM_PORT_CNT_IDENTIFIED, 63, 0, .ro, 0⟩]⟩,
  ⟨.STRM_PORT_CNT_08, .STRM, 0xa02008, 0x40, 1, 0x0, 256, 64, [⟨.STRM_PORT_CNT_UNMATCHED, 63, 0, .ro, 0⟩]⟩,
  ⟨.STRM_PORT_CNT_10, .STRM, 0xa02010, 0x40, 1, 0x0, 256, 64, [⟨.STRM_PORT_CNT_DEFAULT_DROPS, 63, 0, .ro, 0⟩]⟩,
  ⟨.STRM_PORT_CNT_18, .STRM, 0xa02018, 0x40, 1, 0x0, 256, 64, [⟨.STRM_PORT_CNT_TRAPPED, 63, 0, .ro, 0⟩]⟩,
  ⟨.STRM_PORT_CNT_20, .STRM, 0xa02020, 0x40, 1, 0x0, 256, 64, [⟨.STRM_PORT_CNT_LEN_MISMATCH, 63, 0, .ro, 0⟩]⟩]

/-- Registers of block BRKW (08_breakwater.md, R212). -/
def regsBRKW : List RegDesc := [
  ⟨.BRKW_INDEX, .BRKW, 0xb00000, 0x0, 1, 0x0, 1, 32, [⟨.BRKW_INDEX_INSTANCE, 15, 0, .rw, 0⟩]⟩,
  ⟨.BRKW_CMD, .BRKW, 0xb00008, 0x0, 1, 0x0, 1, 32, [⟨.BRKW_CMD_START, 31, 31, .wo, 0⟩, ⟨.BRKW_CMD_PATH, 26, 24, .rw, 0⟩, ⟨.BRKW_CMD_TABLE, 23, 20, .rw, 0⟩, ⟨.BRKW_CMD_OP, 19, 16, .rw, 0⟩]⟩,
  ⟨.BRKW_STATUS, .BRKW, 0xb00010, 0x0, 1, 0x0, 1, 32, [⟨.BRKW_STATUS_BUSY, 31, 31, .ro, 0⟩, ⟨.BRKW_STATUS_RESULT, 7, 0, .ro, 0⟩]⟩,
  ⟨.BRKW_POOL, .BRKW, 0xb00018, 0x8, 1, 0x0, 4, 64, [⟨.BRKW_POOL_BITS_USED, 23, 0, .ro, 0⟩]⟩,
  ⟨.BRKW_DATA, .BRKW, 0xb00040, 0x8, 1, 0x0, 16, 64, [⟨.BRKW_DATA_DATA, 63, 0, .rw, 0⟩]⟩]

/-- Registers of block STOR (09_stream_store.md, R238). -/
def regsSTOR : List RegDesc := [
  ⟨.STOR_INDEX, .STOR, 0xc00000, 0x0, 1, 0x0, 1, 32, [⟨.STOR_INDEX_INDEX, 16, 0, .rw, 0⟩]⟩,
  ⟨.STOR_CMD, .STOR, 0xc00008, 0x0, 1, 0x0, 1, 32, [⟨.STOR_CMD_START, 31, 31, .wo, 0⟩, ⟨.STOR_CMD_TABLE, 23, 20, .rw, 0⟩, ⟨.STOR_CMD_OP, 19, 16, .rw, 0⟩]⟩,
  ⟨.STOR_STATUS, .STOR, 0xc00010, 0x0, 1, 0x0, 1, 32, [⟨.STOR_STATUS_BUSY, 31, 31, .ro, 0⟩, ⟨.STOR_STATUS_RESULT, 7, 0, .ro, 0⟩]⟩,
  ⟨.STOR_QUAD, .STOR, 0xc00018, 0x8, 1, 0x0, 4, 64, [⟨.STOR_QUAD_CHARGE_MBPS, 63, 39, .ro, 0⟩, ⟨.STOR_QUAD_RETIRED, 38, 23, .ro, 0⟩, ⟨.STOR_QUAD_PAGES_FREE, 20, 0, .ro, 1048576⟩]⟩,
  ⟨.STOR_ECC_CNT, .STOR, 0xc00040, 0x8, 1, 0x0, 8, 64, [⟨.STOR_ECC_CNT_CORR, 63, 32, .ro, 0⟩, ⟨.STOR_ECC_CNT_UNCORR, 31, 0, .ro, 0⟩]⟩,
  ⟨.STOR_SCRUB_CFG, .STOR, 0xc00080, 0x0, 1, 0x0, 1, 32, [⟨.STOR_SCRUB_CFG_SCRUB_EN, 31, 31, .rw, 1⟩, ⟨.STOR_SCRUB_CFG_PERIOD_H, 15, 0, .rw, 24⟩]⟩,
  ⟨.STOR_CURSORS, .STOR, 0xc00088, 0x0, 1, 0x0, 1, 64, [⟨.STOR_CURSORS_Q3, 63, 48, .ro, 0⟩, ⟨.STOR_CURSORS_Q2, 47, 32, .ro, 0⟩, ⟨.STOR_CURSORS_Q1, 31, 16, .ro, 0⟩, ⟨.STOR_CURSORS_Q0, 15, 0, .ro, 0⟩]⟩,
  ⟨.STOR_SPILL_CFG, .STOR, 0xc00090, 0x8, 1, 0x0, 2, 64, [⟨.STOR_SPILL_CFG_ENABLE, 63, 63, .rw, 0⟩, ⟨.STOR_SPILL_CFG_BUDGET_MBS, 47, 32, .rw, 12000⟩]⟩,
  ⟨.STOR_SPILL_STAT, .STOR, 0xc000a0, 0x8, 1, 0x0, 2, 64, [⟨.STOR_SPILL_STAT_READY, 63, 63, .ro, 0⟩, ⟨.STOR_SPILL_STAT_FAULT, 62, 62, .ro, 0⟩, ⟨.STOR_SPILL_STAT_FAULT_SEEN, 61, 61, .rw1c, 0⟩, ⟨.STOR_SPILL_STAT_FREE_PAGES, 31, 0, .ro, 0⟩]⟩,
  ⟨.STOR_DATA, .STOR, 0xc00100, 0x8, 1, 0x0, 16, 64, [⟨.STOR_DATA_DATA, 63, 0, .rw, 0⟩]⟩]

/-- Registers of block SPIL (10_pcie_endpoint_and_spill_ports.md, R274). -/
def regsSPIL : List RegDesc := [
  ⟨.SPIL_SLOT_CAP, .SPIL, 0xd00000, 0x100, 1, 0x0, 2, 32, [⟨.SPIL_SLOT_CAP_FEATURES, 31, 26, .ro, 63⟩, ⟨.SPIL_SLOT_CAP_SLOT, 0, 0, .ro, 0⟩]⟩,
  ⟨.SPIL_SLOT_CTRL, .SPIL, 0xd00004, 0x100, 1, 0x0, 2, 32, [⟨.SPIL_SLOT_CTRL_PWR_IND, 7, 6, .rw, 3⟩, ⟨.SPIL_SLOT_CTRL_ATTN_IND, 5, 4, .rw, 3⟩, ⟨.SPIL_SLOT_CTRL_PERST_REL, 1, 1, .rw, 0⟩, ⟨.SPIL_SLOT_CTRL_PWR_ON, 0, 0, .rw, 0⟩]⟩,
  ⟨.SPIL_SLOT_STATUS, .SPIL, 0xd00008, 0x100, 1, 0x0, 2, 32, [⟨.SPIL_SLOT_STATUS_PRESENT, 31, 31, .ro, 0⟩, ⟨.SPIL_SLOT_STATUS_PWR_FAULT, 30, 30, .ro, 0⟩, ⟨.SPIL_SLOT_STATUS_BTN, 29, 29, .ro, 0⟩, ⟨.SPIL_SLOT_STATUS_LINK_UP, 28, 28, .ro, 0⟩, ⟨.SPIL_SLOT_STATUS_PRES_CHG, 23, 23, .rw1c, 0⟩, ⟨.SPIL_SLOT_STATUS_PWR_FAULT_SEEN, 22, 22, .rw1c, 0⟩, ⟨.SPIL_SLOT_STATUS_BTN_PRESSED, 21, 21, .rw1c, 0⟩, ⟨.SPIL_SLOT_STATUS_LINK_CHG, 20, 20, .rw1c, 0⟩, ⟨.SPIL_SLOT_STATUS_SPEED, 7, 4, .ro, 0⟩, ⟨.SPIL_SLOT_STATUS_WIDTH, 3, 0, .ro, 0⟩]⟩,
  ⟨.SPIL_CNT_00, .SPIL, 0xd00020, 0x100, 1, 0x0, 2, 64, [⟨.SPIL_CNT_INSERTIONS, 63, 0, .ro, 0⟩]⟩,
  ⟨.SPIL_CNT_08, .SPIL, 0xd00028, 0x100, 1, 0x0, 2, 64, [⟨.SPIL_CNT_REMOVALS, 63, 0, .ro, 0⟩]⟩,
  ⟨.SPIL_CNT_10, .SPIL, 0xd00030, 0x100, 1, 0x0, 2, 64, [⟨.SPIL_CNT_PWR_FAULTS, 63, 0, .ro, 0⟩]⟩,
  ⟨.SPIL_CNT_18, .SPIL, 0xd00038, 0x100, 1, 0x0, 2, 64, [⟨.SPIL_CNT_LINK_DOWNS, 63, 0, .ro, 0⟩]⟩,
  ⟨.SPIL_CNT_20, .SPIL, 0xd00040, 0x100, 1, 0x0, 2, 64, [⟨.SPIL_CNT_CPL_TIMEOUTS, 63, 0, .ro, 0⟩]⟩,
  ⟨.SPIL_CNT_28, .SPIL, 0xd00048, 0x100, 1, 0x0, 2, 64, [⟨.SPIL_CNT_BTN_PRESSES, 63, 0, .ro, 0⟩]⟩]

/-- Registers of block DBG (17_development_access.md, R426). -/
def regsDBG : List RegDesc := [
  ⟨.DBG_STATUS, .DBG, 0xe00000, 0x0, 1, 0x0, 1, 32, [⟨.DBG_STATUS_FREEZE_ACTIVE, 31, 31, .ro, 0⟩, ⟨.DBG_STATUS_CAPTURE_HELD, 30, 30, .ro, 0⟩, ⟨.DBG_STATUS_CAP_LOST_SEEN, 29, 29, .ro, 0⟩, ⟨.DBG_STATUS_FTEST, 28, 28, .ro, 0⟩, ⟨.DBG_STATUS_MON_WRITE, 27, 27, .ro, 0⟩, ⟨.DBG_STATUS_MON_UNLOCKED, 26, 26, .ro, 0⟩, ⟨.DBG_STATUS_LAST_SOURCE, 25, 24, .ro, 0⟩, ⟨.DBG_STATUS_CAP_LINES, 23, 0, .ro, 0⟩]⟩,
  ⟨.DBG_FREEZE_START, .DBG, 0xe00008, 0x0, 1, 0x0, 1, 64, [⟨.DBG_FREEZE_START_START, 63, 0, .ro, 0⟩]⟩,
  ⟨.DBG_FREEZE_START_HI, .DBG, 0xe00010, 0x0, 1, 0x0, 1, 32, [⟨.DBG_FREEZE_START_HI_START_HI, 31, 0, .ro, 0⟩]⟩,
  ⟨.DBG_FREEZE_END, .DBG, 0xe00018, 0x0, 1, 0x0, 1, 64, [⟨.DBG_FREEZE_END_END, 63, 0, .ro, 0⟩]⟩,
  ⟨.DBG_FREEZE_END_HI, .DBG, 0xe00020, 0x0, 1, 0x0, 1, 32, [⟨.DBG_FREEZE_END_HI_END_HI, 31, 0, .ro, 0⟩]⟩,
  ⟨.DBG_CNT_00, .DBG, 0xe00040, 0x0, 1, 0x0, 1, 64, [⟨.DBG_CNT_FREEZES, 63, 0, .ro, 0⟩]⟩,
  ⟨.DBG_CNT_08, .DBG, 0xe00048, 0x0, 1, 0x0, 1, 64, [⟨.DBG_CNT_CHALLENGE_FAILS, 63, 0, .ro, 0⟩]⟩,
  ⟨.DBG_CNT_10, .DBG, 0xe00050, 0x0, 1, 0x0, 1, 64, [⟨.DBG_CNT_INJECTIONS, 63, 0, .ro, 0⟩]⟩,
  ⟨.DBG_CNT_18, .DBG, 0xe00058, 0x0, 1, 0x0, 1, 64, [⟨.DBG_CNT_MON_ERRORS, 63, 0, .ro, 0⟩]⟩]

/-- The registers of one block. -/
def Block.regs : Block → List RegDesc
  | .HOST => regsHOST
  | .MBX => regsMBX
  | .DMA => regsDMA
  | .FLT => regsFLT
  | .SAFF => regsSAFF
  | .TIME => regsTIME
  | .DUO => regsDUO
  | .PWR => regsPWR
  | .CORE => regsCORE
  | .PORT => regsPORT
  | .TIDE => regsTIDE
  | .SCHD => regsSCHD
  | .STRM => regsSTRM
  | .BRKW => regsBRKW
  | .STOR => regsSTOR
  | .SPIL => regsSPIL
  | .DBG => regsDBG
  | .MSIX => []

/-- The value a field holds after RST_N or power removal (R12): the Reset column; the rule in place of a number where
the table gives one. A value "from the record" or from a strap is 0 here and is loaded when the record is read or the
straps are latched. -/
def Fld.resetAt (f : Fld) (i : Nat) : Nat :=
  match f with
  | .HOST_VEC_MAP_VECTOR => i
  | .SPIL_SLOT_CAP_SLOT => i
  | .SAFF_SECT_CAPACITY => [16384, 393216, 32768, 32768, 16384, 16384].getD i 0
  | .CORE_SLACK_CTRL_ENABLE => 1
  | .CORE_SLACK_CTRL_LOWER_THR => 120
  | .CORE_SLACK_CTRL_WARN_THR => 50
  | .CORE_SLACK_CTRL_RAISE_THR => 30
  | .CORE_SLACK_CFG_TARGET_SIZE => 64
  | .CORE_SLACK_MIN_MIN_SLACK => 32767
  | .CORE_AVS_CTRL_MODE => 1
  | .CORE_AVS_CTRL_PEC => 1
  | .CORE_AVS_CTRL_ADDR => 64
  | .CORE_AVS_CTRL_STEP_UP => 10
  | .CORE_AVS_CTRL_STEP_DOWN => 5
  | .CORE_AVS_LIMITS_DWELL_MS => 1000
  | .CORE_AVS_LIMITS_SETTLE_US => 200
  | .CORE_AVS_LIMITS_CEIL_MV => 800
  | .CORE_AVS_LIMITS_FLOOR_MV => 680
  | .CORE_STAGE_LEAD_LEAD => 1500
  | .TIME_STATUS_SERVO_SRC => 15
  | .TIME_INCR_NS => 6
  | .TIME_INCR_FRAC => 1717986918
  | .TIME_SERVO_CFG_STEP_THR => 1000
  | .TIME_SERVO_CFG_LOCK_THR => 10
  | .TIME_SERVO_CFG_HOLD_SPEC_S => 300
  | .TIME_CHECK_CFG_CONFIRM_S => 10
  | .TIME_CHECK_CFG_READMIT_S => 60
  | .TIME_CHECK_CFG_DELAY_STEP_NS => 50
  | .TIME_CHECK_CFG_CHECK_TOL_NS => 20
  | .TIME_PPS_CFG_OUT_MODE => 2
  | .TIME_PPS_CFG_WIDTH_US => 100
  | .TIME_SRC_PRIORITY => 15
  | .TIME_PORT_CFG_RTC_EN => 1
  | .TIME_PORT_CFG_INST => 15
  | .STRM_PROFILE_TAGGED => 2
  | .SCHD_BERTH_CFG_WEIGHT => 1
  | .TIDE_CTRL_IDLE_GATES => 255
  | .TIDE_PORT_CFG_OVERHEAD => 20
  | .TIDE_STATUS_GATES => 255
  | .PORT_LASER_CFG_LOW_THR => 2000
  | .PORT_LASER_CFG_LOSS_THR => 1700
  | .PORT_CFG_MAX_FRAME => 9728
  | .PORT_CFG_UP_HOLD_MS => 100
  | .PORT_FEC_CFG_DEG_SET => 4000
  | .PORT_FEC_CFG_DEG_CLR => 2000
  | .PORT_MM_CFG_VERIFY_EN => 1
  | .PORT_MM_CFG_VERIFY_MS => 10
  | .STOR_QUAD_PAGES_FREE => 1048576
  | .STOR_SCRUB_CFG_SCRUB_EN => 1
  | .STOR_SCRUB_CFG_PERIOD_H => 24
  | .STOR_SPILL_CFG_BUDGET_MBS => 12000
  | .HOST_WAKE_CFG_FLT_EN => 1
  | .HOST_WAKE_CFG_EVT_EN => 1
  | .HOST_VEC_MAP_EN => 1
  | .SPIL_SLOT_CAP_FEATURES => 63
  | .SPIL_SLOT_CTRL_PWR_IND => 3
  | .SPIL_SLOT_CTRL_ATTN_IND => 3
  | .DMA_CH_CFG_SIZE_LOG2 => 3
  | .DMA_REQ_BURST => 64
  | .DMA_REQ_WM => 64
  | .FLT_STATUS_ERR_OUT => 1
  | .FLT_CFG_QUIET_MS => 100
  | .FLT_CFG_LIMIT => 8
  | .FLT_CFG_WINDOW_S => 600
  | .FLT_ALIVE_CFG_TIMEOUT_MS => 5
  | .FLT_PINS_ERR_N => 1
  | .DUO_CFG_SILENCE_US => 300
  | .DUO_STATUS_PEER_PINS => 2
  | .PWR_DOMAIN_CTRL_REQ => 87960930222080
  | .PWR_MILESTONE_US => 4294967295
  | _ => 0

end Sys2Proof.Machine
end

