-- ==== Sys2Proof/Machine/State.lean ====
section
/-!
DEFINITION. Machine/State.lean: the whole state of the KNV-5120 / KNV-2560 as plain data, and the state after reset.
Every field of a BAR0 register lives once, in `Chip.regs`, under its name in `Fld` and the index of its instance; a
field never written holds the reset value of its table. What the spec gives the machine beyond its registers stands in
the records below, one group per chapter. INVENTORY.md lists it all with the rule that names each piece.
-/
namespace Sys2Proof.Machine

/-- The ways a step can stop with a fault. No meaning of this model answers one: the spec gives every command an
effect (an access error is counted or answered as its rule says). -/
inductive Fault where
  /-- Raised by nothing; kept so that the interface has a type of its own. Safe. -/
  | noSuchAddress
  deriving DecidableEq, Repr

/-- The ways a step can be refused. -/
inductive Refusal where
  /-- Raised by `exec` for a command that has no meaning yet. Safe: the machine stops. -/
  | notModelled (mnemonic : String)
  deriving DecidableEq, Repr

/-- What the device sends out; the state keeps it, oldest first (notes/assumptions/3.md). -/
inductive Output where
  /-- An MSI-X message of a vector (R248, R249); `ro`, here and below, is its Relaxed Ordering attribute (R252). -/
  | msix (vector : Nat) (ro : Bool)
  /-- A frame, without its check sequence, that began to leave a port; `badFcs` if it ends with a bad one (R168). -/
  | frame (p at_ : Nat) (bytes : Bytes)
  /-- The frame leaving a port was cut short and ends with a bad check sequence (R168, R174). -/
  | badFcs (p : Nat)
  /-- A port begins or ends to send remote fault in place of idles (R166, R174). -/
  | remoteFault (p : Nat) (on : Bool)
  /-- A verify mPacket (R179). -/
  | verify (p : Nat)
  /-- A response mPacket (R179). -/
  | response (p : Nat)
  /-- The transmitters of a group go dark or light. -/
  | laser (g : Nat) (on : Bool)
  /-- A PMBus transaction starts (R39): the target address, whether it carries a packet error code, the command code and
  the data. -/
  | pmbus (addr : Nat) (pec : Bool) (command data : Nat)
  /-- The level of PPS_OUT changes (R64). -/
  | ppsOut (level : Bool)
  /-- Data answered to a register or aperture read; `status` 0 success, 1 unsupported request, 2 poisoned. -/
  | readData (src : Src) (status len data : Nat)
  /-- Bytes answered to an aperture read (R247). -/
  | readBytes (status : Nat) (bytes : Bytes)
  /-- A memory read request of the host endpoint (R252). -/
  | hostRead (tag addr len : Nat) (ro : Bool)
  /-- A memory write of the host endpoint (R253). -/
  | hostWrite (addr : Nat) (ro : Bool) (bytes : Bytes)
  /-- A configuration request completed with Configuration Request Retry Status (R263, R264, R267). -/
  | configRetry
  /-- A PCIe message: 0 PM_PME, 1 PME_TO_Ack (R259, R260). -/
  | pcieMessage (code : Nat)
  /-- The level of WAKE_N changes (R260). -/
  | wakeN (low : Bool)
  /-- The levels of ERR_P and ERR_N change (R359). -/
  | errPins (p n : Bool)
  /-- The level of ALIVE changes (R360). -/
  | alive (level : Bool)
  /-- A control pin of a spill slot changes: 0 power, 1 PERST, 2 power indicator, 3 attention indicator, 4 the reference
  clock (R270-R273). -/
  | slotPin (slot pin value : Nat)
  /-- A request to the drive of a spill slot: 0 write pages, 1 read pages, 2 flush, 3 format, 4 shutdown (R235, R341). -/
  | drive (slot request : Nat) (addr : Nat)
  /-- A line of monitor text (R412, R413). -/
  | monText (bytes : Bytes)
  /-- Bits shifted out of the JTAG port, least significant first (R421). -/
  | jtag (width data : Nat)
  /-- The signal balls take the levels of the boundary register (R421, R441). -/
  | balls (levels : Nat)
  /-- A step record sent to the peer (R375). -/
  | stepRecord (r : StepRecord)
  /-- An acknowledgement sent to the peer (R377). -/
  | stepAck (epoch : Nat)
  /-- A control message to the peer: 0 join request, 1 join accepted, 2 join refused (R388). -/
  | duoMessage (code : Nat)
  /-- What the serving unit sends the joiner in an epoch of a join: 1 CONFIG, 2 STREAM (R389). -/
  | duoData (epoch : Nat) (data : PeerData)
  /-- The pages that it sends in the STORE epoch, by store address (R389). -/
  | duoPages (pages : List (Nat × Bytes))
  /-- The pins assigned to alarm outputs are driven, or let go (R381). -/
  | alarms (on : Bool)
  deriving DecidableEq, Repr

/-! ### Identity and pins -/

/-- Identity and the pins no register shows. -/
structure Ident where
  /-- The part is a KNV-2560 (R2). -/
  half : Bool
  /-- The unit's serial number (R333). -/
  serial : Nat
  /-- The fused minimum security version (R294). -/
  secMin : Nat
  /-- GPIO0-GPIO15 levels. -/
  gpio : Nat
  deriving DecidableEq, Repr

/-! ### Handshake core (02_handshake_core.md) -/

/-- Why a VOUT_COMMAND is written: a correction (R45), a raise (R43) or a lowering (R44). -/
inductive VStep where
  | correct | raise | lower
  deriving DecidableEq, Repr

/-- A transaction of the adaptive-voltage engine on the PMBus (R39). -/
inductive Pm where
  /-- VOUT_MODE, read once after start (R40). -/
  | voutMode
  /-- READ_VOUT after start (R40). -/
  | firstVout
  /-- READ_VOUT of the 10 ms poll. -/
  | pollVout
  /-- READ_VOUT once SETTLE has passed after a VOUT_COMMAND; `again` if that command repeated one whose check failed
  (R46). -/
  | checkVout (step : VStep) (again : Bool)
  /-- VOUT_COMMAND; `again` if it repeats one that was written and whose check failed (R46). -/
  | setVout (step : VStep) (again : Bool)
  /-- STATUS_WORD on an alert (R47). -/
  | statusWord
  /-- CLEAR_FAULTS after STATUS_WORD (R47). -/
  | clearFaults
  deriving DecidableEq, Repr

/-- The adaptive-voltage engine beyond its registers. -/
structure AvsS where
  /-- The transaction on the bus, and whether it is a retry (R46). -/
  bus : Option (Pm × Bool)
  /-- The transaction on the bus carries a packet error code (R39). -/
  pec : Bool
  /-- The engine has restarted since the transaction on the bus began (R42). -/
  stale : Bool
  /-- The transactions waiting for the bus, oldest first, and whether each is a retry. -/
  waiting : List (Pm × Bool)
  /-- The signed exponent N of VOUT_MODE. -/
  exponent : Int
  /-- VOUT_MODE and READ_VOUT have been read (R40). -/
  started : Bool
  /-- The present setpoint in mV (R40); SET_MV shows it. -/
  set : Nat
  /-- The setpoint that the VOUT_COMMAND on the bus writes. -/
  target : Nat
  /-- The VOUT_COMMANDs whose SETTLE runs, oldest first: each ends in a READ_VOUT, and that of a raise holds off a further
  raise (R43, R46). -/
  settling : List (VStep × Bool)
  /-- AVS_ALERT_N went low while the engine could not act on it, in a freeze or in reset (R47, R48). -/
  alert : Bool
  deriving DecidableEq, Repr

/-- A quadrant's slack monitor: a SLACK_LOW report is out and slack has not stayed at or above WARN_THR for 1 ms. -/
structure SlackS where
  /-- Windows in a row at or above WARN_THR since the last SLACK_LOW, up to ten; ten or none outstanding: armed. -/
  goodRun : Nat
  deriving DecidableEq, Repr

/-! ### Timebase (03_timebase.md) -/

/-- A STEP or LOAD held while no reference edge arrives (R60). -/
inductive HeldCmd where
  | step | load
  deriving DecidableEq, Repr

/-- A PTP instance (R66, R338): its configuration and what Fened has learnt. -/
structure PtpInst where
  /-- The 48 parameter bytes of PTP_INST_SET. -/
  cfg : Bytes
  gmId : Nat
  stepsRemoved : Nat
  /-- The port in the slave state; 0xFF for none. -/
  slavePort : Nat
  gmClass : Nat
  /-- Port states, by port (R338); a port of the instance never named is LISTENING. -/
  portState : KMap Nat
  /-- The delay filters of its ports, newest first (R68, R71): empty, or eight mean link delays in units of 2^-16 ns. -/
  links : KMap (List Int)
  deriving DecidableEq, Repr

/-- A time source beyond its registers (R71-R76). Times and delays are in units of 2^-16 ns. -/
structure SrcS where
  /-- The delay filter, newest first: empty, or eight values (R71, R73). -/
  filter : List Int
  /-- The filtered offset of R73; none before the first applied sample. -/
  filtOffset : Option Int
  /-- A suspected step waits for the next delay exchange (R73). -/
  suspected : Bool
  /-- The delay before the step that a confirmation weighs, and the size of the step (R76). -/
  before : Int
  stepSize : Int
  /-- The last difference between arrival and origin time of a Sync, from which the offset follows (R71, R74). -/
  diff : Int
  /-- The last offset sample waits for a servo update (R72). -/
  unused : Bool
  deriving DecidableEq, Repr

/-- The timebase beyond its registers. -/
structure TimeS where
  /-- The three counters, in units of 2^-32 ns (R52). -/
  ctr0 : Nat
  ctr1 : Nat
  ctr2 : Nat
  /-- The always-on domain runs the counters (R401). -/
  running : Bool
  /-- Edges arrive on REFCLK (R53). -/
  refOn : Bool
  held : Option HeldCmd
  /-- Consecutive servo updates with |offset| within LOCK_THR (R77). -/
  lockRun : Nat
  /-- The increments written and the instants they were written at, newest first (R77: the mean of the last 16 s). -/
  incrs : List (Nat × Nat)
  srcs : KMap SrcS
  inst : KMap PtpInst
  /-- The last PPS_IN edge, in units of 2^-16 ns (R63). -/
  ppsEdge : Option Nat
  /-- PPS_OUT is in its pulse, and the instant of the active edge of its last pulse (R64). -/
  ppsOut : Bool
  ppsAt : Nat
  /-- UTC offset and leap flags learnt from Announce (R59). -/
  utcOffset : Nat
  leap59 : Bool
  leap61 : Bool
  /-- The upstream grandmaster's class (R77). -/
  upClass : Nat
  /-- The clockClass advertised on master ports (R77). -/
  clockClass : Nat
  deriving DecidableEq, Repr

/-! ### Host endpoint and spill ports (10_pcie_endpoint_and_spill_ports.md) -/

/-- An MSI-X table entry (R248). -/
structure MsixEntry where
  addr : Nat
  data : Nat
  masked : Bool
  deriving DecidableEq, Repr

/-- The configuration fields that a configuration write can change (R241-R245, R255, R259) and the error logs. -/
structure Config0 where
  memEn : Bool
  busMaster : Bool
  parityEn : Bool
  serrEn : Bool
  intDisable : Bool
  intLine : Nat
  bar0 : Nat
  bar2 : Nat
  /-- Encoding of the Resizable BAR size: 10 for 1 GiB to 18 for 256 GiB. -/
  barSize : Nat
  /-- 0 D0, 3 D3hot. -/
  dstate : Nat
  pmeEn : Bool
  pmeStatus : Bool
  maxPayload : Nat
  maxReadReq : Nat
  relaxed : Bool
  noSnoop : Bool
  /-- Completion Timeout Value (R255). -/
  cto : Nat
  aspmL1 : Bool
  msixEn : Bool
  msixMask : Bool
  /-- AER uncorrectable and correctable status bits. -/
  aerUncorr : Nat
  aerCorr : Nat
  /-- The AER header log of 4 double words (R243). -/
  aerLog : Nat
  deriving DecidableEq, Repr

/-- A read the endpoint has issued and that is not complete (R252, R256). -/
structure OutRead where
  tag : Nat
  /-- The channel that issued it. -/
  ch : Nat
  /-- 0 a descriptor fetch, 1 data for the store, 2 a flush read, 3 a frame's bytes, 4 nothing waits for it any more, 5
  data for the store that no descriptor waits for any more (R250, R284). -/
  purpose : Nat
  /-- Where its data go: a store address, or an offset in a frame's bytes. -/
  target : Nat
  len : Nat
  /-- The bytes that partial completions have brought (R256). -/
  got : Bytes
  deriving DecidableEq, Repr

/-- The host endpoint beyond its registers. -/
structure HostS where
  /-- PERST_N is asserted. -/
  perst : Bool
  /-- The function serves configuration and memory requests (R263). -/
  ready : Bool
  cfg : Config0
  msix : KMap MsixEntry
  /-- Pending bits that are set (R248). -/
  pba : KMap Bool
  reads : List OutRead
  /-- Tags in quarantine, and whether a function-level reset (R264) or a timeout (R256) put them there. -/
  quar : KMap Bool
  /-- The link is in L1 (R261). -/
  inL1 : Bool
  /-- PME_Turn_Off has been acknowledged and the link has moved to L2 (R259). -/
  turnedOff : Bool
  /-- The link was lost; the function presents its reset state when it returns (R262, R266). -/
  lost : Bool
  /-- The function is in D3cold (R259). -/
  d3cold : Bool
  /-- WAKE_N is driven low (R260). -/
  wake : Bool
  /-- A PM_PME follows once the link is up (R260). -/
  pmeDue : Bool
  deriving DecidableEq, Repr

/-- What one path holds between two half accesses (R447, R448). -/
structure PathS where
  /-- A held low half: the register's offset and the value. -/
  lowHeld : Option (Nat × Nat)
  /-- A captured high half: the register's offset and the value. -/
  highCap : Option (Nat × Nat)
  /-- Latched _HI values, by the offset of the _HI register. -/
  hi : KMap Nat
  deriving DecidableEq, Repr

/-- A step of the attention-button sequence (R272). -/
inductive Button where
  /-- Steps 1-2: five seconds in which a second press cancels. -/
  | armed (previous : Nat)
  /-- Steps 3-4: shutdown notified. -/
  | shutdown
  /-- Steps 3'-4': powered, link training. -/
  | powering
  deriving DecidableEq, Repr

/-- A spill slot and its drive beyond the registers (R270-R272, R235). -/
structure SpilS where
  /-- The drive in the slot: SPx_PRSNT_N is low while there is one. -/
  drive : Option DriveInfo
  /-- SPx_PWRFLT_N and SPx_ATNBTN_N are low (R270). -/
  faultLow : Bool
  btnLow : Bool
  button : Option Button
  locating : Bool
  /-- The last power-up failed, so that the attention indicator stays on until PWR_FAULT_SEEN is cleared (R273). -/
  upFailed : Bool
  /-- A spill-prepare has made the drive usable; its 64 KiB pages (R235). -/
  prepared : Option Nat
  /-- The drive works as R237 asks for; a drive fault stops copying. -/
  stopped : Bool
  deriving DecidableEq, Repr

/-! ### DMA engine (11_dma_engine.md) -/

/-- The descriptor a channel executes (R280, R281). -/
structure DmaCur where
  idx : Nat
  words : List Nat
  /-- Bytes requested or written so far, and bytes moved. -/
  issued : Nat
  moved : Nat
  /-- Data that have arrived, by offset. -/
  buf : KMap Bytes
  /-- 0 its data move, 1 the flush read is out, 2 it is complete, 3 the flush read waits to be issued. -/
  phase : Nat
  status : Nat
  deriving DecidableEq, Repr

/-- A held writeback (R283): the descriptor's index, the bytes, the interrupt source that it raises, the status, and the
Berth that the descriptor names (R285). -/
structure HeldWb where
  idx : Nat
  bytes : Bytes
  source : Option Nat
  status : Nat
  berth : Option Nat
  deriving DecidableEq, Repr

/-- A channel beyond its registers: fetched descriptors by index, the one in progress, and a held writeback (R276, R283). -/
structure DmaCh where
  fetched : List (Nat × List Nat)
  cur : Option DmaCur
  held : Option HeldWb
  deriving DecidableEq, Repr

/-- A frame in a receive class queue (R286). -/
structure RxItem where
  f : Frame
  reason : Nat
  deriving DecidableEq, Repr

/-- The DMA engine beyond its registers. -/
structure DmaS where
  ch : KMap DmaCh
  cls : KMap (List RxItem)
  /-- The channel whose turn is next (R277). -/
  turn : Nat
  deriving DecidableEq, Repr

/-! ### Welcor and the mailbox (12_welcor_and_mailbox.md) -/

/-- Where Fened stands (R297): booting, refused by the boot ROM, or running. -/
inductive FenedRun where
  | boot | restricted | up
  deriving DecidableEq, Repr

/-- A mailbox slot (R299): its state and its buffer. A buffer shorter than 4,096 bytes reads zero past its end. -/
structure Slot where
  /-- 0 FREE, 1 POSTED, 2 BUSY, 3 DONE. -/
  st : Nat
  buf : Bytes
  deriving DecidableEq, Repr

/-- A pending timed command (R308). -/
structure Timed where
  handle : Nat
  opcode : Nat
  /-- EXEC_TIME in units of 2^-16 ns. -/
  at_ : Nat
  params : Bytes
  deriving DecidableEq, Repr

/-- An event for the ring (R312). -/
structure Evt where
  code : Nat
  time : Nat
  data : Bytes
  deriving DecidableEq, Repr

/-- A firmware slot (R293, R335). -/
structure FwSlot where
  /-- The bytes written, by offset, as (offset, bytes) pieces. -/
  pieces : List (Nat × Bytes)
  /-- The 512-byte header as the flash holds it (from the pieces, once written). -/
  header : Bytes
  /-- 0 ERASED, 1 WRITING, 2 FIT, 3 NOT_FIT, 4 UNCHECKED (R335). -/
  st : Nat
  /-- 0 none, 1 MAGIC, 2 LENGTH, 3 SIGNATURE, 4 HASH, 5 STEPPING, 6 SEC_VER. -/
  reason : Nat
  deriving DecidableEq, Repr

/-- A firmware activation or a restart of Fened in progress (R325). -/
structure Activation where
  slot : Nat
  previous : Nat
  /-- The boot ROM has loaded the slot. -/
  loaded : Bool
  /-- The grace has ended without a takeover, and the previous slot is started. -/
  fellBack : Bool
  deriving DecidableEq, Repr

/-- The mailbox and Fened beyond the registers. -/
structure MbxS where
  /-- The mailbox is open (R302). -/
  isOpen : Bool
  slots : List Slot
  /-- Posted slots in the order of R300. -/
  order : List Nat
  timed : List Timed
  /-- Event ring entries written, by place (R312). -/
  ring : KMap Bytes
  evtSeq : Nat
  /-- Events kept until the mailbox reopens, or until Fened runs (R302, R310). -/
  heldEvts : List Evt
  /-- The reset or link-down event that comes first after the mailbox reopens (R302). -/
  firstEvt : Option Evt
  fened : FenedRun
  /-- Fened does not beat (R360). -/
  stalled : Bool
  fwA : FwSlot
  fwB : FwSlot
  act : Option Activation
  /-- The 512-byte header of the image that runs: Fened was copied from flash when it was loaded (R291). -/
  image : Bytes
  /-- The state that the last STATE_CHANGE event showed (R297). -/
  shown : Nat
  /-- Events whose Saffron records Fened still owes, because it stood still when they arose (R365). -/
  owed : List Evt
  /-- Claims that ended while Fened stood still, as the function and the cause, whose check it still owes (R317). -/
  checks : List (Nat × Nat)
  /-- By function: when its last DIGEST record was written, and the cause of one that is due (R365). -/
  digestAt : KMap Nat
  digestDue : KMap Nat
  /-- The boot ROM has loaded an image since RST_N and since the last entry into RESTRICTED (R295, R334). -/
  loaded : Bool
  deriving DecidableEq, Repr

/-! ### Fault collector and Saffron record (14_faults_and_saffron_record.md) -/

/-- A fault message (R345). -/
structure Msg where
  source : Nat
  kind : Nat
  cls : Nat
  first : Bool
  injected : Bool
  rep : Nat
  batch : Nat
  addr : Nat
  deriving DecidableEq, Repr

/-- A coalescing pair (R350): the message it counts on, by number, and its repeats. -/
structure Pair where
  source : Nat
  kind : Nat
  cls : Nat
  msgNo : Nat
  rep : Nat
  deriving DecidableEq, Repr

/-- A record submitted to the collector's write port (R362); it takes SEQ and CRC when it is written. -/
structure SaffRec where
  sect : Nat
  typ : Nat
  /-- 0 collector, 1 boot ROM, 2 Fened. -/
  writer : Nat
  timeValid : Bool
  timeSuspect : Bool
  time : Nat
  bootNo : Nat
  payload : Bytes
  /-- May use the 32 reserved places of the queue (R364). -/
  reserved : Bool
  deriving DecidableEq, Repr

/-- The fault collector beyond its registers. -/
structure FltS where
  /-- A batch is open (R349). -/
  batchOpen : Bool
  /-- Its reports in order of arrival. -/
  batch : List Report
  nextBatch : Nat
  pairs : List Pair
  /-- The message ring: message number and message, by number modulo 4,096 (R352). -/
  log : KMap (Nat × Msg)
  /-- The quiet period runs (R356). -/
  quiet : Bool
  /-- The quiet period has run out and a recovery waits for the last fatal condition (R356). -/
  due : Bool
  /-- Times of the last 1,000 recoveries on the always-on timer, in ms, newest first (R357, R358). -/
  history : List Nat
  /-- What the always-on timer showed last, in ms, and the voted time then (notes/assumptions/206.md). -/
  timer : Nat × Nat
  /-- The collector latched after a fatal report, or a fatal report stopped ALIVE until recovery (R360). -/
  aliveFatal : Bool
  /-- No beat for TIMEOUT_MS, or none yet (R360). -/
  aliveStall : Bool
  /-- Fened has reached READY since RST_N and since the last entry into RESTRICTED (R359). -/
  readyOnce : Bool
  /-- Records waiting for the MRAM, oldest first (R364). -/
  queue : List SaffRec
  /-- Lifetime totals: powered hours, starts, fatal, contained, recoveries, latches, freezes, factory test entries,
  highest Tj, laser losses, firmware activations (R365). -/
  life : List Nat
  deriving DecidableEq, Repr

/-- The MRAM of the Saffron record: 64-byte records by place (MRAM offset / 64), and the sections' heads as the collector
has them. -/
structure Mram where
  recs : KMap Bytes
  sects : List Sect
  /-- The directory (R363): two copies of each section's head; a copy whose CRC fails is none. -/
  dir : List (Option Sect × Option Sect)
  /-- Permanent FTEST_ENTERED records used (R366). -/
  permanent : Nat
  /-- Places whose record failed its write: readers skip them (R363, R364). -/
  bad : List Nat
  deriving DecidableEq, Repr

/-! ### Duo (15_duo_redundancy.md) -/

/-- A received copy that waits for its log entry on the standby (R378). -/
structure PendCopy where
  f : Frame
  on : Waiting
  /-- What the bridge does to it on its way to its egress quadrant (R49). -/
  x : Cross
  num : Nat
  /-- The path of its port, if it is one (R201). -/
  path : Option Nat
  /-- The release instant of a frame that has left the delay line and waits for the number that the log gives it. -/
  launch : Option Nat
  /-- That frame had bypassed the delay line, so that its lateness counts (R205). -/
  bypass : Bool
  deriving DecidableEq, Repr

/-- A RUN entry that the standby keeps (R378): whether it numbers frames at their release from the delay line (R191), the
numbers still without a copy, and the shift of an ALIGN run. -/
structure LogRun where
  handle : Nat
  rel : Bool
  rx : Nat
  gen : Nat
  anchor : Nat
  left : List Nat
  shift : Option Int
  deriving DecidableEq, Repr

/-- The duo engine beyond its registers. -/
structure DuoS where
  /-- Entries of the present epoch, and runs that wait for a later one (R376). -/
  entries : List StepEntry
  deferred : List StepEntry
  /-- Epochs whose records are sent and not acknowledged, oldest first. -/
  unacked : List Nat
  log : List LogRun
  pend : List PendCopy
  /-- The peer's pins as DUO_GET shows them: bit 0 ERR healthy, bit 1 ALIVE toggling (R342, R373). -/
  pins : Nat
  /-- What the peer said of itself, if it asked to join or answered. -/
  peer : Option PeerInfo
  /-- The mailbox slot whose DUO_JOIN waits for the peer's answer (R388). -/
  asked : Option Nat
  /-- A swap is accepted and its entry not yet written; the epoch of one whose record is out (R391). -/
  swapDue : Bool
  swapEpoch : Option Nat
  /-- The record of the swap is acknowledged: the roles exchange at the next epoch boundary (R391). -/
  swapAcked : Bool
  /-- The exchange that is due is the leave of the active unit (R392). -/
  leave : Bool
  /-- The serving unit's data as of the snapshot boundary E0, from which it sends records (R389). -/
  e0 : Option PeerData
  /-- A joiner that has lost its peer may take over with gaps: the pages that were not copied (R390). -/
  gaps : Option Nat
  /-- The store copy of a join has ended: IN_STEP begins at the next epoch boundary (R389). -/
  caught : Bool
  /-- The decision window of R383 is open. -/
  window : Bool
  /-- MUTED was entered from IN_STEP. -/
  fromStep : Bool
  /-- The instant of the last link loss (R383). -/
  lossAt : Option Nat
  /-- Records that a joiner queues until the STREAM epoch ends (R389). -/
  queued : List StepRecord
  /-- Sole actions are due to stop SILENCE_US after a loss (R381). -/
  soleStop : Bool
  deriving DecidableEq, Repr

/-! ### Start-up, power, freeze and development access (16_startup_reset_power.md, 17_development_access.md) -/

/-- Start-up and power beyond the registers. -/
structure PwrS where
  /-- RST_N is low (R400). -/
  rstLow : Bool
  /-- The always-on domain is ready (R401 step 2). -/
  aonReady : Bool
  /-- 0 power-up, 1 RST_N, 2 RESET UNIT: the cause of the coming start (R365). -/
  cause : Nat
  /-- A RESET with scope UNIT has been answered; the unit resets 10 ms later (R334). -/
  unitReset : Bool
  /-- Bit m: stack m holds its failed condition until it is retrained (R402, R406). -/
  stackFailed : Nat
  /-- Bit m: Fened has retrained stack m once by itself (R406). -/
  autoRetrained : Nat
  /-- Bit d: bridge direction d is down (R407). -/
  bridgeDown : Nat
  /-- Bit q: the replica of quadrant q is being copied, its domain having been switched on again (R405). -/
  copying : Nat
  /-- The STRM writes that wait for such a copy, oldest first (R405). -/
  held : List HeldAcc
  /-- Bit m: stack m held region pages when it failed (R406). -/
  stackHeld : Nat
  deriving DecidableEq, Repr

/-- A frame that waits in a quadrant's share of the frame buffer to cross the bridge (R24): the quadrant, its bytes, and
the instant at which the bridge takes it, in units of 2^-16 / 125 ns, in which a byte takes 2,048. -/
structure BridgeWait where
  quad : Nat
  bytes : Nat
  start : Nat
  deriving DecidableEq, Repr

/-- A direction of the die bridge. -/
structure BridgeS where
  /-- Crossings of the last 10 µs, as (instant, bytes), for PEAK_RATE (R51). -/
  recent : List (Nat × Nat)
  /-- What waits or is crossing at 32 Tbit/s, oldest first (R24). -/
  queue : List BridgeWait
  deriving DecidableEq, Repr

/-- The device as a capture holds it (R419). -/
structure Snap where
  regs : KMap Nat
  ident : Ident
  avs : AvsS
  slack : KMap SlackS
  time : TimeS
  mbx : MbxS
  flt : FltS
  free : Nat
  host : HostS
  hostPath : PathS
  monPath : PathS
  spil : KMap SpilS
  pwr : PwrS
  bridge : KMap BridgeS
  strm : StrmS
  plane : PlaneS
  brkw : BrkwS
  stor : StorS
  dma : DmaS
  duo : DuoS
  mram : Mram
  deriving DecidableEq, Repr

/-- Freeze, capture, monitor and JTAG beyond the registers. -/
structure DbgS where
  /-- The FREEZE pin is high. -/
  pin : Bool
  latchMon : Bool
  latchJtag : Bool
  latchMbx : Bool
  /-- The capture copy runs (R419). -/
  copying : Bool
  /-- The captured state: START time, source, and the length in 64-byte lines (R419). -/
  capTime : Nat
  capSource : Nat
  /-- The serial rate (R410). -/
  baud : Nat
  /-- The number of the captured state, which names the bytes that no rule fixes (R419). -/
  capNo : Nat
  /-- The challenge outstanding (R423) and the instant it was printed at, its answer not yet given. -/
  challenge : Option (Nat × Nat)
  /-- Failed responses since RST_N (R423). -/
  fails : Nat
  /-- JTAG instruction register and boundary register. -/
  ir : Nat
  boundary : Nat
  /-- What the capture that is held has copied (R419). -/
  snap : Option Snap
  deriving DecidableEq, Repr

/-! ### The device -/

/-- The device but for the store, the Saffron record and the command queue. -/
structure Chip where
  /-- Register fields by `Fld.key`; a field not listed holds its reset value. -/
  regs : KMap Nat
  /-- Identity and GPIO levels. -/
  ident : Ident
  /-- Adaptive-voltage engine. -/
  avs : AvsS
  /-- Slack monitors by quadrant. -/
  slack : KMap SlackS
  /-- Timebase. -/
  time : TimeS
  /-- Mailbox and Fened. -/
  mbx : MbxS
  /-- Fault collector. -/
  flt : FltS
  /-- Outputs produced, oldest first. -/
  out : List Output
  /-- The number of the next free value (notes/assumptions/5.md). -/
  free : Nat
  /-- Host endpoint. -/
  host : HostS
  /-- Half accesses held for the host path. -/
  hostPath : PathS
  /-- Half accesses held for the monitor path. -/
  monPath : PathS
  /-- Spill slots and drives. -/
  spil : KMap SpilS
  /-- Start-up and power. -/
  pwr : PwrS
  /-- Freeze, monitor and JTAG. -/
  dbg : DbgS
  /-- The die bridge, by direction. -/
  bridge : KMap BridgeS
  /-- Stream tables. -/
  strm : StrmS
  /-- Ports, Berths, Tide Tables, Quays and engines. -/
  plane : PlaneS
  /-- Breakwater instances. -/
  brkw : BrkwS
  /-- Store regions, cursors and drives. -/
  stor : StorS
  /-- DMA engine. -/
  dma : DmaS
  /-- Duo engine. -/
  duo : DuoS
  deriving DecidableEq, Repr

/-- The state of the block. -/
structure State where
  /-- Everything but the three fields below. -/
  chip : Chip
  /-- The stream store: the bytes that differ from what an unlisted byte reads as, by store address (R214). -/
  mem : List Host.Cell
  /-- The Saffron record. -/
  mram : Mram
  /-- The commands waiting, first in, first out. -/
  pending : List Instr
  deriving DecidableEq, Repr

/-! ### Reset values -/

/-- The adaptive-voltage engine after reset: it has read nothing yet (R40). -/
def AvsS.init : AvsS := ⟨none, false, false, [], 0, false, 0, 0, [], false⟩

/-- A direction of the bridge after reset: empty. -/
def BridgeS.init : BridgeS := ⟨[], []⟩

/-- A slack monitor after reset. -/
def SlackS.init : SlackS := ⟨10⟩

/-- A time source after reset. -/
def SrcS.init : SrcS := ⟨[], none, false, 0, 0, 0, false⟩

/-- The timebase after reset (R401: device time starts at 0). -/
def TimeS.init : TimeS where
  ctr0 := 0
  ctr1 := 0
  ctr2 := 0
  running := false
  refOn := false
  held := none
  lockRun := 0
  incrs := []
  srcs := []
  inst := []
  ppsEdge := none
  ppsOut := false
  ppsAt := 0
  utcOffset := 0
  leap59 := false
  leap61 := false
  upClass := 248
  clockClass := 248

/-- A free mailbox slot: its buffer reads zero (R302). -/
def Slot.init : Slot := ⟨0, []⟩

/-- The image header both firmware slots hold at reset: it fits, at FIL 3.2 (notes/assumptions/8.md). -/
def fwHeaderInit : Bytes :=
  toLE 4 0x4B4E4657 ++ toLE 4 4096 ++ toLE 2 0x0302 ++ toLE 2 4 ++ toLE 4 4 ++ toLE 2 0x0100 ++ toLE 2 0x0100 ++
    toLE 2 0 ++ toLE 2 0 ++ toLE 8 0x0003000200000000

/-- A firmware slot at reset: UNCHECKED until the boot ROM has checked it. -/
def FwSlot.init : FwSlot := ⟨[], fwHeaderInit, 4, 0⟩

/-- The mailbox after reset: closed, every slot free, Fened booting. -/
def MbxS.init : MbxS where
  isOpen := false
  slots := List.replicate 8 Slot.init
  order := []
  timed := []
  ring := []
  evtSeq := 0
  heldEvts := []
  firstEvt := none
  fened := .boot
  stalled := false
  fwA := FwSlot.init
  fwB := FwSlot.init
  act := none
  image := fwHeaderInit
  shown := 0
  owed := []
  checks := []
  digestAt := []
  digestDue := []
  loaded := false

/-- The collector after reset: HEALTHY, nothing logged, the pins at fault until Fened is READY (R359). -/
def FltS.init : FltS where
  batchOpen := false
  batch := []
  nextBatch := 0
  pairs := []
  log := []
  quiet := false
  due := false
  history := []
  timer := (0, 0)
  aliveFatal := false
  aliveStall := true
  readyOnce := false
  queue := []
  life := List.replicate 11 0

/-- An empty Saffron record (notes/assumptions/10.md). -/
def Mram.empty : Mram := ⟨[], List.replicate 6 ⟨0, 0⟩, List.replicate 6 (some ⟨0, 0⟩, none), 0, []⟩

/-- Configuration space after reset (R241-R245, notes/assumptions/12.md). -/
def Config0.init : Config0 where
  memEn := false
  busMaster := false
  parityEn := false
  serrEn := false
  intDisable := false
  intLine := 0
  bar0 := 0
  bar2 := 0
  barSize := 10
  dstate := 0
  pmeEn := false
  pmeStatus := false
  maxPayload := 0
  maxReadReq := 2
  relaxed := true
  noSnoop := true
  cto := 0
  aspmL1 := false
  msixEn := false
  msixMask := false
  aerUncorr := 0
  aerCorr := 0
  aerLog := 0

/-- An MSI-X table entry after reset: masked (R248). -/
def MsixEntry.init : MsixEntry := ⟨0, 0, true⟩

/-- The host endpoint after reset: PERST_N asserted, the link down. -/
def HostS.init : HostS where
  perst := true
  ready := false
  cfg := Config0.init
  msix := []
  pba := []
  reads := []
  quar := []
  inL1 := false
  turnedOff := false
  lost := false
  d3cold := false
  wake := false
  pmeDue := false

/-- A path that holds nothing. -/
def PathS.init : PathS := ⟨none, none, []⟩

/-- A spill slot after reset: no drive known, no sequence. -/
def SpilS.init : SpilS := ⟨none, false, false, none, false, false, none, false⟩

/-- Start-up state after reset: RST_N still low. -/
def PwrS.init : PwrS := ⟨true, false, 0, false, 0, 0, 0, 0, [], 0⟩

/-- Development access after reset (notes/assumptions/13.md: the JTAG instruction is IDCODE). -/
def DbgS.init : DbgS := ⟨false, false, false, false, false, 0, 0, 115200, 0, none, 0, 1, 0, none⟩

/-- The DMA engine at reset. -/
def DmaCh.init : DmaCh := ⟨[], none, none⟩

def DmaS.init : DmaS := ⟨[], [], 0⟩

/-- The duo engine at reset. -/
def DuoS.init : DuoS :=
  { entries := [], deferred := [], unacked := [], log := [], pend := [], pins := 0, peer := none, asked := none, swapDue := false,
    swapEpoch := none, swapAcked := false, leave := false, e0 := none, gaps := none, caught := false, window := false,
    fromStep := false, lossAt := none, queued := [], soleStop := false }

/-- The device right after RST_N or power-up. -/
def Chip.reset : Chip where
  regs := []
  ident := ⟨false, 0, 0, 0⟩
  avs := AvsS.init
  slack := []
  time := TimeS.init
  mbx := MbxS.init
  flt := FltS.init
  out := []
  free := 0
  host := HostS.init
  hostPath := PathS.init
  monPath := PathS.init
  spil := []
  pwr := PwrS.init
  dbg := DbgS.init
  bridge := []
  strm := StrmS.init
  plane := PlaneS.init
  brkw := BrkwS.init
  stor := StorS.init
  dma := DmaS.init
  duo := DuoS.init

/-- The state right after reset: nothing listed in the store, an empty Saffron record, no command waiting. -/
def State.reset : State where
  chip := Chip.reset
  mem := []
  mram := Mram.empty
  pending := []

end Sys2Proof.Machine
end

