-- ==== Sys2Proof/Machine/Ops.lean ====
section
/-!
DEFINITION. Machine/Ops.lean: the operations every block shares: reading and setting a register field, counting, the
voted time, reporting to the fault collector (R349), submitting a Saffron record (R364), queuing an event (R312),
raising an interrupt (R249), and the gate every register write passes (R313, R414).
-/
namespace Sys2Proof.Machine

/-! ### Register fields -/

/-- The value of a register field; a field not listed holds its reset value (R12). -/
def Chip.fld (c : Chip) (f : Fld) (i : Nat) : Nat := (kFind c.regs (f.key i)).getD (f.resetAt i)

/-- A register field set to a value. -/
def Chip.setF (c : Chip) (f : Fld) (i v : Nat) : Chip := { c with regs := kPut (f.resetAt i) c.regs (f.key i) v }

/-- A register field back at its reset value. -/
def Chip.resetF (c : Chip) (f : Fld) (i : Nat) : Chip := c.setF f i (f.resetAt i)

/-- A one-bit field reads 1. -/
def Chip.is (c : Chip) (f : Fld) (i : Nat) : Bool := decide (c.fld f i ≠ 0)

/-- A one-bit field set. -/
def Chip.setB (c : Chip) (f : Fld) (i : Nat) (b : Bool) : Chip := c.setF f i (bit b)

/-- A counter of w bits raised by n; it saturates at all ones (R15). -/
def Chip.countN (c : Chip) (w : Nat) (f : Fld) (i n : Nat) : Chip := c.setF f i (satAdd w (c.fld f i) n)

/-- A counter of w bits raised by one (R15). -/
def Chip.count (c : Chip) (w : Nat) (f : Fld) (i : Nat) : Chip := c.countN w f i 1

/-- A bit of a bit-map field. -/
def Chip.bitF (c : Chip) (f : Fld) (i k : Nat) : Bool := (c.fld f i).testBit k

/-- A bit of a bit-map field set or cleared. -/
def Chip.setBitF (c : Chip) (f : Fld) (i k : Nat) (b : Bool) : Chip :=
  c.setF f i (if b then c.fld f i ||| 2 ^ k else c.fld f i - (c.fld f i &&& 2 ^ k))

/-- A field set to the larger of its value and v. -/
def Chip.maxF (c : Chip) (f : Fld) (i v : Nat) : Chip := c.setF f i (max (c.fld f i) v)

/-- The output goes over the host link. -/
def Output.usesLink : Output → Bool
  | .msix _ _ => true
  | .hostRead _ _ _ _ => true
  | .hostWrite _ _ _ => true
  | .configRetry => true
  | .pcieMessage _ => true
  | .readBytes _ _ => true
  | .readData .host _ _ _ => true
  | _ => false

/-- An output appended; one over the host link leaves L1 (R261). -/
def Chip.emit (c : Chip) (o : Output) : Chip :=
  { c with out := c.out ++ [o], host := { c.host with inL1 := c.host.inL1 && !o.usesLink } }

/-- The next free value and the device past it (notes/assumptions/5.md). -/
def Chip.fresh (c : Chip) : Nat × Chip := (Config.free c.free, { c with free := c.free + 1 })

/-- The next free signed value and the device past it. -/
def Chip.freshInt (c : Chip) : Int × Chip := (Config.freeInt c.free, { c with free := c.free + 1 })

/-- The number at position i among those, from 0 on, that a rising list does not hold. -/
def nthFree (used : List Nat) (i : Nat) : Nat := used.foldl (fun k u => if u ≤ k then k + 1 else k) i

/-- A number put into a rising list. -/
def putRising (t : Nat) : List Nat → List Nat
  | [] => [t]
  | u :: l => if t ≤ u then t :: u :: l else u :: putRising t l

/-- A list in rising order without repeats. -/
def rising (l : List Nat) : List Nat := (l.mergeSort (fun a b => decide (a ≤ b))).eraseReps

/-- k different numbers below n that a rising list does not hold: which ones, free values say from the f-th on. -/
def pickFree (n : Nat) : List Nat → Nat → Nat → List Nat
  | _, _, 0 => []
  | used, f, k + 1 =>
    let t := nthFree used (Config.free f % (n - used.length))
    t :: pickFree n (putRising t used) (f + 1) k

/-- One number below n that a list does not hold: a free value says which. -/
def Chip.choose (c : Chip) (used : List Nat) (n : Nat) : Nat × Chip :=
  ((pickFree n (rising used) c.free 1).headD 0, { c with free := c.free + 1 })

/-- The value of a register, its fields put together. -/
def Chip.regRaw (c : Chip) (d : RegDesc) (i : Nat) : Nat :=
  (d.fields.map fun f => if f.acc = .wo then 0 else c.fld f.fld i * 2 ^ f.lo).sum

/-! ### Time -/

/-- The voted value of three counters: the value at least two agree on; else the first, the voter's selection having
reloaded the others by then (R54, R56). -/
def vote (a b d : Nat) : Nat := if a = b then a else if a = d then a else if b = d then b else a

/-- The voted time in units of 2^-32 ns (R54). -/
def Chip.raw (c : Chip) : Nat := vote c.time.ctr0 c.time.ctr1 c.time.ctr2

/-- The voted time in units of 2^-16 ns: the upper 16 bits of the fraction (R52). The seconds field wraps (R59). -/
def Chip.now (c : Chip) : Nat := c.raw / 65536

/-- One second in units of 2^-32 ns. -/
def secRaw : Nat := secT * 65536

/-- Where the time wraps: 2^48 seconds (R59), in units of 2^-32 ns. -/
def timeWrap : Nat := 2 ^ 48 * secRaw

/-- All three counters set to one value (R52: they take the same step and load). -/
def Chip.setRaw (c : Chip) (v : Nat) : Chip :=
  { c with time := { c.time with ctr0 := v % timeWrap, ctr1 := v % timeWrap, ctr2 := v % timeWrap } }

/-- The increment per reference edge, in units of 2^-32 ns (R52). -/
def Chip.incr (c : Chip) : Nat := c.fld .TIME_INCR_NS 0 * 2 ^ 32 + c.fld .TIME_INCR_FRAC 0

/-- A freeze is in progress: the core, Welcor, the Quays and the counters stand still (R415). -/
def Chip.frozen (c : Chip) : Bool := c.is .DBG_STATUS_FREEZE_ACTIVE 0

/-- RST_N is low (R400). -/
def Chip.inReset (c : Chip) : Bool := c.pwr.rstLow

/-- The core runs: RST_N high, the always-on domain ready, no freeze. -/
def Chip.live (c : Chip) : Bool := !c.inReset && c.pwr.aonReady && !c.frozen

/-- The counters advance: edges arrive and nothing holds them (R53, R62). -/
def Chip.ticking (c : Chip) : Bool := c.time.running && c.time.refOn && !c.frozen && !c.inReset

/-- The counters one edge on (R52). -/
def Chip.edge (c : Chip) : Chip := if c.ticking then c.setRaw (c.raw + c.incr) else c

/-! ### Reports to the fault collector -/

/-- The fault kinds of R347: code, class, and 0 (logged only), 1 (enters the fault state) or 2 (programming error). -/
def faultKinds : List (Nat × Nat × Nat) :=
  [(0x001, 0, 0), (0x002, 0, 0), (0x003, 0, 0), (0x004, 0, 0), (0x005, 0, 0), (0x006, 0, 0), (0x007, 1, 1),
   (0x008, 1, 2), (0x009, 2, 1), (0x101, 2, 1), (0x102, 0, 0), (0x103, 1, 1), (0x104, 1, 2), (0x201, 0, 0),
   (0x202, 1, 1), (0x203, 0, 0), (0x204, 1, 1), (0x205, 1, 1), (0x206, 0, 0), (0x207, 0, 0), (0x208, 1, 2)] ++
  [(0x301, 1, 2), (0x302, 1, 2), (0x303, 1, 2), (0x401, 1, 2), (0x402, 1, 1), (0x403, 0, 0), (0x404, 0, 0),
   (0x405, 1, 1), (0x406, 1, 1), (0x407, 1, 2), (0x408, 2, 1), (0x501, 0, 0), (0x502, 0, 0), (0x503, 0, 0),
   (0x504, 0, 0), (0x505, 1, 2), (0x506, 1, 2), (0x507, 1, 2), (0x508, 1, 2), (0x509, 1, 2), (0x50A, 1, 2)] ++
  [(0x50B, 1, 0), (0x50C, 1, 0), (0x601, 1, 1), (0x602, 0, 0), (0x603, 1, 0), (0x604, 1, 1), (0x701, 0, 0),
   (0x702, 0, 0), (0x703, 1, 2), (0xE01, 1, 2)]

/-- A kind listed in R347. -/
def kindListed (k : Nat) : Bool := faultKinds.any fun r => r.1 == k

/-- The class a kind always has (R347). -/
def kindClass (k : Nat) : Nat := ((faultKinds.find? fun r => r.1 == k).map fun r => r.2.1).getD 0

/-- The kind makes the collector enter its fault state (R347). -/
def kindEnters (k : Nat) : Bool := ((faultKinds.find? fun r => r.1 == k).map fun r => r.2.2 == 1).getD false

/-- A report reaches the collector: it joins the open batch, or opens one (R349). -/
def Chip.reportR (c : Chip) (r : Report) : Chip :=
  { c with flt := { c.flt with batchOpen := true, batch := c.flt.batch ++ [r] } }

/-- A block reports a kind with its detail. -/
def Chip.report (c : Chip) (source kind addr : Nat) : Chip := c.reportR ⟨source, kind, addr, false⟩

/-! ### Saffron records and events -/

/-- The places of the record queue, and those only reserved kinds may take (R364). -/
def saffPlaces : Nat := 256
def saffReserved : Nat := 32

/-- The queue takes a further record (R364): one of the reserved kinds while a place is free, another while the rest of the
places is not full; records of the reserved kinds use the reserved places first (notes/assumptions/176.md). -/
def saffTakes (queue : List SaffRec) (reserved : Bool) : Bool :=
  let res := queue.countP fun r => r.reserved
  if reserved then decide (queue.length < saffPlaces)
  else decide (queue.length - res + (res - saffReserved) < saffPlaces - saffReserved)

/-- A record submitted to the collector's write port: it waits in the queue, or is lost and counted (R364). -/
def Chip.submit (c : Chip) (sect typ writer : Nat) (payload : Bytes) (reserved : Bool) : Chip :=
  let r : SaffRec := ⟨sect, typ, writer, c.is .TIME_STATUS_VALID 0, c.is .TIME_STATUS_SUSPECT 0, packTime c.now,
    c.fld .PWR_BOOT_NO_BOOT_NO 0, payload, reserved⟩
  if saffTakes c.flt.queue reserved then { c with flt := { c.flt with queue := c.flt.queue ++ [r] } }
  else c.count 64 .SAFF_CNT_LOST 0

/-- The message of a vector goes out, or its pending bit is set (R248, R250, R259). -/
def Chip.sendVector (c : Chip) (v : Nat) : Chip :=
  let e := kGet MsixEntry.init c.host.msix v
  let h := c.host
  if h.ready && h.cfg.msixEn && !h.cfg.msixMask && h.cfg.busMaster && h.cfg.dstate == 0 &&
      c.is .HOST_STATUS_LINK_UP 0 && !c.frozen && !e.masked && e.addr % 4 == 0 then
    ({ c with host := { c.host with pba := kPut false c.host.pba v false } }).emit (.msix v false)
  else { c with host := { c.host with pba := kPut false c.host.pba v true } }

/-- An interrupt source's cause arises (R249): nothing if its map entry is off, no second message while pending. -/
def Chip.raise (c : Chip) (s : Nat) : Chip :=
  if !c.is .HOST_VEC_MAP_EN s then c
  else
    let v := c.fld .HOST_VEC_MAP_VECTOR s
    if kGet false c.host.pba v then c else c.sendVector v

/-- A PM_PME that is owed goes out once the link is up; in a freeze the endpoint issues nothing (R260, R267). -/
def Chip.payPme (c : Chip) : Chip :=
  if c.host.pmeDue && c.is .HOST_STATUS_LINK_UP 0 && !c.frozen then
    ({ c with host := { c.host with pmeDue := false, cfg := { c.host.cfg with pmeStatus := true } } }).emit
      (.pcieMessage 0)
  else c

/-- A wake cause arises (R260): `en` is its enable in HOST_WAKE_CFG. Without a link the message of D3hot waits for one. -/
def Chip.wakeCause (c : Chip) (en : Fld) : Chip :=
  if !c.host.cfg.pmeEn || !c.is en 0 then c
  else if c.host.d3cold then
    ({ c with host := { c.host with wake := true, pmeDue := true } }).emit (.wakeN true)
  else if c.host.cfg.dstate == 3 then
    ({ c with host := { c.host with pmeDue := true, cfg := { c.host.cfg with pmeStatus := true } } }).payPme
  else c

/-- The 64 bytes of an event ring entry (R312). -/
def Evt.bytes (e : Evt) (seq : Nat) : Bytes :=
  toLE 2 e.code ++ toLE 2 0 ++ toLE 4 seq ++ toLE 12 e.time ++ toLE 4 0 ++ (e.data ++ List.replicate 40 0).take 40

/-- An event enters the ring, or finds it full and is counted (R312); the host is told (R249, R260). -/
def Chip.pushEvt (c : Chip) (e : Evt) : Chip :=
  let w := c.fld .MBX_EVT_WR_WR 0
  if (w + 1) % 64 = c.fld .MBX_EVT_RD_RD 0 then c.count 64 .MBX_CNT_EVT_LOST 0
  else
    let c := { c with mbx := { c.mbx with ring := kInsert c.mbx.ring w (e.bytes c.mbx.evtSeq),
                                          evtSeq := (c.mbx.evtSeq + 1) % 2 ^ 32 } }
    ((c.setF .MBX_EVT_WR_WR 0 ((w + 1) % 64)).raise 1).wakeCause .HOST_WAKE_CFG_EVT_EN

/-- Fened runs: it has started, beats, and no freeze has stopped Welcor (R415). -/
def Chip.fenedRuns (c : Chip) : Bool := c.mbx.fened == .up && !c.mbx.stalled && !c.frozen

/-- An event's record in the Saffron record (R365). -/
def Chip.logEvt (c : Chip) (e : Evt) : Chip :=
  c.submit 1 4 2 (toLE 2 e.code ++ (e.data ++ List.replicate 32 0).take 32) false

/-- An event as it is logged: every event but TIMED_DONE, LINK_CHANGE, HOLD_START and HOLD_END is written to the Saffron
record (R365), by Fened once it runs. -/
def Chip.evtRecord (c : Chip) (e : Evt) : Chip :=
  if [0x0002, 0x0030, 0x0040, 0x0041].contains e.code then c
  else if c.fenedRuns then c.logEvt e
  else { c with mbx := { c.mbx with owed := c.mbx.owed ++ [e] } }

/-- Fened queues an event (R312); while the mailbox is closed, or Fened stands still, it waits. -/
def Chip.event (c : Chip) (code : Nat) (data : Bytes) : Chip :=
  let e : Evt := ⟨code, packTime c.now, data⟩
  let c := c.evtRecord e
  if c.mbx.isOpen && c.fenedRuns then c.pushEvt e
  else ({ c with mbx := { c.mbx with heldEvts := c.mbx.heldEvts ++ [e] } }).wakeCause .HOST_WAKE_CFG_EVT_EN

/-- Fened writes the records that it owes and queues the events that waited for it and for the mailbox (R302, R310). -/
def Chip.payEvents (c : Chip) : Chip :=
  if !c.fenedRuns then c
  else
    let owed := c.mbx.owed
    let c := owed.foldl (fun c e => c.logEvt e) { c with mbx := { c.mbx with owed := [] } }
    if !c.mbx.isOpen then c
    else
      let l := c.mbx.firstEvt.toList ++ c.mbx.heldEvts
      l.foldl (fun c e => c.pushEvt e) { c with mbx := { c.mbx with firstEvt := none, heldEvts := [] } }

/-! ### The gate of register accesses -/

/-- A switched power domain is on and ready (R404, numbered as in R343). -/
def Chip.domainOn (c : Chip) (d : Nat) : Bool := c.bitF .PWR_DOMAIN_STATUS_ON 0 d

/-- A group has an optical engine (R2). -/
def Chip.populated (c : Chip) (g : Nat) : Bool := decide (g < 32) && (!c.ident.half || decide (g / 4 % 2 = 1))

/-- The quadrant of a group (R4). -/
def quadOf (g : Nat) : Nat := g / 8

/-- The function code of a claimable block (R313). -/
def Block.func : Block → Option Nat
  | .CORE => some 0
  | .TIME => some 1
  | .PORT => some 2
  | .TIDE => some 3
  | .SCHD => some 4
  | .STRM => some 5
  | .BRKW => some 6
  | .STOR => some 7
  | .SPIL => some 8
  | .DUO => some 9
  | .PWR => some 10
  | _ => none

/-- A function is under an expert claim (R314). -/
def Chip.claimed (c : Chip) (f : Nat) : Bool := c.bitF .MBX_CLAIM_CLAIMED 0 f

/-- The host's memory requests are served (R251, R259, R263, R267). -/
def Chip.hostServed (c : Chip) : Bool :=
  c.host.ready && c.host.cfg.memEn && c.host.cfg.dstate == 0 && c.is .HOST_STATUS_LINK_UP 0 && !c.frozen &&
    !c.inReset

/-- The monitor is write-enabled (R411). -/
def Chip.monWrite (c : Chip) : Bool := c.is .PWR_STRAPS_MON_EN 0 || c.is .DBG_STATUS_MON_UNLOCKED 0

/-- A write by this path reaches this block (R251, R411, R414). -/
def Chip.reaches (c : Chip) (src : Src) (b : Block) : Bool :=
  match src with
  | .host => c.hostServed
  | .mon => c.pwr.aonReady && !c.inReset && c.monWrite && !([Block.HOST, .MBX, .MSIX, .DMA].contains b) &&
      (!c.frozen || [Block.FLT, .SAFF, .DBG].contains b)

/-- What a path holds between two half accesses. -/
def Chip.path (c : Chip) (src : Src) : PathS :=
  match src with
  | .host => c.hostPath
  | .mon => c.monPath

/-- The device with what a path holds replaced. -/
def Chip.setPath (c : Chip) (src : Src) (p : PathS) : Chip :=
  match src with
  | .host => { c with hostPath := p }
  | .mon => { c with monPath := p }

/-- Any BAR0 access of a path discards its held low half and its captured high half (R447). -/
def Chip.dropHalves (c : Chip) (src : Src) : Chip := c.setPath src { c.path src with lowHeld := none, highCap := none }

/-- A write to a block of an unclaimed function: dropped, counted and reported (R313). -/
def Chip.unclaimedWrite (c : Chip) (off : Nat) : Chip :=
  (c.count 64 .MBX_CNT_UNCLAIMED_WR 0).report 0xB000 0x509 off

/-- The block belongs to no claimable function, or its function is claimed (R313). -/
def Chip.mayWrite (c : Chip) (b : Block) : Bool :=
  match b.func with
  | none => true
  | some f => c.claimed f

/-- A register write by a path: it reaches the block and its function is claimed (R313), or it is dropped. -/
def Chip.gated (c : Chip) (src : Src) (b : Block) (off : Nat) (f : Chip → Chip) : Chip :=
  let c := c.dropHalves src
  if !c.reaches src b then c
  else if !c.mayWrite b then c.unclaimedWrite off
  else f c

/-- The register table row of a register. -/
def Reg.desc? (r : Reg) (b : Block) : Option RegDesc := b.regs.find? fun d => d.reg == r

/-- The fields of a register. -/
def regFields (b : Block) (r : Reg) : List FieldDesc :=
  match r.desc? b with
  | some d => d.fields
  | none => []

/-- The BAR0 offset of an instance of a register. -/
def RegDesc.off (d : RegDesc) (i : Nat) : Nat := d.base + d.s1 * (i / d.n2) + d.s2 * (i % d.n2)

/-- Bits of a bit-map sticky field clear one by one; any other RW1C field goes back to its reset value when a 1 is
written anywhere in it (R11 and the field tables). -/
def clearedBy (f : Fld) (i old v : Nat) : Nat :=
  match f with
  | .PWR_SUPPLY_LOW_SEEN => old - (old &&& v)
  | .PWR_MEM_STATUS_FAIL_SEEN => old - (old &&& v)
  | _ => if v = 0 then old else f.resetAt i

/-- A write of one field of a register (R11). -/
def Chip.writeField (c : Chip) (d : FieldDesc) (i data : Nat) : Chip :=
  let v := bits data d.hi d.lo
  match d.acc with
  | .rw => c.setF d.fld i v
  | .rws => c.setF d.fld i v
  | .rw1c => c.setF d.fld i (clearedBy d.fld i (c.fld d.fld i) v)
  | .ro => c
  | .wo => c

/-- A write of every field of a register as the access types of R11 give. -/
def Chip.writeFields (c : Chip) (ds : List FieldDesc) (i data : Nat) : Chip :=
  ds.foldl (fun c d => c.writeField d i data) c

/-- The state change a core row makes: none while RST_N is low or a freeze stops the core (R400, R415). -/
def Chip.core (c : Chip) (f : Chip → Chip) : Chip := if c.live then f c else c

/-- The outcome of a command whose effect lies in the device alone. -/
def onChip (f : Chip → Chip) (s : State) : Host.Outcome State Fault Refusal := .next { s with chip := f s.chip }

/-- The engines of the populated groups in a given state. -/
def Chip.anyEngine (c : Chip) (states : List Nat) : Bool :=
  (List.range 32).any fun g => states.contains (c.fld .PORT_GRP_STATUS_ENGINE_STATE g)

/-- The state that Fened shows (R297): BOOT and RESTRICTED first, then the highest code whose conditions hold. -/
def Chip.fenedState (c : Chip) : Nat :=
  match c.mbx.fened with
  | .boot => 0
  | .restricted => 1
  | .up =>
    let run := c.anyEngine [2] || c.strm.handles.any fun e => e.2.valid
    let degraded := c.anyEngine [3, 4, 5] || c.is .STOR_SPILL_STAT_FAULT 0 || c.is .STOR_SPILL_STAT_FAULT 1 ||
      c.is .TIME_STATUS_SUSPECT 0 || ([0, 1, 2, 3].any fun q => c.is .CORE_SLACK_STATUS_NEG q) ||
      c.is .MBX_CLAIM_INVALID 0
    if c.is .DBG_STATUS_CAPTURE_HELD 0 && !c.is .DBG_STATUS_FREEZE_ACTIVE 0 then 7
    else if c.fld .FLT_STATUS_STATE 0 = 2 then 6
    else if c.fld .FLT_STATUS_STATE 0 = 1 then 5
    else if run && degraded then 4
    else if run then 3
    else 2

/-- The state with its device replaced. -/
def State.withChip (s : State) (c : Chip) : State := { s with chip := c }

/-- A change of the device. -/
def State.on (s : State) (f : Chip → Chip) : State := { s with chip := f s.chip }

/-- The outcome of a command with an effect on the whole state. -/
def onState (f : State → State) (s : State) : Host.Outcome State Fault Refusal := .next (f s)

/-- The change a row of the core makes to the whole state: none while RST_N is low or a freeze stops the core. -/
def State.core (s : State) (f : State → State) : State := if s.chip.live then f s else s

end Sys2Proof.Machine
end

