-- ==== Sys2Proof/Machine/Role.lean ====
section
/-!
DEFINITION. Machine/Role.lean: the unit's own health (R355, R360), its duo state, role and sole actions (R381-R383), the
decision after the loss of the peer (R384), and the state Fened shows (R297).
-/
namespace Sys2Proof.Machine

def Chip.setDuo (c : Chip) (x : DuoS) : Chip := { c with duo := x }
def Chip.setTime (c : Chip) (t : TimeS) : Chip := { c with time := t }

/-! ### Health (R355, R360, R383) -/

/-- A fatal condition is live (R355). -/
def Chip.fatalLive (c : Chip) : Bool :=
  (c.pwr.aonReady && !c.is .TIME_STATUS_REF_OK 0) || c.pwr.bridgeDown != 0 || c.pwr.stackFailed != 0

/-- ALIVE toggles (R360). -/
def Chip.aliveRuns (c : Chip) : Bool := !c.inReset && c.pwr.aonReady && !c.flt.aliveFatal && !c.flt.aliveStall

/-- Own-OK of R383. -/
def Chip.ownOk (c : Chip) : Bool := c.aliveRuns && !c.fatalLive

/-! ### State, role and sole actions (R381-R383) -/

/-- The duo state and role (R382): role 0 is ACTIVE. -/
def Chip.duoState (c : Chip) : Nat := c.fld .DUO_STATUS_STATE 0
def Chip.duoActive (c : Chip) : Bool := c.fld .DUO_STATUS_ROLE 0 == 0

def Chip.secondary (c : Chip) : Bool := c.is .PWR_STRAPS_DUO_RANK 0

/-- 0 UP, 1 FAILED, 2 SILENT (R373). -/
def Chip.reading (c : Chip) : Nat := c.fld .DUO_STATUS_PEER_PINS 0

/-- The unit performs sole actions (R381). -/
def Chip.sole (c : Chip) : Bool :=
  let st := c.duoState
  !c.is .DUO_STATUS_SOLE_BARRED 0 && (st == 0 || ((st == 1 || st == 2) && c.duoActive))

/-- The mark of a frame that no record confirms (R385). -/
def unconfirmed : Nat := 2 ^ 48

/-- The mark of a frame of a stream that is not duplicable, which only a unit with sole actions emits (R381). -/
def soleMark : Nat := 2 ^ 48 + 1

/-- The mark of a frame decided without a log since the last completed join: in SOLO, or while serving (R382). -/
def Chip.soloMark (c : Chip) : Nat := 2 ^ 49 + c.fld .DUO_CNT_JOINS 0

/-- A frame whose emission is a sole action (R381). -/
def Frame.soleOnly (f : Frame) : Bool := f.epoch == some soleMark

/-- The frames in Berths, on the way to Quays and in them whose emission is a sole action are discarded
(notes/assumptions/201.md). -/
def Chip.dropSole (c : Chip) : Chip :=
  let keep (l : List Staged) : List Staged := l.filter fun x => !x.it.f.soleOnly
  let plane : PlaneS := { c.plane with
    berths := c.plane.berths.map fun (e : Nat × BerthS) => (e.1, { e.2 with queue := e.2.queue.filter fun i => !i.f.soleOnly }),
    quay := c.plane.quay.map fun (e : Nat × QuayS) => (e.1, (⟨keep e.2.transit, keep e.2.staged⟩ : QuayS)),
    ports := c.plane.ports.map fun (e : Nat × PortS) => (e.1, { e.2 with late := keep e.2.late }) }
  { c with plane := plane }

/-- The level of PPS_OUT (R64). -/
def Chip.ppsLevel (c : Chip) : Bool := c.time.ppsOut != c.is .TIME_PPS_CFG_OUT_POL 0

/-- PPS_OUT goes to its active or inactive level. -/
def Chip.setPps (c : Chip) (active : Bool) : Chip :=
  if c.time.ppsOut = active then c
  else
    let c := c.setTime { c.time with ppsOut := active }
    c.emit (.ppsOut c.ppsLevel)

/-- A change after which the unit may have gained or lost its sole actions (R64, R79, R381): the alarm outputs are driven or
let go (which pins these are is not given: notes/assumptions/205.md), PPS_OUT is held inactive, and what only a unit with
sole actions emits is discarded. -/
def Chip.soleAfter (c : Chip) (f : Chip → Chip) : Chip :=
  let d := f c
  if d.sole = c.sole then d
  else if d.sole then d.emit (.alarms true)
  else ((d.dropSole).setPps false).emit (.alarms false)

/-- The bar of R381 ends or begins. -/
def Chip.setBar (c : Chip) (b : Bool) : Chip :=
  c.soleAfter fun c => (c.setB .DUO_STATUS_SOLE_BARRED 0 b).setDuo { c.duo with soleStop := c.duo.soleStop && b }

/-- A change of the duo state, with its STATE record (R383, R394). -/
def Chip.duoGo (c : Chip) (st role cause : Nat) : Chip :=
  let old := c.duoState
  c.soleAfter fun c =>
    let c := (c.setF .DUO_STATUS_STATE 0 st).setF .DUO_STATUS_ROLE 0 role
    let c := c.submit 2 1 2 (toLE 1 old ++ toLE 1 st ++ toLE 1 role ++ toLE 1 cause ++ toLE 1 c.reading) true
    let c := c.setDuo { c.duo with window := false }
    if st = 2 ∧ role = 0 then c.setBar false else c

/-- Records stop and what waits for the other unit is dropped. -/
def Chip.duoQuiet (c : Chip) : Chip :=
  (c.setDuo { c.duo with entries := [], deferred := [], swapDue := false, swapEpoch := none, swapAcked := false,
                         leave := false, caught := false, queued := [], e0 := none, gaps := none }).setB
    .DUO_STATUS_LINK_UP 0 false

/-- A decision was taken on a SILENT reading (R383). -/
def Chip.split (c : Chip) : Chip :=
  ((c.count 64 .DUO_CNT_SPLITS 0).setB .DUO_STATUS_SPLIT_SEEN 0 true).report 0xC000 0x604 0

/-! ### Records of a join (R394) -/

/-- The pages copied so far (R389, R395): all or none, but for the STORE epoch while it lasts, in which how many there are is
a free value of the instant (notes/assumptions/202.md). -/
def Chip.pagesCopied (c : Chip) : Nat :=
  if c.duoState = 1 ∧ c.fld .DUO_STATUS_JOIN_EPOCH 0 = 3 ∧ c.duo.caught = false then
    Config.free c.now % (c.fld .DUO_JOIN_PROG_PAGES_TOTAL 0 + 1)
  else c.fld .DUO_JOIN_PROG_PAGES_COPIED 0

/-- The JOIN record (R394): the epoch reached, the outcome 0 completed, 1 aborted, 2 taken over with gaps, and this join's
pages. -/
def Chip.joinRecord (c : Chip) (outcome gaps : Nat) : Chip :=
  c.submit 2 3 2 (toLE 1 (c.fld .DUO_STATUS_JOIN_EPOCH 0) ++ toLE 1 outcome ++ toLE 4 c.pagesCopied ++ toLE 4 gaps) false

/-- The peer's FIL, its major in the high byte, as DUO_PEER_INFO shows it (R395). -/
def PeerInfo.fil (p : PeerInfo) : Nat := p.filMajor * 256 + p.filMinor

/-- The PEER record (R394): what the last exchange told of the peer, zeros before the first. -/
def Chip.peerRecord (c : Chip) : Chip :=
  let told := match c.duo.peer with
    | some q => toLE 8 q.serial ++ toLE 2 (PeerInfo.fil q) ++ toLE 2 q.stepLog ++ toLE 1 (bit q.rank)
    | none => toLE 13 0
  c.submit 2 4 2 (told ++ toLE 1 c.reading) false

/-! ### The decision of a standby (R383, R384, R390) -/

/-- A standby takes over (R383, R384). -/
def Chip.takeOver (c : Chip) : Chip := c.duoGo 4 1 7

/-- A joiner takes over with gaps: its pages that were not copied (R390). -/
def Chip.takeOverGaps (c : Chip) (n : Nat) : Chip :=
  let c := ((c.countN 64 .DUO_CNT_GAP_PAGES 0 n).setB .DUO_STATUS_GAPS_SEEN 0 true).joinRecord 2 n
  ((c.duoQuiet).setF .DUO_STATUS_JOIN_EPOCH 0 0).takeOver

/-- The standby's decision in its window, judged anew whenever the reading or the unit's own health changes (R384): of a unit that is MUTED out of IN_STEP,
or of a joiner that may take over with gaps. -/
def Chip.judgeWindow (c : Chip) : Chip :=
  let muted := c.duoState == 3 && c.duo.fromStep
  let joiner := c.duoState == 1 && c.duo.gaps.isSome
  let go (c : Chip) : Chip := match c.duo.gaps with
    | some n => if joiner then c.takeOverGaps n else c.takeOver
    | none => c.takeOver
  if !(muted || joiner) || !c.duo.window || !c.ownOk || c.frozen then c
  else if c.reading = 1 then go c
  else if c.reading = 2 && c.fld .DUO_CFG_SPLIT_POLICY 0 == 0 && !c.secondary then go c.split
  else c

/-! ### What follows a command that may change the state shown -/

/-- A change of the state shown is queued as STATE_CHANGE (R297); a freeze stops Welcor (R415). -/
def Chip.noteState (c : Chip) : Chip :=
  if c.frozen || c.fenedState == c.mbx.shown then c
  else
    let old := c.mbx.shown
    ({ c with mbx := { c.mbx with shown := c.fenedState } }).event 0x0001 (toLE 1 old ++ toLE 1 c.fenedState)

/-- The outcome of a command that may change the state Fened shows. -/
def onChipS (f : Chip → Chip) (s : State) : Host.Outcome State Fault Refusal :=
  .next { s with chip := (f s.chip).noteState }

/-- The same, with an effect on the whole state. -/
def onStateS (f : State → State) (s : State) : Host.Outcome State Fault Refusal := .next ((f s).on Chip.noteState)

end Sys2Proof.Machine
end

