-- ==== Sys2Proof/Machine/Handshake.lean ====
section
/-!
DEFINITION. Machine/Handshake.lean: slack monitors, the adaptive-voltage engine and the die bridge
(02_handshake_core.md).
-/
namespace Sys2Proof.Machine

/-! ### Adaptive voltage -/

/-- The source of the adaptive-voltage engine's reports (R346). -/
def srcAvs : Nat := 0x0020

/-- The engine's state replaced. -/
def Chip.setAvs (c : Chip) (a : AvsS) : Chip := { c with avs := a }

/-- A voltage in mV as a VOUT code: ceil(V / 2^N), so that the output is never below the target (R41). -/
def voutCode (n : Int) (mv : Nat) : Nat :=
  if n < 0 then ceilDiv (mv * 2 ^ n.natAbs) 1000 else ceilDiv mv (1000 * 2 ^ n.natAbs)

/-- A VOUT code in mV, cut to whole mV (notes/assumptions/146.md). -/
def voutMv (n : Int) (code : Nat) : Nat :=
  if n < 0 then code * 1000 / 2 ^ n.natAbs else code * 1000 * 2 ^ n.natAbs

/-- A voltage as READ_MV and SET_MV show it (R51): what they show of one that 10 bits cannot hold is not stated, a free
value (notes/assumptions/146.md). -/
def showMv (mv : Nat) : Nat := if mv < 1024 then mv else (Config.overMv mv).toNat

/-- The engine's setpoint, and SET_MV with it (R40, R51). -/
def Chip.setMv (c : Chip) (mv : Nat) : Chip :=
  (c.setAvs { c.avs with set := mv }).setF .CORE_AVS_STATUS_SET_MV 0 (showMv mv)

/-- READ_VOUT has been read (R51). -/
def Chip.readMv (c : Chip) (mv : Nat) : Chip := c.setF .CORE_AVS_STATUS_READ_MV 0 (showMv mv)

/-- The bounds of the setpoint (R45). -/
def Chip.avsLow (c : Chip) : Nat := c.fld .CORE_AVS_LIMITS_FLOOR_MV 0 + 20
def Chip.avsHigh (c : Chip) : Nat := c.fld .CORE_AVS_LIMITS_CEIL_MV 0 - 20

/-- The engine may write VOUT_COMMAND: started, a mode other than OFF, responding, ULINEAR16 (R40, R42, R46). -/
def Chip.avsWrites (c : Chip) : Bool :=
  c.avs.started && c.fld .CORE_AVS_CTRL_MODE 0 != 0 && !c.is .CORE_AVS_STATUS_NO_RESP 0 &&
    !c.is .CORE_AVS_STATUS_UNSUP_MODE 0

/-- A VOUT code lies within 15 mV of a setpoint (R46), judged exactly. -/
def voutNear (n : Int) (code mv : Nat) : Bool :=
  let scale : Nat := if n < 0 then 2 ^ n.natAbs else 1
  let v : Nat := if n < 0 then code * 1000 else code * 1000 * 2 ^ n.natAbs
  decide (v ≤ (mv + 15) * scale) && decide (mv * scale ≤ v + 15 * scale)

/-- The setpoint held within its bounds (R45). -/
def Chip.avsClamp (c : Chip) (mv : Nat) : Nat := max c.avsLow (min mv c.avsHigh)

/-- The setpoint a step writes (R43, R44, R45). -/
def Chip.avsTarget (c : Chip) (step : VStep) : Nat :=
  match step with
  | .raise => min (c.avs.set + c.fld .CORE_AVS_CTRL_STEP_UP 0) c.avsHigh
  | .lower => max (c.avs.set - c.fld .CORE_AVS_CTRL_STEP_DOWN 0) c.avsLow
  | .correct => c.avsClamp c.avs.set

/-- The setpoint a transaction writes: a retry of VOUT_COMMAND writes what it was to write, and a repetition the setpoint
whose check failed, each within the bounds (R45, R46). -/
def Chip.pmTarget (c : Chip) (t : Pm × Bool) : Nat :=
  match t.1 with
  | .setVout step again =>
    if again then c.avsClamp c.avs.set else if t.2 then c.avsClamp c.avs.target else c.avsTarget step
  | _ => c.avs.target

/-- The PMBus command code of a transaction (R39). -/
def Pm.code : Pm → Nat
  | .voutMode => 0x20
  | .firstVout => 0x8B
  | .pollVout => 0x8B
  | .checkVout _ _ => 0x8B
  | .setVout _ _ => 0x21
  | .statusWord => 0x79
  | .clearFaults => 0x03

/-- The transaction writes VOUT_COMMAND. -/
def Pm.isSet : Pm → Bool
  | .setVout _ _ => true
  | _ => false

/-- The transaction belongs to a voltage step. -/
def Pm.sets : Pm → Bool
  | .setVout _ _ => true
  | .checkVout _ _ => true
  | _ => false

/-- The transaction belongs to the handling of an alert (R47). -/
def Pm.alerts : Pm → Bool
  | .statusWord => true
  | .clearFaults => true
  | _ => false

/-- The transaction writes a step of this kind. -/
def Pm.isStep (s : VStep) : Pm → Bool
  | .setVout x _ => x == s
  | _ => false

/-- The transactions that wait and may still go: a raise that the ceiling leaves no room for is none (R43, R45). -/
def Chip.avsQueue (c : Chip) : List (Pm × Bool) :=
  c.avs.waiting.filter fun t => !(t == (.setVout .raise false, false) && decide (c.avsHigh ≤ c.avs.set))

/-- The first waiting transaction goes on the bus, to the address and with the packet error code that CORE_AVS_CTRL asks
for, if the bus is free and the engine runs: a freeze holds it (R39, R48), and with UNSUP_MODE the engine stays idle
(R40). -/
def Chip.avsStart (c : Chip) : Chip :=
  if !c.live || c.is .CORE_AVS_STATUS_UNSUP_MODE 0 then c
  else match c.avs.bus, c.avsQueue with
    | some _, _ => c
    | none, [] => c.setAvs { c.avs with waiting := [] }
    | none, t :: rest =>
      let target := c.pmTarget t
      let pec := c.is .CORE_AVS_CTRL_PEC 0
      let data := if t.1.isSet then voutCode c.avs.exponent target else 0
      ((c.setAvs { c.avs with bus := some t, pec := pec, stale := false, waiting := rest, target := target }).setB
        .CORE_AVS_STATUS_BUSY 0 true).emit (.pmbus (c.fld .CORE_AVS_CTRL_ADDR 0) pec t.1.code data)

/-- A transaction asked for. -/
def Chip.avsAsk (c : Chip) (t : Pm) : Chip :=
  (c.setAvs { c.avs with waiting := c.avs.waiting ++ [(t, false)] }).avsStart

/-- A step of this kind is on the bus or waits for it. -/
def Chip.avsStepDue (c : Chip) (s : VStep) : Bool :=
  (c.avs.bus.any fun t => t.1.isStep s) || c.avs.waiting.any fun t => t.1.isStep s

/-- SETTLE runs after a raise, so no further raise is evaluated (R43). -/
def Chip.avsRaised (c : Chip) : Bool := c.avs.settling.any fun x => x.1 == .raise

/-- A raise is due (R43): a lowering that is not yet on the bus is cancelled; after an earlier raise, SETTLE comes
first. While a lowering is on the bus, the raise follows it, whatever the setpoint is till then. -/
def Chip.avsRaise (c : Chip) : Chip :=
  if !c.avsWrites then c
  else
    let c := c.setAvs { c.avs with waiting := c.avs.waiting.filter fun t => !t.1.isStep .lower }
    if c.avsRaised || c.avsStepDue .raise then c
    else if decide (c.avs.set < c.avsHigh) || (c.avs.bus.any fun t => t.1.isStep .lower) then
      c.avsAsk (.setVout .raise false)
    else c

/-- The setpoint is corrected when it lies outside the limits (R45). In RAISE_ONLY too a correction may lower it: R45
makes no exception of a mode, R42 says that RAISE_ONLY never lowers; DESIGN CHOICE, unsafe (notes/assumptions/178.md). -/
def Chip.avsCorrect (c : Chip) : Chip :=
  if c.avsWrites && (decide (c.avs.set < c.avsLow) || decide (c.avsHigh < c.avs.set)) && !c.avsStepDue .correct then
    c.avsAsk (.setVout .correct false)
  else c

/-- The engine starts or restarts: it reads VOUT_MODE and READ_VOUT (R40, R42). A transaction on the bus goes on to its
end; the handling of an alert goes on. -/
def Chip.avsRestart (c : Chip) : Chip :=
  let alerts := c.avs.waiting.filter fun t => t.1.alerts
  let due := if c.avs.alert then [(Pm.statusWord, false)] else []
  ((c.setAvs { c.avs with stale := true, started := false, settling := [], alert := false,
                          waiting := (Pm.voutMode, false) :: alerts ++ due }).setB .CORE_AVS_STATUS_UNSUP_MODE 0
    false).avsStart

/-- A transaction failed (R46): it is retried once; a retry that fails sets NO_RESP, and the engine behaves as in mode
OFF. A lowering for which a raise waits is not retried: the raise follows (R43). -/
def Chip.avsFail (c : Chip) (t : Pm × Bool) : Chip :=
  if t.1.isStep .lower && c.avs.waiting.any (fun x => x.1.isStep .raise) then c
  else if !t.2 then c.setAvs { c.avs with waiting := (t.1, true) :: c.avs.waiting }
  else ((c.setAvs { c.avs with settling := [], waiting := c.avs.waiting.filter fun t => !t.1.sets }).setB
    .CORE_AVS_STATUS_NO_RESP 0 true).report srcAvs 0x004 0

/-- A step written counts once, however often its command is repeated (R51). -/
def Chip.avsCount (c : Chip) (step : VStep) (again : Bool) : Chip :=
  if again then c
  else match step with
    | .raise => c.count 32 .CORE_AVS_COUNT_RAISES 0
    | .lower => c.count 32 .CORE_AVS_COUNT_LOWERS 0
    | .correct => c

/-- What a transaction that succeeded brings (R39, R40, R45, R46, R47). A check that finds READ_VOUT more than 15 mV from
the setpoint has the VOUT_COMMAND repeated once. -/
def Chip.avsDone (c : Chip) (t : Pm × Bool) (data : Nat) : Chip :=
  let mv := voutMv c.avs.exponent data
  match t.1 with
  | .voutMode =>
    if bits data 7 5 = 0 then (c.setAvs { c.avs with exponent := asInt 5 data }).avsAsk .firstVout
    else ((c.setAvs { c.avs with waiting := [], alert := false }).setB .CORE_AVS_STATUS_UNSUP_MODE 0 true).report srcAvs
      0x004 0
  | .firstVout => (((c.setAvs { c.avs with started := true }).setMv mv).readMv mv).avsCorrect
  | .pollVout => c.readMv mv
  | .checkVout step again =>
    let c := c.readMv mv
    if voutNear c.avs.exponent data c.avs.set then c else c.avsFail (.setVout step true, again)
  | .setVout step again =>
    let c := c.setMv c.avs.target
    ((c.setAvs { c.avs with settling := c.avs.settling ++ [(step, again)] }).avsCount step again).avsCorrect
  | .statusWord =>
    (((c.setF .CORE_AVS_STATUS_STATUS_WORD 0 data).setB .CORE_AVS_STATUS_ALERT 0 true).report srcAvs 0x005
      data).avsAsk .clearFaults
  | .clearFaults => c

/-- What is left of a transaction that was on the bus when the engine restarted (R42): the setpoint it wrote, the voltage
it read and the alert it served; the restarted engine retries and checks nothing of it. -/
def Chip.avsStale (c : Chip) (t : Pm × Bool) (ok : Bool) (data : Nat) : Chip :=
  match t.1 with
  | .setVout step again => if ok then (c.setMv c.avs.target).avsCount step again else c
  | .voutMode => c
  | .statusWord => if ok then c.avsDone t data else c.avsFail t
  | .clearFaults => if ok then c else c.avsFail t
  | _ => if ok then c.readMv (voutMv c.avs.exponent data) else c

/-- PMBUS_TRANSACTION_DONE (R43, R46): the transaction on the bus ends, acknowledged or not, its packet error code right
or not where it carries one; what waits follows. A lowering that was on the bus lets the raise follow at once. -/
def Chip.pmbusDone (c : Chip) (ack pecOk : Bool) (data : Nat) : Chip :=
  match c.avs.bus with
  | none => c
  | some t =>
    let ok := ack && (pecOk || !c.avs.pec)
    let stale := c.avs.stale
    let c := (c.setAvs { c.avs with bus := none, stale := false }).setB .CORE_AVS_STATUS_BUSY 0 false
    (if stale then c.avsStale t ok (low 16 data) else if ok then c.avsDone t (low 16 data) else c.avsFail t).avsStart

def execPmbusTransactionDone (e : PmbusEnd) (data : Nat) (s : State) : Host.Outcome State Fault Refusal :=
  onChip (fun c => c.pmbusDone e.ack e.pecOk data) s

/-- SETTLE has passed after the oldest VOUT_COMMAND it runs for (R43, R46): a further raise may follow, and READ_VOUT is
read once. -/
def Chip.avsSettled (c : Chip) : Chip :=
  match c.avs.settling with
  | [] => c
  | x :: rest => (c.setAvs { c.avs with settling := rest }).avsAsk (.checkVout x.1 x.2)

/-- AVS_SETTLE (R46). -/
def execAvsSettle (s : State) : Host.Outcome State Fault Refusal :=
  onChip (fun c => if c.frozen then c else c.avsSettled) s

/-- AVS_READ_VOUT_POLL (R39): READ_VOUT every 10 ms, in every mode, once the engine has started, and after a failure as in
mode OFF (R46). The code is read with the exponent known last (notes/assumptions/179.md). -/
def execAvsReadVoutPoll (s : State) : Host.Outcome State Fault Refusal :=
  onChip (fun c => if (c.avs.started || c.is .CORE_AVS_STATUS_NO_RESP 0) && !c.frozen then c.avsAsk .pollVout else c) s

/-- AVS_ALERT_N is low (R47): STATUS_WORD is read, then CLEAR_FAULTS is written; the setpoint does not change. An alert
that the engine cannot serve now, in a freeze (R48) or before it runs, is served after it. -/
def Chip.avsAlertLow (c : Chip) : Chip :=
  if c.is .CORE_AVS_STATUS_UNSUP_MODE 0 then c
  else if !c.live then c.setAvs { c.avs with alert := true }
  else c.avsAsk .statusWord

/-- AVS_ALERT (R47). -/
def execAvsAlert (s : State) : Host.Outcome State Fault Refusal := onChip Chip.avsAlertLow s

/-- What the end of a freeze does to the engine (R47, R48): an alert of its time is served, and what waits for the bus
follows. The dwell and the settle timers restart with it. -/
def Chip.avsThaw (c : Chip) : Chip :=
  if c.avs.alert then (c.setAvs { c.avs with alert := false }).avsAsk .statusWord else c.avsStart

/-- The quadrants whose monitors count: on and enabled (R51). -/
def Chip.slackOn (c : Chip) (q : Nat) : Bool := c.is .CORE_SLACK_CTRL_ENABLE q && c.domainOn (40 + q)

/-- Every quadrant's window slack lies above LOWER_THR (R44). A quadrant whose monitor is disabled, or whose domain is
off, has no window and is left out; with no monitor on, the condition holds. DESIGN CHOICE, safe or unsafe as
notes/assumptions/147.md says: R44 says "every quadrant" and R51 only that a disabled monitor makes no step for its own
quadrant. -/
def Chip.allAboveLower (c : Chip) : Bool :=
  [0, 1, 2, 3].all fun q => !c.slackOn q ||
    decide (asInt 16 (c.fld .CORE_SLACK_STATUS_WIN_SLACK q) > (c.fld .CORE_SLACK_CTRL_LOWER_THR q : Int))

/-- AVS_LOWER (R44): in TRACK mode, after a continuous DWELL above LOWER_THR, the setpoint is lowered by STEP_DOWN,
not below FLOOR_MV + 20. -/
def Chip.avsLower (c : Chip) : Chip :=
  if c.fld .CORE_AVS_CTRL_MODE 0 = 2 && c.avsWrites && c.allAboveLower && !c.frozen &&
      decide (c.avsLow < c.avs.set) && !c.avsStepDue .lower then
    c.avsAsk (.setVout .lower false)
  else c

def execAvsLower (s : State) : Host.Outcome State Fault Refusal := onChip Chip.avsLower s

/-! ### Slack windows -/

/-- A quadrant's slack monitor. -/
def Chip.slackS (c : Chip) (q : Nat) : SlackS := kGet SlackS.init c.slack q

/-- The SLACK_LOW pair of a quadrant that is open in the collector. -/
def Chip.slackPair (c : Chip) (q : Nat) : Option Pair := c.flt.pairs.find? fun p => p.source == q && p.kind == 0x001

/-- One repeat more on an open pair and on its logged message (R350). -/
def Chip.bumpPair (c : Chip) (p : Pair) : Chip :=
  { c with flt := { c.flt with
      pairs := c.flt.pairs.map fun x => if x == p then { x with rep := min (x.rep + 1) 0xFFFF } else x,
      log := match kFind c.flt.log (p.msgNo % 4096) with
        | some (n, m) => if n = p.msgNo then kInsert c.flt.log (n % 4096) (n, { m with rep := min (m.rep + 1) 0xFFFF })
            else c.flt.log
        | none => c.flt.log } }

/-- The newest logged SLACK_LOW message of a quadrant (R352). -/
def Chip.slackMsg (c : Chip) (q : Nat) : Option (Nat × Msg) :=
  (c.flt.log.map fun e => e.2).foldl (fun (a : Option (Nat × Msg)) m =>
    if m.2.source = q ∧ m.2.kind = 0x001 then
      match a with
      | some y => if y.1 < m.1 then some m else a
      | none => some m
    else a) none

/-- One repeat more on a report: on its open pair, or, where the pair has closed, on its logged message (R37, R350). -/
def Chip.slackRepeat (c : Chip) (q : Nat) : Chip :=
  match c.slackPair q with
  | some p => c.bumpPair p
  | none => match c.slackMsg q with
    | some (n, m) => { c with flt := { c.flt with
        log := kInsert c.flt.log (n % 4096) (n, { m with rep := min (m.rep + 1) 0xFFFF }) } }
    | none => c

/-- A window below WARN_THR (R37): the first reports SLACK_LOW; further ones raise only the repeat count of that report
until slack has stayed at or above WARN_THR for 1 ms, ten windows. While the report is still in the open batch, a further
one joins it there. -/
def Chip.slackLow (c : Chip) (q : Nat) (slack : Int) : Chip :=
  let armed := decide ((c.slackS q).goodRun ≥ 10)
  let c := { c with slack := kPut SlackS.init c.slack q ⟨0⟩ }
  if armed || c.flt.batch.any (fun r => r.source == q && r.kind == 0x001) then c.report q 0x001 (ofInt 64 slack)
  else (c.slackRepeat q).count 64 .FLT_CNT_CORRECTED 0

/-- The lifetime's highest junction temperature (R365). -/
def Chip.noteTj (c : Chip) (tj : Int) : Chip :=
  { c with flt := { c.flt with life := setAt c.flt.life 8 (max (c.flt.life.getD 8 0) (clampInt 0 0x7FFF tj).toNat) } }

/-- t_required of a quadrant in femtoseconds (R28, R36): one handshake for each frame of TARGET_SIZE bytes and 20 bytes of
wire overhead at 12.8 Tbit/s, 625 fs to the byte. DEDUCED (notes/assumptions/148.md). -/
def Chip.slackNeed (c : Chip) (q : Nat) : Nat := (c.fld .CORE_SLACK_CFG_TARGET_SIZE q + 20) * 625

/-- The slack of a window in 0.1 % (R36): that of the slowest of its 16 sensors, given each sensor's longest period over
the window in femtoseconds; rounded down (notes/assumptions/148.md). -/
def Chip.slackOf (c : Chip) (q : Nat) (periods : List Nat) : Int :=
  let need : Int := c.slackNeed q
  (need - (periods.foldl max 0 : Nat)) * 1000 / need

/-- SLACK_WINDOW (R36, R37, R43): the lowest value of the window is recorded, judged against WARN_THR and zero, and a
window below RAISE_THR raises the setpoint. TJ follows the hottest sensor with ENABLE = 0 too (R51, R430). -/
def Chip.slackWindow (c : Chip) (q : Nat) (periods : List Nat) (tj : Int) : Chip :=
  let c := if c.domainOn (40 + q) then (c.setF .CORE_SLACK_MIN_TJ q (ofInt 16 (clampInt (-0x8000) 0x7FFF tj))).noteTj tj
    else c
  if !c.slackOn q then c
  else
    let w := clampInt (-0x8000) 0x7FFF (c.slackOf q periods)
    let lowW := decide (w < (c.fld .CORE_SLACK_CTRL_WARN_THR q : Int))
    let c := c.setF .CORE_SLACK_STATUS_WIN_SLACK q (ofInt 16 w)
    let c := c.setB .CORE_SLACK_STATUS_LOW q lowW
    let c := c.setB .CORE_SLACK_STATUS_NEG q (decide (w < 0))
    let c := c.setF .CORE_SLACK_MIN_MIN_SLACK q (ofInt 16 (min w (asInt 16 (c.fld .CORE_SLACK_MIN_MIN_SLACK q))))
    let c := if lowW then (c.setB .CORE_SLACK_STATUS_LOW_SEEN q true).slackLow q w
      else { c with slack := kPut SlackS.init c.slack q ⟨min ((c.slackS q).goodRun + 1) 10⟩ }
    if w < (c.fld .CORE_SLACK_CTRL_RAISE_THR q : Int) then c.avsRaise else c

/-! ### CORE registers (R38, R42, R45) -/

/-- The order RAISE_THR < WARN_THR < LOWER_THR (R38). -/
def slackCtrlOk (data : Nat) : Bool := decide (bits data 7 0 < bits data 15 8) && decide (bits data 15 8 < bits data 23 16)

def Chip.applySlackCtrl (c : Chip) (q data : Nat) : Chip :=
  (((c.setF .CORE_SLACK_CTRL_ENABLE q (bits data 31 31)).setF .CORE_SLACK_CTRL_LOWER_THR q (bits data 23 16)).setF
    .CORE_SLACK_CTRL_WARN_THR q (bits data 15 8)).setF .CORE_SLACK_CTRL_RAISE_THR q (bits data 7 0)

/-- TARGET_SIZE lies in 64-128 (R38). -/
def slackCfgOk (data : Nat) : Bool := decide (64 ≤ bits data 7 0) && decide (bits data 7 0 ≤ 128)

def Chip.applySlackCfg (c : Chip) (q data : Nat) : Chip := c.setF .CORE_SLACK_CFG_TARGET_SIZE q (bits data 7 0)

/-- MODE is not 3; the steps lie in 1-50 mV (R42, R51). -/
def avsCtrlOk (data : Nat) : Bool :=
  bits data 31 30 != 3 && decide (1 ≤ bits data 15 8) && decide (bits data 15 8 ≤ 50) && decide (1 ≤ bits data 7 0) &&
    decide (bits data 7 0 ≤ 50)

def Chip.applyAvsCtrl (c : Chip) (data : Nat) : Chip :=
  ((((((c.setF .CORE_AVS_CTRL_MODE 0 (bits data 31 30)).setF .CORE_AVS_CTRL_PEC 0 (bits data 29 29)).setF
    .CORE_AVS_CTRL_ADDR 0 (bits data 22 16)).setF .CORE_AVS_CTRL_STEP_UP 0 (bits data 15 8)).setF
    .CORE_AVS_CTRL_STEP_DOWN 0 (bits data 7 0)).setB .CORE_AVS_STATUS_NO_RESP 0 false).avsRestart

/-- The voltage limits (R45, R51). -/
def avsLimitsOk (data : Nat) : Bool :=
  decide (10 ≤ bits data 63 48) && decide (50 ≤ bits data 47 32) && decide (600 ≤ bits data 25 16) &&
    decide (bits data 25 16 ≤ 800) && decide (600 ≤ bits data 9 0) && decide (bits data 9 0 ≤ 800) &&
    decide (bits data 9 0 + 40 ≤ bits data 25 16)

def Chip.applyAvsLimits (c : Chip) (data : Nat) : Chip :=
  ((((c.setF .CORE_AVS_LIMITS_DWELL_MS 0 (bits data 63 48)).setF .CORE_AVS_LIMITS_SETTLE_US 0 (bits data 47 32)).setF
    .CORE_AVS_LIMITS_CEIL_MV 0 (bits data 25 16)).setF .CORE_AVS_LIMITS_FLOOR_MV 0 (bits data 9 0)).avsCorrect

/-- A CORE write that breaks its rules is dropped whole and reported (R38). -/
def Chip.coreWrite (c : Chip) (ok : Bool) (source off : Nat) (f : Chip → Chip) : Chip :=
  if ok then f c else c.report source 0x008 off

def Chip.wrSlackCtrl (c : Chip) (q data : Nat) : Chip :=
  c.coreWrite (slackCtrlOk data) q (0x80000 + 0x100 * q) fun c => c.applySlackCtrl q data

def Chip.wrSlackCfg (c : Chip) (q data : Nat) : Chip :=
  c.coreWrite (slackCfgOk data) q (0x80004 + 0x100 * q) fun c => c.applySlackCfg q data

def Chip.wrAvsCtrl (c : Chip) (data : Nat) : Chip :=
  c.coreWrite (avsCtrlOk data) srcAvs 0x81000 fun c => c.applyAvsCtrl data

def Chip.wrAvsLimits (c : Chip) (data : Nat) : Chip :=
  c.coreWrite (avsLimitsOk data) srcAvs 0x81008 fun c => c.applyAvsLimits data

/-- CORE_AVS_CTRL_WRITE (R42): sets the mode, restarts the engine and clears NO_RESP. -/
def execCoreAvsCtrlWrite (src : Src) (data : Nat) (s : State) : Host.Outcome State Fault Refusal :=
  onChip (fun c => c.gated src .CORE 0x81000 fun c => c.wrAvsCtrl data) s

/-- CORE_AVS_LIMITS_WRITE (R45): new limits may force a correction of the setpoint. -/
def execCoreAvsLimitsWrite (src : Src) (data : Nat) (s : State) : Host.Outcome State Fault Refusal :=
  onChip (fun c => c.gated src .CORE 0x81008 fun c => c.wrAvsLimits data) s

/-! ### Die bridge -/

/-- The core die of a quadrant: 0 for A, 1 for B (R4). -/
def dieOf (q : Nat) : Nat := q / 2

/-- The direction from one die to the other: 0 A to B, 1 B to A (R51). -/
def dirFrom (q : Nat) : Nat := dieOf q

/-- A direction of the bridge carries no words: it is down (R407), or the whole bridge is stopped because PD_QD2 and
PD_QD3 are off (R405). -/
def Chip.bridgeStopped (c : Chip) (d : Nat) : Bool :=
  c.pwr.bridgeDown.testBit d || (!c.domainOn 42 && !c.domainOn 43)

/-- A direction of the bridge. -/
def Chip.bridgeS (c : Chip) (d : Nat) : BridgeS := kGet BridgeS.init c.bridge d

def Chip.setBridge (c : Chip) (d : Nat) (x : BridgeS) : Chip := { c with bridge := kPut BridgeS.init c.bridge d x }

/-- The voted time in the bridge's units (R24). -/
def Chip.bridgeNow (c : Chip) : Nat := 125 * c.now

/-- What is still in a direction of the bridge: waiting, or crossing (R24). -/
def Chip.bridgeQueue (c : Chip) (d : Nat) : List BridgeWait :=
  (c.bridgeS d).queue.filter fun x => decide (c.bridgeNow < x.start + 2048 * x.bytes)

/-- Bytes that wait in a quadrant's share for the bridge (R24). -/
def Chip.bridgeWaits (c : Chip) (q : Nat) : Nat :=
  (((c.bridgeQueue (dirFrom q)).filter fun x => x.quad == q && decide (c.bridgeNow < x.start)).map fun x => x.bytes).sum

/-- n bytes carried in direction d from quadrant q: they cross when what is before them has crossed at 32 Tbit/s, 4,000
bytes to the nanosecond (R24), and count, with the highest rate of any 10 µs in Mbit/s (R51). -/
def Chip.bridgeBytes (c : Chip) (d q n : Nat) : Chip :=
  let live := c.bridgeQueue d
  let start := (live.map fun x => x.start + 2048 * x.bytes).foldl max c.bridgeNow
  let w := (c.now, n) :: (c.bridgeS d).recent.filter fun x => decide (c.now < x.1 + nsT 10000)
  ((c.countN 64 .CORE_BRIDGE_CNT_BYTES d n).setBridge d ⟨w, live ++ [⟨q, n, start⟩]⟩).maxF .CORE_BRIDGE_CNT_PEAK_RATE d
    ((w.map fun x => x.2).sum * 8 / 10)

/-- A frame of n bytes carried in direction d from quadrant q (R51). -/
def Chip.bridgeCarry (c : Chip) (d q n : Nat) : Chip := (c.count 64 .CORE_BRIDGE_CNT_FRAMES d).bridgeBytes d q n

/-- A frame dropped at the bridge entry (R50). -/
def Chip.bridgeDrop (c : Chip) (d : Nat) : Chip := c.count 64 .CORE_BRIDGE_DROP d

/-- A frame of n bytes crosses from quadrant q (R24, R49, R50, R407): false when it is lost. `full` says that the
quadrant's share of the frame buffer is full. Each word that the code corrected counts, in a lost frame too. A frame that
an uncorrectable word loses at the receiving die has been carried, and counts in FRAMES and BYTES: DESIGN CHOICE
(notes/assumptions/149.md). -/
def Chip.bridgeCross (c : Chip) (q n : Nat) (full : Bool) (x : Cross) : Bool × Chip :=
  let d := dirFrom q
  if c.bridgeStopped d then (false, c.bridgeDrop d)
  else if full then (false, (c.bridgeDrop d).report (0x010 + d) 0x006 0)
  else
    let c := (c.bridgeCarry d q n).countN 32 .CORE_BRIDGE_CORR d x.corrected
    if x.lost then (false, (c.count 32 .CORE_BRIDGE_UNCORR d).report (0x010 + d) 0x007 0) else (true, c)

/-- SLACK_WINDOW. -/
def execSlackWindow (q : Nat) (periods : List Nat) (tj : Int) (s : State) : Host.Outcome State Fault Refusal :=
  onChipS (fun c => c.core fun c => c.slackWindow q periods tj) s

end Sys2Proof.Machine
end

