-- ==== Sys2Proof/Machine/Plane.lean ====
section
/-!
DEFINITION. Machine/Plane.lean: access to ports, Berths, Tide Tables and Quays, the port layout (R163), rates and wire
times, gate positions (R142), lengths and charges (R117), and pre-emption state (R178, R180).
-/
namespace Sys2Proof.Machine

/-! ### Codes, units and access -/

/-- Result codes of an indirect operation, which are the status codes 0-7 of R304. -/
def rOK : Nat := 0
def rBucketFull : Nat := 1
def rNoResource : Nat := 2
def rExists : Nat := 3
def rNotFound : Nat := 4
def rParam : Nat := 5
def rLocked : Nat := 6
def rInUse : Nat := 7

def rTimePassed : Nat := 8

/-- A byte in units of kbit/s times 2^-16 ns. -/
def tokenUnit : Nat := 524288000000

/-- The cycle of an administrative list in units of 2^-16 ns (R109: nanoseconds with an 8-bit fraction). -/
def cycleT (ns frac : Nat) : Nat := ns * 65536 + frac * 256

/-- The start of a commit accepted at `now` (R103, R137): the base if it lies at least `lead` later, else the first
base + N x cycle that does. Instants in units of 2^-16 ns. -/
def commitStart (base cycle now lead : Nat) : Nat :=
  if now + lead ≤ base then base
  else if cycle = 0 then base
  else base + ceilDiv (now + lead - base) cycle * cycle

/-- The quadrants. -/
def quads : List Nat := [0, 1, 2, 3]

/-- The stream tables replaced. -/
def Chip.setStrm (c : Chip) (x : StrmS) : Chip := { c with strm := x }

def Chip.handle (c : Chip) (h : Nat) : Handle := kGet Handle.init c.strm.handles h
def Chip.setHandle (c : Chip) (h : Nat) (x : Handle) : Chip :=
  c.setStrm { c.strm with handles := kPut Handle.init c.strm.handles h x }
def Chip.meter (c : Chip) (m : Nat) : Meter := kGet Meter.init c.strm.meters m
def Chip.meterQ (c : Chip) (m q : Nat) : MeterQ := kGet MeterQ.init c.strm.meterQ (4 * m + q)
def Chip.setMeterQ (c : Chip) (m q : Nat) (x : MeterQ) : Chip :=
  c.setStrm { c.strm with meterQ := kPut MeterQ.init c.strm.meterQ (4 * m + q) x }
def Chip.gate (c : Chip) (g : Nat) : Gate := kGet Gate.init c.strm.gates g
def Chip.setGate (c : Chip) (g : Nat) (x : Gate) : Chip :=
  c.setStrm { c.strm with gates := kPut Gate.init c.strm.gates g x }
def Chip.gateQ (c : Chip) (g q : Nat) : GateQ := kGet GateQ.init c.strm.gateQ (4 * g + q)
def Chip.setGateQ (c : Chip) (g q : Nat) (x : GateQ) : Chip :=
  c.setStrm { c.strm with gateQ := kPut GateQ.init c.strm.gateQ (4 * g + q) x }


def Chip.setPlane (c : Chip) (x : PlaneS) : Chip := { c with plane := x }
def Chip.port (c : Chip) (p : Nat) : PortS := kGet PortS.init c.plane.ports p
def Chip.setPort (c : Chip) (p : Nat) (x : PortS) : Chip :=
  c.setPlane { c.plane with ports := kPut PortS.init c.plane.ports p x }
def Chip.berth (c : Chip) (b : Nat) : BerthS := kGet BerthS.init c.plane.berths b
def Chip.setBerth (c : Chip) (b : Nat) (x : BerthS) : Chip :=
  c.setPlane { c.plane with berths := kPut BerthS.init c.plane.berths b x }
def Chip.vt (c : Chip) (p tc : Nat) : Nat := kGet 0 c.plane.vt (8 * p + tc)
def Chip.setVt (c : Chip) (p tc v : Nat) : Chip :=
  c.setPlane { c.plane with vt := kPut 0 c.plane.vt (8 * p + tc) v }
def Chip.ovh (c : Chip) (p : Nat) : Nat := kGet 20 c.plane.ovh p
def Chip.setOver (c : Chip) (p v : Nat) : Chip := c.setPlane { c.plane with ovh := kPut 20 c.plane.ovh p v }
def Chip.tide (c : Chip) (p : Nat) : TideS := kGet TideS.init c.plane.tide p
def Chip.setTide (c : Chip) (p : Nat) (x : TideS) : Chip :=
  c.setPlane { c.plane with tide := kPut TideS.init c.plane.tide p x }
def Chip.quay (c : Chip) (g : Nat) : QuayS := kGet QuayS.init c.plane.quay g
def Chip.setQuay (c : Chip) (g : Nat) (x : QuayS) : Chip :=
  c.setPlane { c.plane with quay := kPut QuayS.init c.plane.quay g x }
def Chip.eng (c : Chip) (g : Nat) : EngS := kGet EngS.init c.plane.eng g
def Chip.setEng (c : Chip) (g : Nat) (x : EngS) : Chip :=
  c.setPlane { c.plane with eng := kPut EngS.init c.plane.eng g x }

/-! ### Port layout (R5, R163) -/

/-- The width in lanes of the port that starts on lane l under a SPLIT value; 0 where none starts. -/
def portWidth (split l : Nat) : Nat :=
  if !split.testBit 0 then (if l = 0 then 8 else 0)
  else if !split.testBit (1 + l / 4) then (if l % 4 = 0 then 4 else 0)
  else if !split.testBit (3 + l / 2) then (if l % 2 = 0 then 2 else 0)
  else 1

/-- A SPLIT value is legal (R163). -/
def splitOk (v : Nat) : Bool :=
  (!(v.testBit 1 || v.testBit 2) || v.testBit 0) && (!(v.testBit 3 || v.testBit 4) || v.testBit 1) &&
    (!(v.testBit 5 || v.testBit 6) || v.testBit 2)

/-- The lanes of a port; 0 for a number that names no port. -/
def Chip.lanes (c : Chip) (p : Nat) : Nat :=
  if p < 256 && c.populated (p / 8) then portWidth (c.fld .PORT_GRP_CFG_SPLIT (p / 8)) (p % 8) else 0

/-- A port number is valid (R5). -/
def Chip.portValid (c : Chip) (p : Nat) : Bool := c.lanes p != 0

/-- The valid ports of a group. -/
def Chip.groupPorts (c : Chip) (g : Nat) : List Nat := ((List.range 8).map fun l => 8 * g + l).filter c.portValid

/-- The quadrant of a port (R4). -/
def quadOfPort (p : Nat) : Nat := p / 64

/-- The registers of a port, and of a group, read as zero and ignore writes: there is no such port or group (R2, R5), or the
domain of its quadrant is off (R451). -/
def Chip.portDark (c : Chip) (p : Nat) : Bool := !c.portValid p || !c.domainOn (40 + quadOfPort p)
def Chip.groupDark (c : Chip) (g : Nat) : Bool := !c.populated g || !c.domainOn (40 + quadOf g)

/-- A register write by a path, to a register that may be dark: it is then ignored without a report (R451). -/
def Chip.gatedIn (c : Chip) (src : Src) (dark : Bool) (b : Block) (off : Nat) (f : Chip → Chip) : Chip :=
  if dark then c.dropHalves src else c.gated src b off f

/-- A port carries the duo link: group 31 in duo mode (R97, R371). -/
def Chip.duoPort (c : Chip) (p : Nat) : Bool := c.is .DUO_CFG_ENABLE 0 && p / 8 == 31

/-- The engine of a group runs: RUNNING, and its domain on (R403, R404). -/
def Chip.engRun (c : Chip) (g : Nat) : Bool := c.fld .PORT_GRP_STATUS_ENGINE_STATE g == 2

/-- The link state of a port (R174): 0 DISABLED, 1 ACQUIRING, 2 UP_HOLD, 3 UP, 4 DOWN_HOLD. -/
def Chip.link (c : Chip) (p : Nat) : Nat := c.fld .PORT_STATUS_LINK_STATE p

/-- The port is UP or DOWN_HOLD (R174). -/
def Chip.linkUp (c : Chip) (p : Nat) : Bool := c.link p == 3 || c.link p == 4

/-! ### Wire time

Instants on the wire are counted in units of 2^-16 / 200 ns: a byte takes 524,288 / w of them on a port of w lanes of
200 Gbit/s each, so no instant of R146 is rounded. -/

/-- A device time in wire units. -/
def fine (t : Nat) : Nat := 200 * t

/-- The time of n bytes on a port. -/
def Chip.wireTime (c : Chip) (p n : Nat) : Nat := n * (524288 / max 1 (c.lanes p))

/-- The voted time in wire units. -/
def Chip.fineNow (c : Chip) : Nat := fine c.now

/-- The wire instant of a launch time: less preamble and start delimiter, 8 bytes (R146). -/
def Chip.wireAt (c : Chip) (p launch : Nat) : Nat := fine launch - c.wireTime p 8

/-! ### Lengths and charges (R117) -/

/-- The largest length a frame can take on the wire while its length is not known: 9,728 bytes, or 9,734 when its
stream adds an R-TAG. -/
def Frame.len (f : Frame) : Nat :=
  match f.elen with
  | some n => n
  | none => if f.tagged then 9734 else 9728

/-- The bytes a frame takes in the buffers: its length as it leaves, the check sequence included; where no header gave it,
the frame's own (notes/assumptions/15.md). -/
def Frame.size (f : Frame) : Nat := f.elen.getD (max 64 (f.bytes.length + 4))

/-- The largest length a frame can take on the wire (R117): no charge counts more. -/
def Frame.most (f : Frame) : Nat := if f.tagged then 9734 else 9728

/-- A frame's charge on a port under an overhead: at most 9,989 (R117). A header that declares a longer frame charges the
largest length: the egress MAC discards the frame, and its charge stands (R169). -/
def Frame.charge (f : Frame) (ovh : Nat) : Nat := min f.len f.most + ovh

/-! ### Pre-emption (R178, R180) -/

/-- The shortest first fragment (R180). -/
def Chip.fMin (c : Chip) (p : Nat) : Nat := 64 * (1 + c.fld .PORT_MM_CFG_ADD_FRAG p)

/-- A class is pre-emptable (R146). -/
def Chip.preClass (c : Chip) (p tc : Nat) : Bool := (c.fld .TIDE_CTRL_PREEMPT_MASK p).testBit tc

/-- A pre-emptable frame of the port is part-sent. -/
def Chip.partSent (c : Chip) (p : Nat) : Bool :=
  (c.port p).part.isSome || (match (c.port p).wire with | some w => w.pre | none => false)

/-- The conditions under which pre-emption becomes active (R178). -/
def Chip.mmBase (c : Chip) (p : Nat) : Bool :=
  c.is .PORT_MM_CFG_MM_EN p && c.linkUp p &&
    (!c.is .PORT_MM_CFG_VERIFY_EN p || c.fld .PORT_MM_STATUS_VERIFY p == 3)

/-- mm_active(p) (R178): it outlasts its conditions until a part-sent frame's remainder has been sent. -/
def Chip.mmActive (c : Chip) (p : Nat) : Bool := c.mmBase p || (c.linkUp p && c.partSent p)

/-! ### Tide Table positions (R133, R142) -/

def entOp (w : Nat) : Nat := bits w 63 61
def entGates (w : Nat) : Nat := bits w 55 48
/-- An entry's interval in units of 2^-16 ns. -/
def entInterval (w : Nat) : Nat := nsT (bits w 31 0) + bits w 39 32 * 256

/-- The offsets at which the entries of a cycle start, with the entries; those at or past the cycle's end are cut. -/
def TideList.starts (l : TideList) : List (Nat × Nat) :=
  ((l.entries.foldl (fun (acc : Nat × List (Nat × Nat)) w =>
    (acc.1 + entInterval w, (acc.1, w) :: acc.2)) (0, [])).2.reverse).filter fun e => decide (e.1 < l.cycle)

/-- The position in the cycle at an instant (R142). -/
def TideList.pos (l : TideList) (t : Nat) : Nat := (((t : Int) - l.start) % (l.cycle : Int)).toNat

/-- The gate states of a list at an instant; a list of no entries holds the idle states (R135, R142). -/
def TideList.gatesAt (l : TideList) (idle t : Nat) : Nat :=
  let pos := l.pos t
  let cur := (l.starts.filter fun e => decide (e.1 ≤ pos)).filter fun e =>
    decide (pos < e.1 + entInterval e.2) || (l.starts.getLast? == some e)
  match cur.getLast? with
  | some e => entGates e.2
  | none => match l.starts.getLast? with
    | some e => entGates e.2
    | none => idle

/-- The list in force at an instant: the pending list from its start on, the operational list before it (R145). -/
def Chip.listAt (c : Chip) (p t : Nat) : Option TideList :=
  match (c.tide p).pend with
  | some l => if l.start ≤ t then some l else (c.tide p).oper
  | none => (c.tide p).oper

/-- The gate states at an instant (R136, R142, R145). -/
def Chip.gatesAt (c : Chip) (p t : Nat) : Nat :=
  let idle := c.fld .TIDE_CTRL_IDLE_GATES p
  match c.listAt p t with
  | some l => l.gatesAt idle t
  | none => idle

/-- gate_open(p, tc) at a wire instant (R145). -/
def Chip.gateOpen (c : Chip) (p tc tw : Nat) : Bool := (c.gatesAt p (tw / 200)).testBit tc

/-- The instants, in the cycle that begins at `t0`, at which an entry starts that satisfies `sel` and governs frames: an
entry of interval 0 governs none (R134) unless it holds to the cycle's end. -/
def TideList.hits (l : TideList) (t0 : Int) (sel : Nat → Bool) : List Int :=
  (l.starts.filter fun e => sel e.2 && (entInterval e.2 != 0 || l.starts.getLast? == some e)).map fun e => t0 + e.1

/-- The first instant after `t` at which an entry starts that satisfies `sel`. -/
def TideList.firstFrom (l : TideList) (sel : Nat → Bool) (t : Nat) : Option Nat :=
  let c0 : Int := (t : Int) - l.pos t
  let all := l.hits c0 sel ++ l.hits (c0 + l.cycle) sel
  ((all.filter fun x => decide ((t : Int) < x)).head?).map Int.toNat

/-- next_close (R146): the first instant after `t` at which class tc closes, across cycles and a pending switch. -/
def Chip.nextClose (c : Chip) (p tc t : Nat) : Option Nat :=
  let shut (w : Nat) : Bool := !(entGates w).testBit tc
  let oper := match (c.listAt p t) with
    | some l => l.firstFrom shut t
    | none => none
  match (c.tide p).pend with
  | none => oper
  | some l =>
    if l.start ≤ t then oper
    else
      let after := if l.entries = [] then (if (c.fld .TIDE_CTRL_IDLE_GATES p).testBit tc then none else some l.start)
        else if !(c.gatesAt p l.start).testBit tc then some l.start
        else l.firstFrom shut l.start
      match oper with
      | some x => if x < l.start then some x else after
      | none => after

/-- The hold and release advance of a port in units of 2^-16 ns (R151). -/
def Chip.holdAdv (c : Chip) (p op : Nat) : Nat :=
  if op = 1 then nsT (c.fld .TIDE_PORT_CFG_HOLD_ADVANCE p) else nsT (c.fld .TIDE_PORT_CFG_RELEASE_ADVANCE p)

/-- When the hold event of an entry that starts at `e` takes effect (R151): `adv` before it, but not before the preceding
entry's start or the list's start, and in a cycle before that start not advanced at all. -/
def holdAtInst (start adv : Nat) (prev e : Int) : Int := min e (max (max (e - adv) prev) start)

/-- The hold events of the cycle of a list that begins at `c0` (R151), as (instant, op). -/
def Chip.holdEvents (c : Chip) (p : Nat) (l : TideList) (c0 : Int) : List (Int × Nat) :=
  let ss := l.starts
  let prev : Int := match ss.getLast? with
    | some e => c0 + e.1 - l.cycle
    | none => c0
  (ss.foldl (fun (acc : Int × List (Int × Nat)) e =>
    let op := entOp e.2
    let t : Int := c0 + e.1
    (t, if op = 1 ∨ op = 2 then acc.2 ++ [(holdAtInst l.start (c.holdAdv p op) acc.1 t, op)] else acc.2)) (prev, [])).2

/-- next_hold (R146, R151): the next hold assertion after `t`; none without an active MAC merge sublayer, where
SetAndHold acts as SetGates (R152). -/
def Chip.nextHold (c : Chip) (p t : Nat) : Option Nat :=
  if !c.mmActive p then none else
  let from_ (l : TideList) (t0 : Nat) : Option Nat :=
    let c0 : Int := (t0 : Int) - l.pos t0
    let cyc (k : Int) : List Int := ((c.holdEvents p l (c0 + k * l.cycle)).filter fun e => e.2 == 1).map fun e => e.1
    (((cyc 0 ++ cyc 1 ++ cyc 2).filter fun x => decide ((t : Int) < x)).head?).map Int.toNat
  match (c.tide p).pend with
  | none => (c.listAt p t).bind fun l => from_ l t
  | some l =>
    if l.start ≤ t then from_ l t
    else match (c.listAt p t).bind fun o => from_ o t with
      | some x => if x < l.start then some x else from_ l l.start
      | none => from_ l l.start

/-! ### Berth fields -/

/-- The group's staging lead in units of 2^-16 ns (R33). -/
def Chip.lead (c : Chip) (g : Nat) : Nat := nsT (c.fld .CORE_STAGE_LEAD_LEAD g)

def Chip.bValid (c : Chip) (b : Nat) : Bool := c.is .SCHD_BERTH_CFG_VALID b
def Chip.bPort (c : Chip) (b : Nat) : Nat := c.fld .SCHD_BERTH_CFG_PORT b
def Chip.bTc (c : Chip) (b : Nat) : Nat := c.fld .SCHD_BERTH_CFG_TC b
def Chip.bTimed (c : Chip) (b : Nat) : Bool := c.is .SCHD_BERTH_CFG_KIND b

/-- The assigned Berths, in order of number. -/
def Chip.assigned (c : Chip) : List Nat :=
  (c.regs.filter fun e => e.1 % 1024 == Fld.code .SCHD_BERTH_CFG_VALID && e.2 != 0).map fun e => e.1 / 1024

/-- The assigned Berths of a port (R111). -/
def Chip.berthsOf (c : Chip) (p : Nat) : List Nat := c.assigned.filter fun b => c.bPort b == p

/-- Bytes queued in a Berth (R131). -/
def BerthS.depth (b : BerthS) : Nat := (b.queue.map fun i => i.f.size).sum

/-! ### Buffer occupancy (R31, R131, R286, R377) -/

/-- Bytes of the on-die frame buffer that a quadrant's share holds: frames queued in its ports' Berths and frames held
until their end, and what waits for the die bridge (R24); the receive class queues lie in Q0's share. -/
def Chip.shareUsed (c : Chip) (q : Nat) : Nat :=
  ((c.plane.berths.filter fun e => quadOfPort (c.bPort e.1) == q).map fun e => e.2.depth).sum +
    ((c.plane.ports.filter fun e => quadOfPort e.1 == q).map fun e =>
      match e.2.rx with
      | some r => if r.wait.isSome then r.f.size else 0
      | none => 0).sum +
    (if q = 0 then (c.dma.cls.map fun e => (e.2.map fun i => i.f.size).sum).sum else 0) +
    (if q = 0 then (c.duo.pend.map fun x => x.f.size).sum else 0) + c.bridgeWaits q

/-- 64 MiB, a quadrant's share (R31). -/
def shareSize : Nat := 67108864

/-- A quadrant's share of the frame buffer cannot take n bytes more (R31). -/
def Chip.shareFull (c : Chip) (q n : Nat) : Bool := decide (shareSize < c.shareUsed q + n)

/-- A frame is dropped at the entry of a quadrant whose share is full (R31). -/
def Chip.shareDrop (c : Chip) (q : Nat) : Chip := (c.count 64 .CORE_QBUF_DROP_COUNT q).report q 0x002 0

/-- The present occupancy of a quadrant's share in MiB, as NOW_MIB shows it (R51). -/
def Chip.shareMib (c : Chip) (q : Nat) : Nat := c.shareUsed q / 1048576

/-- The highest occupancy of a quadrant's share (R51), kept after each event that adds to it. -/
def Chip.noteShare (c : Chip) (q : Nat) : Chip := c.maxF .CORE_QBUF_STATUS_PEAK_MIB q (c.shareMib q)

/-- A host, DMA or spill access of n bytes to a stack of quadrant q (R24): one to M4-M7 crosses the bridge, to the store
(`toStore`) or from it. Its bytes load the bridge and, while they wait, a share; it is no frame and is not dropped. -/
def Chip.quadCross (c : Chip) (q n : Nat) (toStore : Bool) : Chip :=
  if dieOf q = 0 || n = 0 then c
  else if toStore then (c.bridgeBytes 0 0 n).noteShare 0
  else (c.bridgeBytes 1 q n).noteShare q

/-- The quadrant that a store address lies in (R214). -/
def storeQuad (a : Nat) : Nat := a / 2 ^ 36

/-- Of the n bytes from store address a, those in quadrant q. -/
def bytesIn (a n q : Nat) : Nat := min (a + n) ((q + 1) * 2 ^ 36) - max a (q * 2 ^ 36)

/-- An access of n bytes from store address a (R24): what of it lies on die B crosses the bridge. -/
def Chip.storeCross (c : Chip) (a n : Nat) (toStore : Bool) : Chip :=
  (c.quadCross 2 (bytesIn a n 2) toStore).quadCross 3 (bytesIn a n 3) toStore

end Sys2Proof.Machine
end

