-- ==== Sys2Proof/Machine/Sched.lean ====
section
/-!
DEFINITION. Machine/Sched.lean: Berths, fair queueing, shapers and hand-over (05_berths_and_fair_queueing.md), the
gate-fit test (R146), the port's selection (R114), and the start of a frame on the wire.
-/
namespace Sys2Proof.Machine

/-! ### Duo: what may leave (R377, R382, R385) -/

/-- A run of handle h joined to the newest run of the same handle and kind, if its numbers follow that run's last (R376);
`l` holds the entries of the epoch, newest first. A run does not reach over an entry of another type
(notes/assumptions/203.md). -/
def joinRun (h n rx gen a : Nat) : List StepEntry → Option (List StepEntry)
  | .run h' m rx' gen' a' :: l =>
    if h' = h ∧ (a' = 0 ↔ a = 0) then
      (if rx = (rx' + m) % 2 ^ 32 ∧ (gen = (gen' + m) % 2 ^ 32 ∨ (gen = 0 ∧ gen' = 0)) then
        some (.run h (m + n) rx' gen' a' :: l) else none)
    else (joinRun h n rx gen a l).map fun l => .run h' m rx' gen' a' :: l
  | _ => none

/-- The entries of an epoch with one more (R375, R376). -/
def addEntry (l : List StepEntry) (e : StepEntry) : List StepEntry :=
  match e with
  | .run h n rx gen a => ((joinRun h n rx gen a l.reverse).map List.reverse).getD (l ++ [e])
  | _ => l ++ [e]

/-- The handle of a RUN entry. -/
def runOf : StepEntry → Option Nat
  | .run h _ _ _ _ => some h
  | _ => none

/-- A RUN entry. -/
def isRun (e : StepEntry) : Bool := (runOf e).isSome

/-- The epoch whose record carries the newest run of handle h: the running epoch, or a later one where runs beyond 12,288
move on (R376). -/
def Chip.runEpoch (c : Chip) (h : Nat) : Nat :=
  let runs := (c.duo.deferred ++ c.duo.entries).filterMap runOf
  let after := (runs.reverse.takeWhile fun x => x != h).length
  (c.fld .DUO_STATUS_EPOCH 0 + (runs.length - 1 - after) / 12288) % 2 ^ 48

/-- The mark of a decision on a frame of handle h taken now (R376, R377, R382, R385): its record's epoch while IN_STEP as
ACTIVE; the unconfirmed mark in MUTED and TAKING_OVER, and on a joiner that has lost its peer; otherwise, on an ACTIVE unit,
that of a decision without a log. -/
def Chip.epochMark (c : Chip) (h : Nat) : Option Nat :=
  if c.duoActive then (if c.duoState = 2 then some (c.runEpoch h) else some c.soloMark)
  else if c.duoState = 3 ∨ c.duoState = 4 ∨ c.duo.gaps.isSome then some unconfirmed
  else none

/-- The record of an epoch is not acknowledged: it is out, or it is still to be sent (R376, R377). -/
def Chip.unackedEpoch (c : Chip) (e : Nat) : Bool :=
  c.duo.unacked.contains e ||
    (decide (e < 2 ^ 48) && decide ((e + 2 ^ 48 - c.fld .DUO_STATUS_EPOCH 0) % 2 ^ 48 < 2 ^ 47))

/-- A frame may not be emitted yet: its record is not acknowledged (R377), which holds for the frames of a former active
unit too after a swap; or no log confirms it (R382, R385). A joiner emits nothing (R382). -/
def Chip.waits (c : Chip) (f : Frame) : Bool :=
  if c.duoState = 1 && !c.duoActive then true
  else match f.epoch with
    | none => false
    | some e =>
      if c.duoState = 2 then c.unackedEpoch e
      else if c.duoState = 3 ∨ c.duoState = 4 then e == unconfirmed || e == c.soloMark || c.unackedEpoch e
      else false

/-- An input decision enters the step log on the active unit (R375, R389). -/
def Chip.duoLog (c : Chip) (e : StepEntry) : Chip :=
  if (c.duoState = 1 ∨ c.duoState = 2) ∧ c.duoActive then c.setDuo { c.duo with entries := addEntry c.duo.entries e }
  else c

/-! ### Shapers (R122-R125) -/

/-- One byte of balance. -/
def byteBal : Int := 2 ^ 32

/-- The credit of a rate in kbit/s over a time in units of 2^-16 ns (R122). DESIGN CHOICE: it is rounded down to 2^-32
byte at every accrual; the spec gives the fraction and no rounding (notes/assumptions/152.md). -/
def credit (rate : Nat) (dt : Int) : Int := (rate : Int) * dt * 128 / 15625

/-- What has accrued on a balance after a time, up to BURST (R122). -/
def BerthS.accrued (b : BerthS) (bal dt : Int) : Int := min ((b.burst : Int) * byteBal) (bal + credit b.rate (max 0 dt))

/-- How long the balances of earlier instants are kept (notes/assumptions/153.md). -/
def trailKept : Int := nsT 20000000

/-- The earlier balances once time has moved on to an instant (R130). -/
def BerthS.noteTrail (b : BerthS) (t : Int) : BerthS :=
  if t ≤ b.tLast then b
  else { b with trail := (b.tLast, b.bal) :: b.trail.filter (fun e => decide (t ≤ e.1 + trailKept)),
                spent := b.spent.filter fun e => decide (t ≤ e.1 + trailKept) }

/-- accrue (R122) at an instant; one that lies before the last accrual adds nothing. -/
def BerthS.accrue (b : BerthS) (t : Int) : BerthS :=
  if b.shaper then { b.noteTrail t with bal := b.accrued b.bal (t - b.tLast), tLast := max t b.tLast }
  else { b with tLast := max t b.tLast }

/-- A balance carried on from an instant to a later one through the charges and credits in between (R122, R128). -/
def BerthS.replay (b : BerthS) (start bal stop : Int) : List (Int × Int) → Int
  | [] => b.accrued bal (stop - start)
  | e :: l =>
    if start < e.1 ∧ e.1 ≤ stop then b.replay e.1 (b.accrued bal (e.1 - start) - e.2 * byteBal) stop l
    else b.replay start bal stop l

/-- The balance at an earlier instant, as the log may name it (R130): what it was then (notes/assumptions/153.md). -/
def BerthS.balAt (b : BerthS) (t : Int) : Int :=
  if b.tLast ≤ t then (b.accrue t).bal
  else match b.trail.find? fun e => decide (e.1 ≤ t) with
    | some e => b.replay e.1 e.2 t b.spent
    | none => match b.trail.getLast? with
      | some e => e.2
      | none => b.bal

/-- In credit: a frame may start (R122, R123). -/
def BerthS.inCredit (b : BerthS) : Bool := !b.shaper || decide (0 ≤ b.bal)

/-- The balance after a charge (R122). -/
def BerthS.pay (b : BerthS) (charge : Nat) : BerthS :=
  if b.shaper then { b with bal := b.bal - (charge : Int) * byteBal, spent := b.spent ++ [(b.tLast, (charge : Int))] }
  else b

/-- A credit, limited as accrual is (R117). -/
def BerthS.refund (b : BerthS) (n : Nat) : BerthS :=
  if b.shaper then { b with bal := min ((b.burst : Int) * byteBal) (b.bal + (n : Int) * byteBal),
                            spent := b.spent ++ [(b.tLast, -(n : Int))] }
  else b

/-! ### Fair queueing (R118-R121) -/

/-- cost(charge, w) (R118). -/
def cost (charge w : Nat) : Nat := ceilDiv (charge * 65536) w

/-- before(a, b) (R118). -/
def before (a b : Nat) : Bool := decide (2 ^ 31 ≤ (a + 2 ^ 32 - b % 2 ^ 32) % 2 ^ 32)

/-- A Berth that qualifies enters the race at the current virtual time; one that does not leaves it (R119). -/
def Chip.race (c : Chip) (b : Nat) : Chip :=
  let x := c.berth b
  let ok := !c.bTimed b && decide (0 < x.weight) && x.inCredit && x.queue != []
  if !ok then c.setBerth b { x with inRace := false }
  else if x.inRace then c
  else match x.queue with
    | [] => c
    | h :: _ => c.setBerth b
        { x with inRace := true,
                 finish := (c.vt (c.bPort b) (c.bTc b) + cost (h.f.charge (c.ovh (c.bPort b))) x.weight) % 2 ^ 32 }

/-- A frame discarded at a Berth (R112, R116, R121, R131, R168). -/
def Chip.bDrop (c : Chip) (b : Nat) : Chip := c.count 16 .SCHD_BERTH_CNT_DROPPED b

/-- A late frame at a Berth (R116). -/
def Chip.bLate (c : Chip) (b : Nat) : Chip := c.count 16 .SCHD_BERTH_CNT_LATE b

/-- A message that Fened originated (R67). -/
def Frame.originated (f : Frame) : Bool := f.ptp && f.inPort.isNone

/-- A late frame goes out: LATE_POLICY is SEND_NOW (R116) and it is no PTP message of Fened, which is dropped when it
falls to a late policy (R67). -/
def Chip.sendNow (c : Chip) (b : Nat) (f : Frame) : Bool := c.is .SCHD_BERTH_CFG_LATE_POLICY b && !f.originated

/-- BERTH_ENQUEUE (R31, R115, R116, R121, R131): a frame arrives for a Berth, whose quadrant's share must take it. Answers whether it was accepted and whether its
launch time had passed. -/
def Chip.enqueue (c : Chip) (b : Nat) (f : Frame) (launch : Option Nat) : Bool × Bool × Chip :=
  let x := (c.berth b).accrue c.now
  let kib := c.fld .SCHD_BERTH_CFG_MAX_KIB b
  let q := quadOfPort (c.bPort b)
  if !c.bValid b then (false, false, c)
  else if c.shareFull q f.size then (false, false, c.shareDrop q)
  else if x.weight = 0 then (false, false, c.bDrop b)
  else if kib ≠ 0 ∧ kib * 1024 < x.depth + f.size then (false, false, c.bDrop b)
  else if !c.bTimed b then
    (true, false, (c.setBerth b { x with queue := x.queue ++ [⟨f, none, false⟩] }).race b)
  else match launch with
    | none => (true, false, c.setBerth b
        { x with queue := x.queue ++ [⟨f, some (c.now + c.lead (c.bPort b / 8)), false⟩] })
    | some l =>
      if c.now < l then (true, false, c.setBerth b { x with queue := x.queue ++ [⟨f, some l, false⟩] })
      else if c.sendNow b f then
        (true, true, (c.setBerth b { x with queue := x.queue ++ [⟨f, some l, true⟩] }).bLate b)
      else (false, true, (c.bLate b).bDrop b)

/-! ### The gate-fit test (R146) -/

/-- Timed frames of a group in its Quay or on the way there, in bytes; a late one uses the rest of the memory (R25). -/
def Chip.quayBytes (c : Chip) (g : Nat) : Nat :=
  ((((c.quay g).staged ++ (c.quay g).transit).filter fun s => !s.it.late).map fun s => s.it.f.size).sum

/-- 229,376 bytes of staging memory for timed frames (R25, R153). -/
def quayRoom : Nat := 229376

/-- A frame of a timed Berth with its hand-off time come waits outside the Quay for a cause that makes it bar others (R146):
Quay space, a duo acknowledgement, shaper credit or its gate. -/
def Chip.heldUp (c : Chip) (p b : Nat) (i : Item) : Bool :=
  match i.launch with
  | none => false
  | some l =>
    decide (l ≤ c.now + c.lead (p / 8)) &&
      (decide (quayRoom < c.quayBytes (p / 8) + i.f.size) || c.waits i.f || !((c.berth b).accrue c.now).inCredit ||
        !c.gateOpen p (c.bTc b) (c.wireAt p l))

/-- The wire instants of the port's timed frames that bar a candidate: staged or on the way to the Quay, or held up in a
Berth of a weight other than 0; `pre` selects the pre-emptable ones, `self` names the Berth whose head is the candidate:
neither it nor what is queued behind it bars it (R146). -/
def Chip.barring (c : Chip) (p tw : Nat) (pre : Bool) (self : Option Nat) : List Nat :=
  let q := c.quay (p / 8)
  let staged := ((q.staged ++ q.transit).filter fun s => s.port == p && c.preClass p s.tc == pre).filterMap fun s =>
    s.it.launch
  let waiting := (c.berthsOf p).flatMap fun b =>
    if c.bTimed b && (c.berth b).weight != 0 && c.preClass p (c.bTc b) == pre && self != some b then
      ((c.berth b).queue.filter (c.heldUp p b)).filterMap fun i => i.launch
    else []
  ((staged ++ waiting).map fun t => c.wireAt p t).filter fun w => decide (tw ≤ w)

/-- The earliest of a list of instants; none is never. -/
def earliest (l : List Nat) : Option Nat := l.foldl (fun a x => some (match a with | some y => min x y | none => x)) none

/-- t is at or before an instant; no instant is infinity. -/
def notAfter (t : Nat) (o : Option Nat) : Bool :=
  match o with
  | some x => decide (t ≤ x)
  | none => true

/-- The outcome of fits: it does not fit, it fits whole, or it must be pre-empted before an instant (R146, R147). -/
inductive Fit where
  | no
  | whole
  | cut (limit : Nat)
  deriving DecidableEq, Repr

/-- fits(p, tc, len, c, tw) (R146). -/
def Chip.fits (c : Chip) (p tc len charge tw : Nat) (self : Option Nat) : Fit :=
  let pre := c.preClass p tc
  let tEnd := tw + c.wireTime p charge
  let close := (c.nextClose p tc (tw / 200)).map fine
  let close := if pre then earliest (close.toList ++ (c.nextHold p (tw / 200)).toList.map fine) else close
  let exp := earliest (c.barring p tw false self)
  let pmt := earliest (c.barring p tw true self)
  if notAfter tEnd close && notAfter tEnd exp && notAfter tEnd pmt then .whole
  else if pre && c.mmActive p && decide (c.fMin p + 64 ≤ len) then
    let first := tw + c.wireTime p (c.fMin p + c.ovh p)
    if notAfter first close && notAfter first exp && notAfter tEnd pmt then
      match earliest (close.toList ++ exp.toList) with
      | some x => .cut x
      | none => .whole
    else .no
  else .no

def Fit.ok : Fit → Bool
  | .no => false
  | _ => true

/-! ### The wire -/

/-- A charge above the true one is credited (R117), and a hand-over copy keeps it in mind (R128). -/
def Chip.creditBerth (c : Chip) (b n : Nat) : Chip :=
  if n = 0 then c
  else
    let c := c.setBerth b (((c.berth b).accrue c.now).refund n)
    let p := c.bPort b
    match (c.port p).hand with
    | some h => c.setPort p { c.port p with hand := some { h with charges := h.charges ++ [(b, -(n : Int))] } }
    | none => c

/-- A fragment that another follows has left (R182): it counts in MM_FRAG_TX, and a frame pre-empted under R147 once in
PREEMPTIONS. -/
def Chip.countCut (c : Chip) (p : Nat) (w : Wire) : Chip :=
  (if w.preCnt = 1 then c.count 64 .TIDE_CNT_PREEMPTIONS p else c).count 64 .PORT_CNT_MM_FRAG_TX p

/-- The wire of port p was busy from `t0` until before `t1`: frames on their way to the Quay whose wire instants lie there
found it so (R153). -/
def Chip.noteBusy (c : Chip) (p t0 t1 : Nat) : Chip :=
  let q := c.quay (p / 8)
  let found (s : Staged) : Bool :=
    let tw := c.wireAt p (s.it.launch.getD 0)
    s.port == p && decide (t0 ≤ tw) && decide (tw < t1)
  c.setQuay (p / 8) { q with transit := q.transit.map fun s => if found s then { s with busy := true } else s }

/-- The frame on a port's wire has ended: it is counted, and one that a bad reception cut short ends with a bad check
sequence (R168, R169); or its fragment has, and its pre-emption is counted (R182). A frame that was charged before its length
was known gets the difference back (R117). `force` takes the row's word that the MAC
can take a frame. -/
def Chip.settle (c : Chip) (p : Nat) (force : Bool) : Chip :=
  match (c.port p).wire with
  | none => c
  | some w =>
    if !w.f.receiving w.more && (force || decide (w.stop ≤ c.fineNow)) then
      let c := (c.setPort p { c.port p with wire := none }).noteBusy p w.start w.stop
      let c := if w.more then c else c.creditBerth w.berth (w.charge - w.f.charge w.ovh)
      if w.more then c.countCut p w
      else if w.bad then (c.count 64 .PORT_CNT_TX_BAD_FCS p).emit (.badFcs p)
      else (c.count 64 .PORT_CNT_TX_FRAMES p).countN 64 .PORT_CNT_TX_BYTES p w.f.len
    else c

/-- Every frame whose end has come leaves its wire. -/
def Chip.settleAll (c : Chip) : Chip := (c.plane.ports.map fun e => e.1).foldl (fun c p => c.settle p false) c

/-- Time passes by one edge of the reference (R52), and the frames whose end it brings leave their wires. -/
def Chip.idle (c : Chip) : Chip := c.edge.settleAll

/-- The MAC can take a frame: the wire is free, or its frame has ended, as far as time moves (R158). -/
def Chip.macFree (c : Chip) (p : Nat) : Bool :=
  match (c.port p).wire with
  | none => true
  | some w => !w.f.receiving w.more && (!c.ticking || decide (w.stop ≤ c.fineNow))

/-- The residence time of a relayed PTP event message added to its correction field, saturating (R68, R69), and the UDP
checksum updated incrementally for it (R70). `at_` is the offset of the PTP header, `sum` that of the UDP checksum. -/
def correctPtp (bytes : Bytes) (at_ : Nat) (sum : Option (Nat × Bool)) (add : Int) : Bytes :=
  let old := beNat (slice bytes (at_ + 8) 8)
  let v := asInt 64 old + add
  let new := if old = 0x7FFFFFFFFFFFFFFF ∨ 0x7FFFFFFFFFFFFFFF < v then 0x7FFFFFFFFFFFFFFF else ofInt 64 v
  let bytes := splice bytes (at_ + 8) (toBE 8 new)
  match sum with
  | none => bytes
  | some (o, zeroStays) =>
    let ck := beNat (slice bytes o 2)
    if ck = 0 && zeroStays then bytes
    else
      -- RFC 1624: the one's complement sum with the old words out and the new words in
      let words (x : Nat) : Nat := x % 65536 + x / 65536 % 65536 + x / 2 ^ 32 % 65536 + x / 2 ^ 48
      let neg (x : Nat) : Nat := (65535 - x % 65536) + (65535 - x / 65536 % 65536) + (65535 - x / 2 ^ 32 % 65536) +
        (65535 - x / 2 ^ 48)
      let t := (65535 - ck) + neg old + words new
      let fold1 := t % 65536 + t / 65536
      let fold2 := fold1 % 65536 + fold1 / 65536
      let ck' := 65535 - fold2
      splice bytes o (toBE 2 (if ck' = 0 then 65535 else ck'))

/-- Where the headers of a frame lie: offsets of the last Ethertype and of what follows it (R90). -/
def etherOff (b : Bytes) : Nat :=
  let tpid (o : Nat) : Bool := let e := beNat (slice b o 2); e == 0x8100 || e == 0x88A8
  let o := if tpid 12 then (if tpid 16 then 20 else 16) else 12
  o

/-- The place of a PTP message's header in a frame, and of its UDP checksum: Ethertype 0x88F7, or UDP destination port
319 over IPv4 or IPv6, behind at most two VLAN tags (R68). -/
def ptpPlace (b : Bytes) (ports : List Nat) : Option (Nat × Option (Nat × Bool)) :=
  let o := etherOff b
  let e := beNat (slice b o 2)
  if e = 0x88F7 then some (o + 2, none)
  else if e = 0x0800 then
    let ihl := 4 * (beNat (slice b (o + 2) 1) % 16)
    if beNat (slice b (o + 11) 1) = 17 ∧ ports.contains (beNat (slice b (o + 2 + ihl + 2) 2)) then
      some (o + 2 + ihl + 8, some (o + 2 + ihl + 6, true))
    else none
  else if e = 0x86DD then
    if beNat (slice b (o + 8) 1) = 17 ∧ ports.contains (beNat (slice b (o + 2 + 40 + 2) 2)) then
      some (o + 2 + 48, some (o + 2 + 46, false))
    else none
  else none

/-- A value placed in a rising list. -/
def insertInt (v : Int) : List Int → List Int
  | [] => [v]
  | x :: r => if v ≤ x then v :: x :: r else x :: insertInt v r

/-- A list of integers in rising order. -/
def sortInt (l : List Int) : List Int := l.foldr insertInt []

/-- The mean of the six left of eight delays when the largest and the smallest are discarded, cut to 2^-16 ns (R71). -/
def trimmed (l : List Int) : Int := (((sortInt l).drop 1).take 6).sum / 6

/-- The instance's profile uses the peer-to-peer delay mechanism (R71, R338). -/
def PtpInst.peer (x : PtpInst) : Bool := leNat (slice x.cfg 1 1) == 1 || leNat (slice x.cfg 1 1) == 2

/-- The mean link delay of a port, as the PTP instance that owns it has filtered it, in units of 2^-16 ns (R68, R71). An
instance with the end-to-end mechanism has none. -/
def Chip.linkDelay (c : Chip) (p : Nat) : Option Int :=
  match kFind c.time.inst (c.fld .TIME_PORT_CFG_INST p) with
  | some x => if x.peer then (kFind x.links p).map trimmed else none
  | none => none

/-- What the egress MAC puts on the wire (R68, R69, R70): at the wire instant tw of port p. -/
def Chip.macBytes (c : Chip) (p tw : Nat) (f : Frame) : Bytes :=
  match f.inPort with
  | none => f.bytes
  | some i =>
    if !f.ptp || !c.is .TIME_PORT_CFG_RTC_EN p then f.bytes
    else match ptpPlace f.bytes [319] with
      | none => f.bytes
      | some (o, sum) =>
        let ty := beNat (slice f.bytes o 1) % 16
        if ty > 3 then f.bytes
        else
          let res : Int := ((tw + c.wireTime p 8) / 200 : Nat) - (f.ts : Int)
          let link : Int := if ty = 0 && c.is .TIME_PORT_CFG_P2P_ADD_LINK p then (c.linkDelay i).getD 0 else 0
          correctPtp f.bytes o sum (res + link)

/-- The bytes of a fragment's data that end, with the 4-byte mCRC and the overhead as R146 counts it, no later than a
limit, at a legal boundary (R147, R180): at least f_min - 4, and at least 64 bytes of the frame remain. -/
def Chip.cutAt (c : Chip) (p tw len sent limit : Nat) : Nat :=
  let room := (limit - tw) / max 1 (c.wireTime p 1) - (4 + c.ovh p)
  max (c.fMin p - 4) (min room (len - sent - 64))

/-- A frame starts on the wire at tw (R146, R147, R168, R169). The remainder of one whose reception failed goes out whatever
its length, to end with a bad check sequence (R168). -/
def Chip.startWire (c : Chip) (p : Nat) (f : Frame) (b tc charge ovh tw sent : Nat) (bad counted : Bool) (fit : Fit) :
    Chip :=
  if !bad && f.elen.isSome && decide (c.fld .PORT_CFG_MAX_FRAME p < f.len) then c.count 64 .PORT_CNT_TX_OVERSIZE p
  else
    let pre := (c.preClass p tc && c.mmActive p) || sent != 0
    let f := if sent = 0 then { f with bytes := c.macBytes p tw f } else f
    let c := if sent = 0 then c.emit (.frame p tw f.bytes) else c
    match fit with
    | .cut limit =>
      let k := c.cutAt p tw f.len sent limit
      c.setPort p { c.port p with
        wire := some ⟨f, b, tc, charge, ovh, tw, tw + c.wireTime p (k + 24), bad, pre, sent, true, if counted then 2 else 1⟩,
        part := some ⟨f, b, tc, charge, ovh, bad, sent + k, true⟩ }
    | _ => c.setPort p { c.port p with
        wire := some ⟨f, b, tc, charge, ovh, tw, tw + c.wireTime p (f.len - sent + 20), bad, pre, sent, false,
          if counted then 2 else 0⟩ }

/-! ### Selection (R114) -/

/-- The head of a timed Berth whose launch time has passed meets R116 when the scheduler considers it: dropped, or
marked late and eligible at once. A Berth of weight 0 keeps its frames (R121). -/
def Chip.lateHeads (c : Chip) (b : Nat) : Chip :=
  let x := c.berth b
  let rec go (q : List Item) (c : Chip) : List Item × Chip :=
    match q with
    | [] => ([], c)
    | i :: r =>
      match i.launch with
      | none => (i :: r, c)
      | some l =>
        if c.now < l || i.late then (i :: r, c)
        else if c.sendNow b i.f then ({ i with late := true } :: r, c.bLate b)
        else go r ((c.bLate b).bDrop b)
  if x.weight = 0 then c
  else
    let (q, c) := go x.queue c
    c.setBerth b { c.berth b with queue := q }

/-- The charge of a selected frame leaves its Berth (R117, R122), and a hand-over copy keeps it in mind (R128). -/
def Chip.chargeBerth (c : Chip) (b charge : Nat) : Chip :=
  let c := c.setBerth b (((c.berth b).accrue c.now).pay charge)
  let p := c.bPort b
  match (c.port p).hand with
  | some h => c.setPort p { c.port p with hand := some { h with charges := h.charges ++ [(b, (charge : Int))] } }
  | none => c

/-- A Berth's head is selected (R114, R118): counted in SENT, dequeued and charged. -/
def Chip.takeHead (c : Chip) (b charge : Nat) : Chip :=
  let x := c.berth b
  let c := c.setF .SCHD_BERTH_CNT_SENT b ((c.fld .SCHD_BERTH_CNT_SENT b + 1) % 2 ^ 32)
  (c.setBerth b { x with queue := x.queue.drop 1 }).chargeBerth b charge

/-- A frame may start to leave port p: it is stored whole, or cut-through applies (R23); and the duo lets it (R377). -/
def Chip.mayLeave (c : Chip) (p : Nat) (f : Frame) : Bool :=
  !c.waits f && (f.rx.isNone || match f.inPort with
    | some i => decide (c.lanes p ≤ c.lanes i)
    | none => true)

/-- A candidate of one selection. -/
inductive Cand where
  /-- The head of a timed Berth: it goes towards the Quay. -/
  | timed (b : Nat)
  /-- The head of a fair Berth. -/
  | fair (b : Nat) (fit : Fit)
  /-- The remainder of a pre-empted frame (R147). -/
  | rest (fit : Fit)
  deriving DecidableEq, Repr

/-- The head of a timed Berth as a candidate (R114): its launch time, its number and how it goes. A head late under
SEND_NOW is eligible at once (R116): the Quay hands it back as R153 says, and its gate and its fit are judged when it goes
out (R154). -/
def Chip.timedCand (c : Chip) (p tc b : Nat) : Option (Nat × Nat × Cand) :=
  let x := (c.berth b).accrue c.now
  match x.queue with
  | [] => none
  | i :: _ =>
    let ch := i.f.charge (c.ovh p)
    let l := i.launch.getD 0
    if x.weight = 0 || !x.inCredit || decide (c.now + c.lead (p / 8) < l) || !c.mayLeave p i.f then none
    else if i.late then some (l, b, .timed b)
    else
      let at_ := c.wireAt p l
      if c.gateOpen p tc at_ && (c.fits p tc i.f.len ch at_ (some b)).ok &&
          decide (c.quayBytes (p / 8) + i.f.size ≤ quayRoom) then some (l, b, .timed b) else none

/-- The head of a fair Berth as a candidate (R114): hold keeps a pre-emptable frame from starting (R151), and none starts
before a part-sent one's remainder (R148, R182). -/
def Chip.fairCand (c : Chip) (p tc tw : Nat) (b : Nat) : Option (Nat × Cand) :=
  let x := (c.berth b).accrue c.now
  match x.queue with
  | [] => none
  | i :: _ =>
    let fit := c.fits p tc i.f.len (i.f.charge (c.ovh p)) tw none
    let pre := c.preClass p tc
    let barred := pre && ((c.port p).part.isSome || (c.is .TIDE_STATUS_HOLD p && c.mmActive p))
    if x.weight = 0 || !x.inRace || !x.inCredit || !c.mayLeave p i.f || barred || !c.gateOpen p tc tw || !fit.ok then none
    else some (b, .fair b fit)

/-- The least element by (launch, number). -/
def leastTimed (l : List (Nat × Nat × Cand)) : Option Cand :=
  (l.foldl (fun (a : Option (Nat × Nat × Cand)) x => match a with
    | none => some x
    | some y => if x.1 < y.1 ∨ (x.1 = y.1 ∧ x.2.1 < y.2.1) then some x else some y) none).map fun x => x.2.2

/-- The first by finish tag, then number (R114, R118). -/
def Chip.leastFair (c : Chip) (l : List (Nat × Cand)) : Option Cand :=
  (l.foldl (fun (a : Option (Nat × Cand)) x => match a with
    | none => some x
    | some y =>
      let fx := (c.berth x.1).finish
      let fy := (c.berth y.1).finish
      if before fx fy || (fx == fy && decide (x.1 < y.1)) then some x else some y) none).map fun x => x.2

/-- The candidate of one class (R114). -/
def Chip.classCand (c : Chip) (p tc tw : Nat) (wire timedOnly : Bool) : Option Cand :=
  let bs := (c.berthsOf p).filter fun b => c.bTc b == tc
  let rest : Option Cand := match (c.port p).part with
    | some r =>
      let fit := c.fits p tc (r.f.len - r.sent) (r.f.len - r.sent + c.ovh p) tw none
      if wire && !timedOnly && r.tc == tc && c.gateOpen p tc tw && !c.is .TIDE_STATUS_HOLD p && fit.ok then
        some (.rest fit) else none
    | none => none
  match leastTimed ((bs.filter c.bTimed).filterMap fun b => c.timedCand p tc b) with
  | some x => some x
  | none => match rest with
    | some x => some x
    | none => if wire && !timedOnly then
        c.leastFair ((bs.filter fun b => !c.bTimed b).filterMap fun b => c.fairCand p tc tw b) else none

/-- The candidate of a selection among some classes, highest first (R114). -/
def Chip.pick (c : Chip) (p tw : Nat) (wire timedOnly : Bool) (classes : List Nat) : Option (Nat × Cand) :=
  classes.foldl (fun a tc => match a with
    | some x => some x
    | none => (c.classCand p tc tw wire timedOnly).map fun x => (tc, x)) none

/-- A candidate is taken (R114, R117, R118, R154). -/
def Chip.take (c : Chip) (p tw tc : Nat) (k : Cand) : Chip :=
  match k with
  | .timed b =>
    match (c.berth b).queue with
    | [] => c
    | i :: _ =>
      let ch := i.f.charge (c.ovh p)
      let q := c.quay (p / 8)
      (c.setQuay (p / 8) { q with transit := q.transit ++ [⟨i, b, p, tc, ch, c.ovh p, false⟩] }).takeHead b ch
  | .fair b fit =>
    match (c.berth b).queue with
    | [] => c
    | i :: _ =>
      let ch := i.f.charge (c.ovh p)
      let fin := (c.berth b).finish
      let c := ((c.setVt p tc fin).takeHead b ch).startWire p i.f b tc ch (c.ovh p) tw 0 false false fit
      let x := c.berth b
      let c := c.setBerth b (match x.queue with
        | [] => x
        | h :: _ => { x with finish := (fin + cost (h.f.charge (c.ovh p)) (max 1 x.weight)) % 2 ^ 32 })
      c.race b
  | .rest fit =>
    match (c.port p).part with
    | none => c
    | some r => (c.setPort p { c.port p with part := none }).startWire p r.f r.berth tc r.charge r.ovh tw r.sent
        r.bad r.counted fit

/-- How a late frame may go out at tw (R154): its gate is open, hold permits it and it fits; nothing where it may not. -/
def Chip.lateFit (c : Chip) (p tw : Nat) (express : Bool) (s : Staged) : Option (Staged × Fit) :=
  let fit := c.fits p s.tc s.it.f.len s.charge tw none
  let pre := c.preClass p s.tc
  let barred := pre && (express || (c.port p).part.isSome || (c.is .TIDE_STATUS_HOLD p && c.mmActive p))
  if c.gateOpen p s.tc tw && fit.ok && !barred then some (s, fit) else none

/-- Of a port's late frames that may go out at tw, the first by launch time and Berth (R154). -/
def Chip.lateCand (c : Chip) (p tw : Nat) (express : Bool) : Option (Staged × Fit) :=
  ((c.port p).late.filterMap (c.lateFit p tw express)).foldl (fun (a : Option (Staged × Fit)) s => match a with
    | none => some s
    | some y => if s.1.it.launch.getD 0 < y.1.it.launch.getD 0 ∨
        (s.1.it.launch = y.1.it.launch ∧ s.1.berth < y.1.berth) then some s else some y) none

/-- A late frame goes out (R154). -/
def Chip.takeLate (c : Chip) (p tw : Nat) (s : Staged) (fit : Fit) : Chip :=
  (c.setPort p { c.port p with late := (c.port p).late.filter fun x => x != s }).startWire p s.it.f s.berth s.tc
    s.charge s.ovh tw 0 false false fit

/-- The express classes of a port. -/
def Chip.express (c : Chip) (p : Nat) : List Nat := [7, 6, 5, 4, 3, 2, 1, 0].filter fun tc => !c.preClass p tc

/-- Where the pre-emptable frame on the wire can be pre-empted now (R180, R181): at least f_min + 64 bytes of it are left at
its fragment's start, and 64 at the cut; the bytes of its fragment, and the instant from which the wire is free. A fragment
that is to be cut at a later instant already (R147) can be cut earlier. -/
def Chip.cutNow (c : Chip) (p : Nat) : Option (Wire × Nat × Nat) :=
  match (c.port p).wire with
  | none => none
  | some w =>
    let k := max (c.fMin p - 4) ((c.fineNow - w.start) / max 1 (c.wireTime p 1) - 8)
    let stop := w.start + c.wireTime p (k + 24)
    if w.pre && (!w.more || decide (stop < w.stop)) && decide (c.fMin p + 64 ≤ w.f.len - w.sent) &&
        decide (w.sent + k + 64 ≤ w.f.len) then some (w, k, stop) else none

/-- The frame on the wire is pre-empted (R147, R182). -/
def Chip.cutWire (c : Chip) (p : Nat) (w : Wire) (k stop : Nat) : Chip :=
  c.setPort p { c.port p with wire := some { w with stop := stop, more := true },
                              part := some ⟨w.f, w.berth, w.tc, w.charge, w.ovh, w.bad, w.sent + k,
                                w.preCnt != 0⟩ }

/-- The frame on the wire is pre-empted and the wire goes to another frame at once: the fragment is counted (R182). -/
def Chip.yield (c : Chip) (p : Nat) (w : Wire) (k stop : Nat) : Chip :=
  let c := c.cutWire p w k stop
  ((c.setPort p { c.port p with wire := none }).noteBusy p w.start stop).countCut p w

/-- SCHEDULER_SELECTION (R114): late frames first (R154), then the classes in order; a pre-emptable frame on the wire
yields to an express one at its next legal boundary (R181). While the port is down nothing is selected, and timed heads
whose launch times have passed meet R116 (R174). -/
def Chip.schedule (c : Chip) (p : Nat) : Chip :=
  if !c.portValid p then c
  else
    let c := (c.berthsOf p).foldl Chip.lateHeads c
    if !c.linkUp p then c
    else if c.macFree p then
      let c := c.settle p true
      let tw := c.fineNow
      match c.lateCand p tw false with
      | some (s, fit) => c.takeLate p tw s fit
      | none => match c.pick p tw true false [7, 6, 5, 4, 3, 2, 1, 0] with
        | some (tc, k) => c.take p tw tc k
        | none => c
    else match c.cutNow p with
      | some (w, k, tw) =>
        let ex := c.express p
        match c.lateCand p tw true with
        | some (s, fit) => (c.yield p w k tw).takeLate p tw s fit
        | none => match c.pick p tw true false ex with
          | some (tc, .timed b) => c.take p tw tc (.timed b)
          | some (tc, x) => (c.yield p w k tw).take p tw tc x
          | none => c
      | none => match c.pick p c.fineNow false true [7, 6, 5, 4, 3, 2, 1, 0] with
        | some (tc, k) => c.take p c.fineNow tc k
        | none => c

def execSchedulerSelection (p : Nat) (s : State) : Host.Outcome State Fault Refusal :=
  onChip (fun c => c.core fun c => c.schedule p) s

/-- HAND_OFF_TIME (R114, R25, R377): a due timed head goes towards its Quay. -/
def Chip.handOff (c : Chip) (p : Nat) : Chip :=
  if !c.portValid p then c
  else
    let c := (c.berthsOf p).foldl Chip.lateHeads c
    if !c.linkUp p then c
    else match c.pick p c.fineNow false true [7, 6, 5, 4, 3, 2, 1, 0] with
    | some (tc, k) => c.take p c.fineNow tc k
    | none => c

def execHandOffTime (p : Nat) (s : State) : Host.Outcome State Fault Refusal :=
  onChip (fun c => c.core fun c => c.handOff p) s

/-- SHAPER_CREDIT_RETURN (R119): the balance has returned to zero and the Berth re-enters the race. -/
def Chip.creditReturn (c : Chip) (b : Nat) : Chip := (c.setBerth b ((c.berth b).accrue c.now)).race b

def execShaperCreditReturn (b : Nat) (s : State) : Host.Outcome State Fault Refusal :=
  onChip (fun c => c.core fun c => if c.bValid b then c.creditReturn b else c) s

/-! ### Assignment and registers (R111-R113, R132) -/

/-- A DMA descriptor word list that names a Berth for FRAME_TX (R285). -/
def txBerth (words : List Nat) : Option Nat :=
  let w := words.getD 0 0
  if w % 16 = 3 then some (bits w 31 16) else none

/-- A Berth is named by an egress list, a FRAME-mode ring, a Breakwater release or a running replay (R112, R233). -/
def Chip.referenced (c : Chip) (b : Nat) : Bool :=
  (c.strm.handles.any fun e => e.2.valid && (List.range e.2.egrLen).any fun k =>
    bits (kGet 0 c.strm.pool (e.2.egrBase + k)) 15 0 == b) ||
  (c.dma.ch.any fun e => (e.2.fetched.any fun d => txBerth d.2 == some b) ||
    (match e.2.cur with | some d => txBerth d.words == some b | none => false) ||
    match e.2.held with | some w => w.berth == some b | none => false) ||
  (c.stor.cursors.any fun e => e.2.state == 1 && e.2.berth == b)

/-- A dropped SCHD write (R113). -/
def Chip.schdBad (c : Chip) (off : Nat) : Chip := c.report 0x4010 0x302 off

/-- The fields of SCHD_BERTH_CFG stored. -/
def Chip.applyBerthCfg (c : Chip) (b data : Nat) : Chip := c.writeFields (regFields .SCHD .SCHD_BERTH_CFG) b data

/-- The shadow set of a Berth (R126). -/
def Chip.shadow (c : Chip) (b : Nat) : ShadowSet :=
  (c.fld .SCHD_BERTH_CFG_WEIGHT b, c.is .SCHD_BERTH_CFG_SHAPER_EN b, c.fld .SCHD_BERTH_SHAPER_RATE b,
    c.fld .SCHD_BERTH_SHAPER_BURST b)

/-- A Berth is assigned (R111): the written values take effect at once and the balance starts at BURST. -/
def Chip.assignBerth (c : Chip) (b : Nat) : Chip :=
  let (w, en, rate, burst) := c.shadow b
  c.setBerth b { BerthS.init with weight := w, shaper := en, rate := rate, burst := burst,
                                  bal := if en then (burst : Int) * byteBal else 0, tLast := c.now }

/-- A Berth is released (R112): its queued frames are discarded and counted. -/
def Chip.releaseBerth (c : Chip) (b : Nat) : Chip :=
  let n := (c.berth b).queue.length
  (c.countN 16 .SCHD_BERTH_CNT_DROPPED b n).setBerth b BerthS.init

/-- A write of SCHD_BERTH_CFG (R111, R112, R113). -/
def Chip.wrBerthCfg (c : Chip) (b data : Nat) : Chip :=
  let off := 0x800000 + 0x20 * b
  let v := data.testBit 63
  if !c.bValid b then
    if !v then c.applyBerthCfg b data
    else if !c.portValid (bits data 55 48) then c.schdBad off
    else (c.applyBerthCfg b data).assignBerth b
  else if !v then
    if c.referenced b then c.schdBad off else (c.releaseBerth b).applyBerthCfg b data
  else if bits data 55 48 != c.bPort b || bits data 59 57 != c.bTc b || data.testBit 62 != c.bTimed b then c.schdBad off
  else c.applyBerthCfg b data

/-- A write of SCHD_BERTH_SHAPER (R113, R132). -/
def Chip.wrBerthShaper (c : Chip) (b data : Nat) : Chip :=
  if bits data 56 32 > 16777216 then c.schdBad (0x800008 + 0x20 * b)
  else c.writeFields (regFields .SCHD .SCHD_BERTH_SHAPER) b data

/-- The charges and credits of a Berth since an instant (R128, R130). -/
def Chip.spentSince (c : Chip) (b : Nat) (t : Int) : List (Nat × Int) :=
  ((c.berth b).spent.filter fun e => decide (t < e.1)).map fun e => (b, e.2)

/-- A hand-over of a port starts at an instant, or joins the one that is copying (R127, R128). One that the log names
(R130) may lie in the past: the balances are those of its instant, and the charges since are kept in mind. -/
def Chip.handStartAt (c : Chip) (p t : Nat) : Chip :=
  if (c.port p).hand.isSome then c
  else
    let past := decide (t < c.now)
    let bals := (c.berthsOf p).map fun b => (b, if past then (c.berth b).balAt t else ((c.berth b).accrue t).bal)
    let sets := (c.berthsOf p).map fun b => (b, c.shadow b)
    (c.setPort p { c.port p with hand := some ⟨t, bals, sets, c.fld .TIDE_PORT_CFG_OVERHEAD p,
                                   if past then (c.berthsOf p).flatMap (fun b => c.spentSince b t) else [], [], []⟩,
                                 handAt := some t }).duoLog (.handover p (packTime t))


/-- A hand-over of a port starts now (R127). -/
def Chip.handStart (c : Chip) (p : Nat) : Chip := c.handStartAt p c.now

/-- A Berth of a port in hand-over copy, for a write that must wait (R129). -/
def Chip.copyingOf (c : Chip) (b : Nat) : Option Nat :=
  if c.bValid b && (c.port (c.bPort b)).hand.isSome then some (c.bPort b) else none

/-- What holds an access: a port's hand-over copy (R129), or, numbered after the ports, the copy of a quadrant's replica
(R405). -/
def replicaHold : Nat := 256

/-- A quadrant's replica is being copied: STRM writes wait (R405). -/
def Chip.replicaCopy (c : Chip) : Bool := c.pwr.copying != 0

/-- An access held by a hand-over copy (R129), or by the copy of a replica (R405). -/
def Chip.holdAcc (c : Chip) (p : Nat) (a : HeldAcc) : Chip :=
  if p = replicaHold then { c with pwr := { c.pwr with held := c.pwr.held ++ [a] } }
  else match (c.port p).hand with
    | some h => c.setPort p { c.port p with hand := some { h with held := h.held ++ [a] } }
    | none => c

/-- A STRM write by a path: it waits while a replica is being copied (R405). -/
def Chip.strmWrite (c : Chip) (a : HeldAcc) (f : Chip → Chip) : Chip :=
  if c.replicaCopy then c.holdAcc replicaHold a else f c

/-- A write of SCHD_BERTH_STATE (R113, R127, R132). -/
def Chip.wrBerthState (c : Chip) (b data : Nat) : Chip :=
  if data.testBit 58 && !c.bValid b then c.schdBad (0x800010 + 0x20 * b)
  else
    let c := c.writeFields (regFields .SCHD .SCHD_BERTH_STATE) b data
    if data.testBit 58 then c.handStart (c.bPort b) else c

/-- A write by a path of a register that a hand-over copy of the Berth's port may hold (R129). -/
def Chip.berthAcc (c : Chip) (src : Src) (b off data : Nat) (f : Chip → Chip) : Chip :=
  match c.copyingOf b with
  | some p => c.holdAcc p (.write (src == .host) off false data)
  | none => f c

/-- HANDOVER (R127). -/
def execHandover (src : Src) (b data : Nat) (s : State) : Host.Outcome State Fault Refusal :=
  onChip (fun c => c.gated src .SCHD (0x800010 + 0x20 * b) fun c =>
    if b < 65536 then c.wrBerthState b (data % 2 ^ 58 + 2 ^ 58 + data / 2 ^ 59 * 2 ^ 59) else c) s

/-- SCHD_BERTH_CFG_WRITE (R111, R112, R113, R129). -/
def execSchdBerthCfgWrite (src : Src) (b data : Nat) (s : State) : Host.Outcome State Fault Refusal :=
  onChip (fun c => c.gated src .SCHD (0x800000 + 0x20 * b) fun c =>
    if b < 65536 then c.berthAcc src b (0x800000 + 0x20 * b) data fun c => c.wrBerthCfg b data else c) s

/-- SCHD_BERTH_SHAPER_WRITE (R113, R126, R129). -/
def execSchdBerthShaperWrite (src : Src) (b data : Nat) (s : State) : Host.Outcome State Fault Refusal :=
  onChip (fun c => c.gated src .SCHD (0x800008 + 0x20 * b) fun c =>
    if b < 65536 then c.berthAcc src b (0x800008 + 0x20 * b) data fun c => c.wrBerthShaper b data else c) s

/-- One Berth at the end of a hand-over copy (R124, R125, R128): the new set takes effect as of the instant the hand-over
started; the balance then is accrued at the new rate, less the charges since, and clamped to the new burst. -/
def Chip.handBerth (c : Chip) (h : HandS) (b : Nat) : Chip :=
  let x := c.berth b
  let (w, en, rate, burst) := ((h.sets.find? fun e => e.1 == b).map fun e => e.2).getD (c.shadow b)
  let bal0 := ((h.bals.find? fun e => e.1 == b).map fun e => e.2).getD x.bal
  let paid := ((h.charges.filter fun e => e.1 == b).map fun e => e.2).sum
  let from_ : Int := if !en then 0 else if x.shaper then bal0 else (burst : Int) * byteBal
  let bal : Int :=
    if !en then 0
    else
      let v := from_ + credit rate (max 0 ((c.now : Int) - h.at_)) - paid * byteBal
      if 0 < v then min v ((burst : Int) * byteBal) else v
  (c.setBerth b { x with weight := w, shaper := en, rate := rate, burst := burst, bal := bal, tLast := c.now,
                         trail := [(h.at_, from_)] }).race b

/-- The exchange of a hand-over ends (R128). -/
def Chip.handEnd (c : Chip) (p : Nat) : List HeldAcc × Chip :=
  match (c.port p).hand with
  | none => ([], c)
  | some h =>
    let bs := (c.berthsOf p).filter fun b => h.sets.any fun e => e.1 == b
    let c := bs.foldl (fun c b => c.handBerth h b) (c.setOver p h.ovh)
    (h.held, c.setPort p { c.port p with hand := none })

/-- A hand-over that the log names (R130). One that the standby has begun by itself at that instant, with a switch, is the
same hand-over. Where the copy of an earlier one has not ended here, as on the active unit it had, it ends first, and the
accesses that it holds wait for the new copy. -/
def Chip.handLogged (c : Chip) (p t : Nat) : Chip :=
  if (c.port p).handAt == some t then c
  else match (c.port p).hand with
    | none => c.handStartAt p t
    | some h =>
      let (held, c) := c.handEnd p
      let c := c.handStartAt p t
      match (c.port p).hand with
      | some k => c.setPort p { c.port p with hand := some { k with held := held, done := h.done } }
      | none => c

/-- A held access is one of Fened. -/
def HeldAcc.ofFened : HeldAcc → Bool
  | .slot _ => true
  | .timed _ => true
  | .command _ => true
  | _ => false

/-- A held access is a posted write of the host driver. -/
def HeldAcc.hostWrite : HeldAcc → Bool
  | .write host _ _ _ => host
  | .gateOp host _ _ _ => host
  | _ => false

/-- The copy that holds an earlier posted write of the host driver: a read of BAR0/1 or BAR2/3 waits for it (R254). -/
def Chip.hostWriteHeld (c : Chip) : Option Nat :=
  if c.pwr.held.any HeldAcc.hostWrite then some replicaHold
  else (c.plane.ports.find? fun e => match e.2.hand with
    | some h => h.held.any HeldAcc.hostWrite
    | none => false).map fun e => e.1

/-- What becomes of a held access when the mailbox closes (R265): an accepted command is carried out, though nothing takes
its response; a read of the host has nobody left that waits for it. -/
def HeldAcc.closed (c : Chip) : HeldAcc → Option HeldAcc
  | .slot i => some (.command (c.mbx.slots.getD i Slot.init).buf)
  | .read true _ _ => none
  | .aper _ _ => none
  | a => some a

/-- Every held access as `f` leaves it. -/
def Chip.mapHeld (c : Chip) (f : HeldAcc → Option HeldAcc) : Chip :=
  let ports : KMap PortS := c.plane.ports.map fun e =>
    (e.1, { e.2 with hand := e.2.hand.map fun h => { h with held := h.held.filterMap f } })
  { c with pwr := { c.pwr with held := c.pwr.held.filterMap f }, plane := { c.plane with ports := ports } }

/-- A command of Fened waits for a copy (R129, R405): Fened's core stands still until it ends. -/
def Chip.fenedHeld (c : Chip) : Bool :=
  c.pwr.held.any HeldAcc.ofFened || c.plane.ports.any fun e => match e.2.hand with
    | some h => h.held.any HeldAcc.ofFened
    | none => false

end Sys2Proof.Machine
end

