-- ==== Sys2Proof/Machine/Tide.lean ====
section
/-!
DEFINITION. Machine/Tide.lean: commits, switches, gate and hold events of the Tide Tables, and the Quays
(06_tide_tables_and_launch.md).
-/
namespace Sys2Proof.Machine

/-! ### Commit, cancel and stop (R135-R141) -/

/-- A dropped TIDE write (R139, R141, R160). -/
def Chip.tideBad (c : Chip) (p off : Nat) : Chip := c.report (0x5000 + p) 0x303 off

/-- The offset of a port's TIDE block. -/
def tideOff (p : Nat) : Nat := 0x400000 + 0x4000 * p

/-- The administrative bank is locked (R139, R140). -/
def Chip.tideLocked (c : Chip) (p : Nat) : Bool := (c.tide p).pend.isSome || (c.tide p).copying

/-- The administrative base time and cycle. -/
def Chip.adminBase (c : Chip) (p : Nat) : Nat :=
  c.fld .TIDE_ADMIN_BASE_BASE p + c.fld .TIDE_ADMIN_BASE_HI_BASE_HI p * 2 ^ 64
def Chip.adminCycle (c : Chip) (p : Nat) : Nat :=
  cycleT (c.fld .TIDE_ADMIN_CYCLE_CYCLE_NS p) (c.fld .TIDE_ADMIN_CYCLE_CYCLE_FRAC p)
def Chip.adminCycleReg (c : Chip) (p : Nat) : Nat :=
  c.fld .TIDE_ADMIN_CYCLE_CYCLE_NS p + c.fld .TIDE_ADMIN_CYCLE_CYCLE_FRAC p * 2 ^ 32 +
    c.fld .TIDE_ADMIN_CYCLE_COUNT p * 2 ^ 40
/-- The counted entries of the administrative bank. -/
def Chip.adminEntries (c : Chip) (p : Nat) : List Nat :=
  (List.range (c.fld .TIDE_ADMIN_CYCLE_COUNT p)).map fun k => kGet 0 (c.tide p).admin k

/-- The check of a commit (R137), in the order of its result codes: 0 OK, 1 COUNT, 2 CYCLE, 3 BASE, 4 OP. -/
def Chip.tideCheck (c : Chip) (p : Nat) : Nat :=
  if c.fld .TIDE_ADMIN_CYCLE_COUNT p > 1024 then 1
  else if c.adminCycle p < nsT 1000 ∨ nsT 4294967295 < c.adminCycle p then 2
  else if !timeOk (c.adminBase p) then 3
  else if (c.adminEntries p).any fun w => decide (2 < entOp w) then 4
  else 0

/-- A 96-bit time shown in a pair of registers. -/
def Chip.showTime (c : Chip) (lo hi : Fld) (i t : Nat) : Chip :=
  (c.setF lo i (packTime t % 2 ^ 64)).setF hi i (packTime t / 2 ^ 64)

/-- A commit at acceptance time A (R137, R138); `start` gives S where a step log fixes it (R144). -/
def Chip.tideCommitAt (c : Chip) (p accept : Nat) (start : Option Nat) : Chip :=
  let code := c.tideCheck p
  if code ≠ 0 then
    (((c.setF .TIDE_STATUS_COMMIT_RESULT p code).setB .TIDE_STATUS_FAIL_SEEN p true).count 32
      .TIDE_CNT_COMMIT_FAILS p).tideBad p (tideOff p)
  else
    let s := start.getD (commitStart (unpackTime (c.adminBase p)) (c.adminCycle p) accept (nsT 4000))
    let l : TideList := ⟨c.adminEntries p, s, c.adminCycle p, c.adminBase p, c.adminCycleReg p⟩
    let c := c.setTide p { c.tide p with pend := some l }
    let c := ((c.setF .TIDE_STATUS_COMMIT_RESULT p 0).setB .TIDE_STATUS_PENDING p true).setB .TIDE_STATUS_LOCKED p true
    (c.showTime .TIDE_PEND_START_START .TIDE_PEND_START_HI_START_HI p s).duoLog
      (.tide p 0 (packTime accept) (packTime s))

def Chip.tideCommit (c : Chip) (p : Nat) : Chip := c.tideCommitAt p c.now none

/-- CANCEL (R139): the pending state ends at once. -/
def Chip.tideCancel (c : Chip) (p : Nat) : Chip :=
  if (c.tide p).pend.isNone then c
  else
    let c := c.setTide p { c.tide p with pend := none }
    ((c.setB .TIDE_STATUS_PENDING p false).setB .TIDE_STATUS_LOCKED p (c.tide p).copying).duoLog
      (.tide p 1 (packTime c.now) 0)

/-- The gates follow `g` at instant t. A frame still on the wire when its gate closes is counted and completes (R150); the
gap behind it is no part of it. -/
def Chip.setGates (c : Chip) (p g t : Nat) : Chip :=
  let old := c.fld .TIDE_STATUS_GATES p
  let c := c.setF .TIDE_STATUS_GATES p g
  match (c.port p).wire with
  | some w => if decide (fine t + c.wireTime p 12 < w.stop) && old.testBit w.tc && !g.testBit w.tc then
      c.count 64 .TIDE_CNT_TX_OVERRUN p else c
  | none => c

/-- Hold is released (R136, R151). -/
def Chip.dropHold (c : Chip) (p : Nat) : Chip := (c.setB .TIDE_STATUS_HOLD p false).setB .PORT_MM_STATUS_HOLD p false

/-- Hold asserted or released (R151); without an active MAC merge sublayer it stays as it is (R152). A pre-emptable frame
on the wire is pre-empted at its next legal boundary. -/
def Chip.setHold (c : Chip) (p : Nat) (h : Bool) : Chip :=
  if !c.mmActive p then c
  else if !h then c.dropHold p
  else if c.is .TIDE_STATUS_HOLD p then c
  else
    let c := ((c.setB .TIDE_STATUS_HOLD p true).setB .PORT_MM_STATUS_HOLD p true).count 64 .PORT_CNT_MM_HOLDS p
    match c.cutNow p with
    | some (w, k, stop) => c.cutWire p w k stop
    | none => c

/-- STOP (R141): any pending commit is cancelled, the operational list ends, the gates go idle and hold is released. -/
def Chip.tideStop (c : Chip) (p : Nat) : Chip :=
  let c := c.tideCancel p
  let c := c.setTide p { c.tide p with oper := none }
  let c := (c.setB .TIDE_STATUS_OPER p false).setGates p (c.fld .TIDE_CTRL_IDLE_GATES p) c.now
  (c.dropHold p).duoLog (.tide p 2 (packTime c.now) 0)

/-- The gates of a port with no operational list, or one of no entries, follow IDLE_GATES (R135, R136). -/
def Chip.idleGates (c : Chip) (p : Nat) : Chip :=
  match (c.tide p).oper with
  | none => c.setGates p (c.fld .TIDE_CTRL_IDLE_GATES p) c.now
  | some l => if l.entries = [] then c.setGates p (c.fld .TIDE_CTRL_IDLE_GATES p) c.now else c

/-- A write of TIDE_CTRL (R137, R139, R141). -/
def Chip.wrTideCtrl (c : Chip) (p data : Nat) : Chip :=
  let commit := data.testBit 31
  let cancel := data.testBit 30
  let stop := data.testBit 29
  if bit commit + bit cancel + bit stop > 1 || (commit && c.tideLocked p) then c.tideBad p (tideOff p)
  else
    let c := ((c.setF .TIDE_CTRL_PREEMPT_MASK p (bits data 15 8)).setF .TIDE_CTRL_IDLE_GATES p
      (bits data 7 0)).idleGates p
    if commit then c.tideCommit p else if cancel then c.tideCancel p else if stop then c.tideStop p else c

/-- A TIDE_CTRL access by a path (R5, R451). -/
def Chip.tideCtrl (c : Chip) (src : Src) (p data : Nat) : Chip :=
  c.gatedIn src (c.portDark p) .TIDE (tideOff p) fun c => c.wrTideCtrl p data

/-- The word that a TIDE_CTRL row writes: its action bit, and the written word's other bits. -/
def tideWord (action data : Nat) : Nat := data ||| action * 2 ^ 29

/-- TIDE_CTRL_COMMIT (R137). -/
def execTideCtrlCommit (src : Src) (p data : Nat) (s : State) : Host.Outcome State Fault Refusal :=
  onChip (fun c => c.tideCtrl src p (tideWord 4 data)) s

/-- TIDE_CTRL_CANCEL (R139). -/
def execTideCtrlCancel (src : Src) (p data : Nat) (s : State) : Host.Outcome State Fault Refusal :=
  onChip (fun c => c.tideCtrl src p (tideWord 2 data)) s

/-- TIDE_CTRL_STOP (R141). -/
def execTideCtrlStop (src : Src) (p data : Nat) (s : State) : Host.Outcome State Fault Refusal :=
  onChip (fun c => c.tideCtrl src p (tideWord 1 data)) s

/-- A write of an administrative register or entry (R139): dropped and reported while locked. -/
def Chip.wrTideAdmin (c : Chip) (p off : Nat) (f : Chip → Chip) : Chip :=
  if c.tideLocked p then c.tideBad p off else f c

/-- The administrative entry of instance i of TIDE_ADMIN_ENTRY (R160). -/
def Chip.adminEntry (c : Chip) (i : Nat) : Nat := kGet 0 (c.tide (i / 1024)).admin (i % 1024)

/-- A write of an administrative entry (R133, R160): reserved bits read as zero. -/
def Chip.setAdmin (c : Chip) (p k w : Nat) : Chip :=
  let w := bits w 31 0 + bits w 39 32 * 2 ^ 32 + bits w 55 48 * 2 ^ 48 + bits w 63 61 * 2 ^ 61
  c.setTide p { c.tide p with admin := kPut 0 (c.tide p).admin k w }

/-- A write of TIDE_PORT_CFG (R126, R129, R151). -/
def Chip.wrTidePort (c : Chip) (p data : Nat) : Chip := c.writeFields (regFields .TIDE .TIDE_PORT_CFG) p data

/-! ### Events (R134, R140, R142, R143, R151) -/

/-- Instants are reached when the voted time has come within one reference edge of them. -/
def Chip.reached (c : Chip) (t : Nat) : Bool := decide (t ≤ c.now + c.incr / 65536)

/-- The entries that start after `t0` and no later than `t1`, with their instants, in order: those of the cycle's length that
ends at `t1` (R142). -/
def TideList.startsIn (l : TideList) (t0 : Int) (t1 : Nat) : List (Int × Nat) :=
  let c0 : Int := (t1 : Int) - l.pos t1
  let cyc (t : Int) : List (Int × Nat) := l.starts.map fun e => (t + e.1, e.2)
  (cyc (c0 - l.cycle) ++ cyc c0).filter fun e => decide (t0 < e.1) && decide ((t1 : Int) - l.cycle < e.1) &&
    decide (e.1 ≤ t1)

/-- An entry's operation on hold (R133). -/
def Chip.holdOp (c : Chip) (p w : Nat) : Chip :=
  if entOp w = 1 then c.setHold p true else if entOp w = 2 then c.setHold p false else c

/-- Entries perform their operations in order, each at its instant (R133). Of those that start at one instant the gate states
of all but the last govern no frame (R134): the gates follow the last. -/
def Chip.perform (c : Chip) (p : Nat) : List (Int × Nat) → Chip
  | [] => c
  | [e] => (c.setGates p (entGates e.2) e.1.toNat).holdOp p e.2
  | e :: f :: r =>
    Chip.perform ((if e.1 = f.1 then c else c.setGates p (entGates e.2) e.1.toNat).holdOp p e.2) p (f :: r)

/-- Everything of the operational list up to an instant has been performed (R142, R157). -/
def Chip.tideDone (c : Chip) (p t : Nat) : Chip := c.setTide p { c.tide p with done := t }

/-- The entries of the operational list that start up to instant t and have not been performed are (R142, R143). -/
def Chip.entriesTo (c : Chip) (p t : Nat) : Chip :=
  match (c.tide p).oper with
  | none => c
  | some l =>
    if t ≤ (c.tide p).done then c
    else (if l.entries = [] then c else c.perform p (l.startsIn (c.tide p).done t)).tideDone p t

/-- TIDE_ENTRY_START (R142, R143): at an entry's start the gates and the hold state follow it. -/
def Chip.tideEntry (c : Chip) (p : Nat) : Chip :=
  if !c.portValid p || !c.ticking then c else c.entriesTo p (c.now + c.incr / 65536)

def execTideEntryStart (p : Nat) (s : State) : Host.Outcome State Fault Refusal :=
  onChip (fun c => c.core fun c => c.tideEntry p) s

/-- The next entry of the operational list and its start, with the start of the entry in force, before which its hold event is
not applied (R151). -/
def TideList.next (l : TideList) (t : Nat) : Option (Int × Nat × Int) :=
  let pos := l.pos t
  let c0 : Int := (t : Int) - pos
  let ss := l.starts
  match (ss.filter fun e => decide (e.1 ≤ pos)).getLast?, (ss.filter fun e => decide (pos < e.1)).head?, ss.head? with
  | some cur, some e, _ => some (c0 + e.1, e.2, c0 + cur.1)
  | some cur, none, some e => some (c0 + l.cycle + e.1, e.2, c0 + cur.1)
  | _, _, _ => none

/-- An advanced hold event of a port is due: the next entry has this operation, and its event's instant is reached. DESIGN CHOICE: an
entry of the old list that would start at or after a pending start S gives no advanced event before S, though the fit test
and the count of stepped-over events see one; the spec does not say (notes/assumptions/156.md). -/
def Chip.advanceDue (c : Chip) (p op : Nat) : Bool :=
  match (c.tide p).oper with
  | none => false
  | some l => match l.next c.now with
    | some (e, w, prev) => entOp w == op && decide (holdAtInst l.start (c.holdAdv p op) prev e ≤ c.now + c.incr / 65536) &&
        !(match (c.tide p).pend with | some n => decide ((n.start : Int) ≤ e) | none => false)
    | none => false

/-- An advanced hold event takes place if it is due, behind the entries that have started (R151). -/
def Chip.advance (c : Chip) (p op : Nat) : Chip :=
  if c.portValid p && c.ticking && c.advanceDue p op then (c.entriesTo p c.now).setHold p (op == 1) else c

/-- HOLD_ADVANCE_EVENT (R151): hold is asserted HOLD_ADVANCE before a SetAndHold entry. -/
def execHoldAdvanceEvent (p : Nat) (s : State) : Host.Outcome State Fault Refusal :=
  onChip (fun c => c.core fun c => c.advance p 1) s

/-- RELEASE_ADVANCE_EVENT (R151, R182): hold is released RELEASE_ADVANCE before a SetAndRelease entry. -/
def execReleaseAdvanceEvent (p : Nat) (s : State) : Host.Outcome State Fault Refusal :=
  onChip (fun c => c.core fun c => c.advance p 2) s

/-- The pending list becomes the operational list (R140), and the hand-over that belongs to it starts, both at instant `at_`.
The list stays anchored at S (R157). -/
def Chip.tideBecome (c : Chip) (p at_ : Nat) (l : TideList) : Chip :=
  let c := c.setTide p { c.tide p with pend := none, oper := some l, bank := l.entries, copying := true }
  let c := ((c.setB .TIDE_STATUS_PENDING p false).setB .TIDE_STATUS_OPER p true).count 32 .TIDE_CNT_SWITCHES p
  let c := c.showTime .TIDE_OPER_SWITCH_SWITCH .TIDE_OPER_SWITCH_HI_SWITCH_HI p l.start
  let c := ((c.setF .TIDE_OPER_BASE_BASE p (l.base % 2 ^ 64)).setF .TIDE_OPER_BASE_HI_BASE_HI p
    (l.base / 2 ^ 64)).setF .TIDE_OPER_CYCLE_CYCLE p l.cycleReg
  c.handStartAt p at_

/-- The switch to the pending list (R140) at its start S: entry 0 is performed. DESIGN CHOICE: a list of no entries, which has
no entry 0, leaves the hold state as it was; the spec does not say (notes/assumptions/157.md). -/
def Chip.tideSwitchNow (c : Chip) (p : Nat) : Chip :=
  match (c.tide p).pend with
  | none => c
  | some l =>
    let c := c.tideBecome p l.start l
    if l.entries = [] then c.setGates p (c.fld .TIDE_CTRL_IDLE_GATES p) l.start
    else (c.perform p (l.startsIn ((l.start : Int) - 1) l.start)).tideDone p l.start

/-- TIDE_SWITCH (R140, R127): at S. -/
def execTideSwitch (p : Nat) (s : State) : Host.Outcome State Fault Refusal :=
  onChip (fun c => c.core fun c => match (c.tide p).pend with
    | some l => if c.ticking && c.reached l.start then c.tideSwitchNow p else c
    | none => c) s

/-- TIDE_MIRROR_COPY_END (R140): the administrative bank reads back as the committed list, and LOCKED clears. -/
def Chip.mirrorEnd (c : Chip) (p : Nat) : Chip :=
  let x := c.tide p
  match x.copying, x.oper with
  | true, some l =>
    let admin := l.entries.zipIdx.foldl (fun m e => kPut 0 m e.2 e.1) x.admin
    let c := c.setTide p { x with admin := admin, copying := false }
    c.setB .TIDE_STATUS_LOCKED p x.pend.isSome
  | true, none => (c.setTide p { x with copying := false }).setB .TIDE_STATUS_LOCKED p x.pend.isSome
  | false, _ => c

def execTideMirrorCopyEnd (p : Nat) (s : State) : Host.Outcome State Fault Refusal :=
  onChip (fun c => c.core fun c => c.mirrorEnd p) s

/-! ### Time steps (R157) -/

/-- How many n, no less than `lo` and no more than `hi` where these are given, put first + n x period strictly between t0 and
t1. -/
def countIn (first period t0 t1 : Int) (lo hi : Option Int) : Nat :=
  let n0 := (t0 - first) / period + 1
  let n1 := (t1 - 1 - first) / period
  (min n1 (hi.getD n1) - max n0 (lo.getD n0) + 1).toNat

/-- One event at an instant strictly between t0 and t1. -/
def onceIn (at_ t0 t1 : Int) : Nat := if t0 < at_ ∧ at_ < t1 then 1 else 0

/-- The gate and hold events of a list strictly between two instants: every entry's start, and every hold event at its
advanced instant (R157), of which there are none without an active MAC merge sublayer (R152). A list in force is periodic in
both directions of time (R142), with `all`; one that becomes operational between them has only the events from its start on. -/
def Chip.eventsIn (c : Chip) (p : Nat) (l : TideList) (t0 t1 : Int) (all : Bool) : Nat :=
  let from_ : Option Int := if all then none else some 0
  let gates := (l.starts.map fun e => countIn ((l.start : Int) + e.1) l.cycle t0 t1 from_ none).sum
  let before := if all then ((l.starts.filter fun e => entOp e.2 == 1 || entOp e.2 == 2).map fun e =>
    countIn ((l.start : Int) + e.1) l.cycle t0 t1 none (some (-1))).sum else 0
  let first := ((c.holdEvents p l l.start).map fun e => onceIn e.1 t0 t1).sum
  let later := ((c.holdEvents p l ((l.start : Int) + l.cycle)).map fun e =>
    countIn (e.1 - l.cycle) l.cycle t0 t1 (some 1) none).sum
  if c.mmActive p then gates + before + first + later else gates

/-- The hold state of the entry in force after a step: that of the last entry performed up to the instant that set it
(R157). -/
def TideList.holdAt (l : TideList) (t : Nat) : Option Bool :=
  let ops := (l.starts.filter fun e => decide (e.1 ≤ l.pos t)).map fun e => entOp e.2
  let cur := ops.getLast?
  match cur with
  | some 1 => some true
  | some 2 => some false
  | _ => none

/-- A port after a step from t0 to t1, the present time (R157): the events stepped over are counted and not performed; those
that lie at t1 are performed. -/
def Chip.tideStep (c : Chip) (t0 t1 : Nat) (p : Nat) : Chip :=
  let x := c.tide p
  let fwd := decide (t0 < t1)
  let sw := match x.pend with
    | some l => if fwd && decide (l.start ≤ t1) then some l else none
    | none => none
  let n := if fwd then
      (match x.oper with
        | some l => c.eventsIn p l t0 ((sw.map fun n => n.start).getD t1) true
        | none => 0) +
      (match sw with
        | some l => c.eventsIn p l t0 t1 false
        | none => 0)
    else 0
  let c := c.countN 64 .TIDE_CNT_STEP_SKIPS p n
  let c := (match sw with
    | some l => c.tideBecome p t1 l
    | none => c).tideDone p t1
  match (c.tide p).oper with
  | none => c
  | some l =>
    let g := l.startsIn ((t1 : Int) - 1) t1
    if g != [] then c.perform p g
    else
      let c := c.setGates p (l.gatesAt (c.fld .TIDE_CTRL_IDLE_GATES p) t1) t1
      match l.holdAt t1 with
      | some h => c.setHold p h
      | none => c

/-- An instant moved with the time. -/
def shiftT (t : Nat) (d : Int) : Nat := ((t : Int) + d).toNat

/-- A port at a step: the frame on its wire completes in its own time, and a hand-over copy goes on (R157). -/
def PortS.step (x : PortS) (d : Int) : PortS :=
  { x with wire := x.wire.map fun w => { w with start := shiftT w.start (200 * d), stop := shiftT w.stop (200 * d) },
           hand := x.hand.map fun h => { h with at_ := shiftT h.at_ d } }

/-- A direction of the bridge at a step: what it carries goes on in its own time. -/
def BridgeS.step (x : BridgeS) (d : Int) : BridgeS :=
  ⟨x.recent.map fun w => (shiftT w.1 d, w.2), x.queue.map fun w => { w with start := shiftT w.start (125 * d) }⟩

/-- A timed frame is late at the Quay (R153): dropped, or kept to go out as R154 describes. DESIGN CHOICE: a frame charged at
the largest length and discarded here before its length was known gets no credit of the difference; R117 names only the
frame's end (notes/assumptions/185.md). -/
def Chip.quayLate (c : Chip) (s : Staged) : Chip :=
  let c := c.count 64 .TIDE_CNT_QUAY_LATE s.port
  let c := if s.it.late then c else c.bLate s.berth
  if c.sendNow s.berth s.it.f then
    c.setPort s.port { c.port s.port with late := (c.port s.port).late ++ [{ s with it := { s.it with late := true } }] }
  else c.bDrop s.berth

/-- The Quay of group g at a forward step from t0 to t1 (R153, R157): staged frames whose wire instants it passes are late,
and collide if their port is busy; those on their way find out when they arrive. -/
def Chip.quayStep (c : Chip) (t0 t1 g : Nat) : Chip :=
  let q := c.quay g
  let passed (s : Staged) : Bool :=
    let tw := c.wireAt s.port (s.it.launch.getD 0)
    decide (fine t0 ≤ tw) && decide (tw < fine t1)
  let busy (p : Nat) : Bool := match (c.port p).wire with
    | some w => w.f.receiving w.more || decide (fine t0 < w.stop)
    | none => false
  let c := c.setQuay g ⟨q.transit.map fun s => if passed s && busy s.port then { s with busy := true } else s,
    q.staged.filter fun s => !passed s⟩
  (q.staged.filter passed).foldl (fun c s =>
    let c := c.quayLate s
    if busy s.port then c.count 64 .TIDE_CNT_QUAY_COLLIDE s.port else c) c

/-- Quays, Tide Tables and shapers after a step by d from t0 to t1 (R123, R157): t_last of every shaper moves with the
time. -/
def Chip.planeStep (c : Chip) (t0 t1 : Nat) (d : Int) : Chip :=
  let c := (c.plane.quay.map fun e => e.1).foldl (fun c g => c.quayStep t0 t1 g) c
  let c := c.setPlane { c.plane with
    berths := c.plane.berths.map fun (e : Nat × BerthS) => (e.1, { e.2 with tLast := e.2.tLast + d }),
    ports := c.plane.ports.map fun (e : Nat × PortS) => (e.1, e.2.step d) }
  let c : Chip := { c with bridge := c.bridge.map fun (e : Nat × BridgeS) => (e.1, e.2.step d) }
  (c.plane.tide.map fun e => e.1).foldl (fun c p => c.tideStep t0 t1 p) c

/-! ### The Quay (R25, R35, R153-R156) -/

/-- The transit monitor (R35): `transit` in ns. -/
def Chip.noteTransit (c : Chip) (g transit : Nat) : Chip :=
  let c := c.maxF .CORE_STAGE_LEAD_MAX_TRANSIT g (min transit 65535)
  if c.fld .CORE_STAGE_LEAD_LEAD g ≤ transit + 100 then
    (c.setB .CORE_STAGE_LEAD_MARGIN_LOW g true).report (0x100 + g) 0x003 transit
  else c

/-- The port was busy as the wire instant tw of a frame that arrives passed: with the frame now on the wire, or with an
earlier one (R153). -/
def Chip.busyAt (c : Chip) (s : Staged) (tw : Nat) : Bool :=
  s.busy || match (c.port s.port).wire with
    | some w => decide (w.start ≤ tw) && (w.f.receiving w.more || decide (tw < w.stop))
    | none => false

/-- QUAY_ARRIVAL (R153, R35): the oldest frame on its way reaches the Quay. -/
def Chip.quayArrive (c : Chip) (g transit : Nat) : Chip :=
  match (c.quay g).transit with
  | [] => c
  | s :: rest =>
    let c := (c.setQuay g { c.quay g with transit := rest }).noteTransit g transit
    let tw := c.wireAt s.port (s.it.launch.getD 0)
    if tw < c.fineNow then
      let c := c.quayLate s
      if c.busyAt s tw then c.count 64 .TIDE_CNT_QUAY_COLLIDE s.port else c
    else c.setQuay g { c.quay g with staged := (c.quay g).staged ++ [s] }

def execQuayArrival (g transit : Nat) (s : State) : Host.Outcome State Fault Refusal :=
  onChip (fun c => c.core fun c => c.quayArrive g transit) s

/-- The staged frame of a port with the earliest launch time; equal times by Berth number (R153). -/
def Chip.nextStaged (c : Chip) (p : Nat) : Option Staged :=
  ((c.quay (p / 8)).staged.filter fun s => s.port == p).foldl (fun (a : Option Staged) s => match a with
    | none => some s
    | some y => if s.it.launch.getD 0 < y.it.launch.getD 0 ∨
        (s.it.launch = y.it.launch ∧ s.berth < y.berth) then some s else some y) none

/-- A time step has passed a wire instant by more than one reference edge (R153, R157). -/
def Chip.missed (c : Chip) (tw : Nat) : Bool := decide (tw / 200 + c.incr / 65536 < c.now)

/-- QUAY_LAUNCH (R153, R155, R156): at its wire instant the frame is launched, or judged late, and colliding if the port is
busy as that instant passes; a pre-emptable frame may itself be pre-empted (R147). One whose instant comes while a part-sent
frame is unfinished is late (R148): DESIGN CHOICE, with the wire idle it does not count in QUAY_COLLIDE, which R153 keeps for a
busy port (notes/assumptions/187.md). DESIGN CHOICE: so is one whose instant comes while hold keeps it from starting (R151),
which R153 does not list (notes/assumptions/186.md). -/
def Chip.quayLaunch (c : Chip) (p : Nat) : Chip :=
  match c.nextStaged p with
  | none => c
  | some s =>
    let tw := c.wireAt p (s.it.launch.getD 0)
    if !c.ticking || !c.linkUp p || !c.reached (tw / 200) then c
    else
      let g := p / 8
      let c := c.setQuay g { c.quay g with staged := (c.quay g).staged.filter fun x => x != s }
      let c := match (c.port p).wire with
        | some w => if !w.f.receiving w.more && decide (w.stop ≤ tw) then c.settle p true else c
        | none => c
      let pre := c.preClass p s.tc
      if (c.port p).wire.isSome then (c.quayLate s).count 64 .TIDE_CNT_QUAY_COLLIDE p
      else if c.missed tw then c.quayLate s
      else if !c.gateOpen p s.tc tw ||
          (pre && ((c.port p).part.isSome || (c.is .TIDE_STATUS_HOLD p && c.mmActive p))) then c.quayLate s
      else
        let fit := if pre then c.fits p s.tc s.it.f.len s.charge tw none else .whole
        c.startWire p s.it.f s.berth s.tc s.charge s.ovh tw 0 false false (if fit = .no then .whole else fit)

def execQuayLaunch (p : Nat) (s : State) : Host.Outcome State Fault Refusal :=
  onChip (fun c => c.core fun c => c.quayLaunch p) s

/-! ### CORE_STAGE_LEAD (R33, R34, R38) -/

/-- The lead lies in 800-10,000 ns (R33). -/
def leadOk (data : Nat) : Bool := decide (800 ≤ bits data 13 0) && decide (bits data 13 0 ≤ 10000)

/-- A write of CORE_STAGE_LEAD: frames whose new hand-off time has passed are handed over at once (R34). -/
def Chip.wrStageLead (c : Chip) (g data : Nat) : Chip :=
  c.coreWrite (leadOk data) (0x100 + g) (0x82000 + 8 * g) fun c =>
    let c := c.writeFields (regFields .CORE .CORE_STAGE_LEAD) g data
    (c.groupPorts g).foldl (fun c p =>
      ((c.berthsOf p).flatMap fun b => (c.berth b).queue).foldl (fun c _ => c.handOff p) c) c

/-- CORE_STAGE_LEAD_WRITE (R33, R34). -/
def execCoreStageLeadWrite (src : Src) (g data : Nat) (s : State) : Host.Outcome State Fault Refusal :=
  onChip (fun c => c.gatedIn src (!c.domainOn (40 + quadOf g)) .CORE (0x82000 + 8 * g) fun c =>
    if g < 32 then c.wrStageLead g data else c) s

end Sys2Proof.Machine
end

