-- ==== Sys2Proof/Machine/StoreOps.lean ====
section
/-!
DEFINITION. Machine/StoreOps.lean: the bytes of the stream store with their codes (R214, R216), pages, rings and records
(R220), charges and page accounting (R26, R215, R218, R221).
-/
namespace Sys2Proof.Machine

/-! ### Access -/

def Chip.setStor (c : Chip) (x : StorS) : Chip := { c with stor := x }
def Chip.region (c : Chip) (r : Nat) : Region := kGet Region.init c.stor.regions r
def Chip.setRegion (c : Chip) (r : Nat) (x : Region) : Chip :=
  c.setStor { c.stor with regions := kPut Region.init c.stor.regions r x }
def Chip.cursor (c : Chip) (k : Nat) : Cursor := kGet Cursor.init c.stor.cursors k
def Chip.setCursor (c : Chip) (k : Nat) (x : Cursor) : Chip :=
  c.setStor { c.stor with cursors := kPut Cursor.init c.stor.cursors k x }
/-- Counter k of a region, in the order of R239. -/
def Chip.regCnt (c : Chip) (r k : Nat) : Nat := kGet 0 c.stor.cnt (16 * r + k)
def Chip.regCount (c : Chip) (r k n : Nat) : Chip :=
  c.setStor { c.stor with cnt := kPut 0 c.stor.cnt (16 * r + k) (satAdd 64 (c.regCnt r k) n) }

def Chip.setBrkwS (c : Chip) (x : BrkwS) : Chip := { c with brkw := x }
def Chip.inst (c : Chip) (n : Nat) : Brkw := kGet Brkw.init c.brkw.inst n
def Chip.setInst (c : Chip) (n : Nat) (x : Brkw) : Chip :=
  c.setBrkwS { c.brkw with inst := kPut Brkw.init c.brkw.inst n x }

/-! ### Bytes (R214, R216, R406) -/

/-- Where the store's address space ends. -/
def storeEnd : Nat := 2 ^ 38

/-- The store address of a byte of a page of a quadrant (R214). -/
def storeAddr (q page byte : Nat) : Nat := q * 2 ^ 36 + page * 65536 + byte

/-- The stack that holds a store address (R214). -/
def stackOf (a : Nat) : Nat := 2 * (a / 2 ^ 36) + a / 65536 % 2

/-- A stack's state: 0 OFF, 1 TRAINING, 2 READY, 3 FAILED (R409). -/
def Chip.memState (c : Chip) (m : Nat) : Nat := bits (c.fld .PWR_MEM_STATUS_STATE 0) (2 * m + 1) (2 * m)

/-- A stack is ready to store: trained, and without a failed condition (R406). -/
def Chip.stackReady (c : Chip) (m : Nat) : Bool := c.memState m == 2 && !c.pwr.stackFailed.testBit m

/-- A stack that has failed, or is off or in training: writes to it are discarded and reads of it are uncorrectable
(R406; notes/assumptions/16.md). -/
def Chip.stackBad (c : Chip) (m : Nat) : Bool := !c.stackReady m

/-- What a byte of the store reads as: zero where nothing is listed (notes/assumptions/4.md). -/
def memByte (m : List Host.Cell) (a : Nat) : Byte := kGet 0 m a

/-- A byte written: the list keeps its canonical form. -/
def memPut (m : List Host.Cell) (a : Nat) (b : Byte) : List Host.Cell := kPut 0 m a b

/-- The memory's canonical form: addresses strictly rising, none listed with what an unlisted byte reads as, and all
within the store's address space. -/
def Memory.wf (m : List Host.Cell) : Bool := kSorted m && m.all fun e => e.2 != 0 && decide (e.1 < storeEnd)

/-- A byte written within the address space; the space holds nothing beyond its end (R214). -/
def memSet (m : List Host.Cell) (a : Nat) (b : Byte) : List Host.Cell := if a < storeEnd then memPut m a b else m

/-- Bytes written from an address. -/
def memWrite : List Host.Cell → Nat → Bytes → List Host.Cell
  | m, _, [] => m
  | m, a, b :: r => memWrite (memSet m a b) (a + 1) r

/-- n bytes read from an address. -/
def memRead (m : List Host.Cell) (a n : Nat) : Bytes := (List.range n).map fun k => memByte m (a + k)

/-- The 64-byte lines that a run of bytes touches, by address. -/
def linesOf (a n : Nat) : List Nat :=
  if n = 0 then [] else (List.range ((a + n - 1) / 64 - a / 64 + 1)).map fun k => (a / 64 + k) * 64

/-- Lines of a stack are written: each is good again (R216, R406). -/
def StorS.written (x : StorS) (m : Nat) (lines : List Nat) : StorS :=
  { x with
    ecc := x.ecc.filter fun e => !lines.contains e.1
    stale := match kFind x.stale m with
      | none => x.stale
      | some l => kInsert x.stale m (l ++ lines.filter fun a => !l.contains a) }

/-- A line of a stack that was retrained after a failure has not been written since (R406). -/
def Chip.staleLine (c : Chip) (line : Nat) : Bool :=
  match kFind c.stor.stale (stackOf line) with
  | none => false
  | some l => !l.contains line

/-- A write of the store: discarded for a failed stack; a line written is good again (R216, R406). -/
def State.storeWrite (s : State) (a : Nat) (b : Bytes) : State :=
  if s.chip.stackBad (stackOf a) then s
  else
    { s with mem := memWrite s.mem a b, chip := s.chip.setStor (s.chip.stor.written (stackOf a) (linesOf a b.length)) }

/-- One line is read (R216): a single symbol in error is corrected, written back, counted and reported; more are
uncorrectable, counted and reported, and mark the page. -/
def Chip.eccLine (c : Chip) (line : Nat) : Bool × Chip :=
  let m := stackOf line
  let bad (c : Chip) : Chip :=
    let page := line / 65536
    let c := c.setStor { c.stor with bad := if c.stor.bad.contains page then c.stor.bad else c.stor.bad ++ [page] }
    (c.count 32 .STOR_ECC_CNT_UNCORR m).report (0x7000 + m) 0x405 line
  if c.stackBad m || c.staleLine line then (false, bad c)
  else match kFind c.stor.ecc line with
    | none => (true, c)
    | some 0 => (true, c)
    | some 1 => (true, ((c.setStor { c.stor with ecc := kErase c.stor.ecc line }).count 32 .STOR_ECC_CNT_CORR
        m).report (0x7000 + m) 0x404 line)
    | some _ => (false, bad c)

/-- A run of bytes is read: true when every line of it could be corrected (R216). -/
def Chip.eccRead (c : Chip) (a n : Nat) : Bool × Chip :=
  (linesOf a n).foldl (fun (acc : Bool × Chip) l => let (ok, c) := acc.2.eccLine l; (acc.1 && ok, c)) (true, c)

/-! ### Rings and records (R215, R220) -/

/-- The page of a ring that holds an offset of its byte stream: the last that begins at or before it. -/
def Ring.pageAt (g : Ring) (off : Nat) : Option PageRef := (g.pages.filter fun p => decide (p.start ≤ off)).getLast?

/-- Bytes written to a ring's stream from an offset, page by page. -/
def State.ringPut (s : State) (q : Nat) (g : Ring) : Nat → Bytes → State
  | _, [] => s
  | off, b :: r =>
    let s := match g.pageAt off with
      | some p => s.storeWrite (storeAddr q p.no (off - p.start)) [b]
      | none => s
    State.ringPut s q g (off + 1) r

/-- Bytes read from a ring's stream, with what the code says of them. -/
def State.ringGet (s : State) (q : Nat) (g : Ring) (off n : Nat) : Bytes × Bool × State :=
  let place (k : Nat) : Nat := match g.pageAt (off + k) with
    | some p => storeAddr q p.no (off + k - p.start)
    | none => 0
  let lines := ((List.range n).map fun k => place k / 64 * 64).eraseDups
  let x := lines.foldl (fun (acc : Bool × Chip) l =>
    let (ok, c) := acc.2.eccLine l; (acc.1 && ok, c)) (true, s.chip)
  ((List.range n).map fun k => memByte s.mem (place k), x.1, s.withChip x.2)

/-- Pages of the window that a region's rings use. -/
def Region.inUse (x : Region) : List Nat := x.rings.flatMap fun e => (e.2.pages.filter fun p => p.win).map fun p => p.no

/-- Pages of a list that lie in one of a quadrant's two stacks. -/
def ofStack (par : Nat) (l : List Nat) : List Nat := l.filter fun p => p % 2 == par

/-- Two lists taken in turn. -/
def inTurn (a b : List Nat) : List Nat :=
  ((a.zip b).flatMap fun e => [e.1, e.2]) ++ a.drop b.length ++ b.drop a.length

/-- Pages of a region that no ring uses, in the order in which rings take them: the stacks in turn, the one with fewer pages in
use first, so that those in use stay as equal as they can (R215). -/
def Region.idle (x : Region) : List Nat :=
  let l := x.pages.filter fun n => !x.inUse.contains n
  if (ofStack 1 x.inUse).length < (ofStack 0 x.inUse).length then inTurn (ofStack 1 l) (ofStack 0 l)
  else inTurn (ofStack 0 l) (ofStack 1 l)

/-- The pages that a region keeps when it is shrunk to n: those in use and idle ones, so that the two stacks' counts differ by at
most one; none when the pages in use do not fit so (R215, R222). -/
def Region.shrunk (x : Region) (n : Nat) : Option (List Nat) :=
  let keep (t0 t1 : Nat) : Option (List Nat) :=
    let u0 := (ofStack 0 x.inUse).length
    let u1 := (ofStack 1 x.inUse).length
    if t0 < u0 ∨ t1 < u1 then none
    else
      let l := x.inUse ++ (ofStack 0 x.idle).take (t0 - u0) ++ (ofStack 1 x.idle).take (t1 - u1)
      some (x.pages.filter fun p => l.contains p)
  (keep (n / 2) (n - n / 2)).or (keep (n - n / 2) (n / 2))

def Region.ringOf (x : Region) (k : Nat) : Ring := kGet Ring.init x.rings k
def Region.setRing (x : Region) (k : Nat) (g : Ring) : Region := { x with rings := kPut Ring.init x.rings k g }

/-- The record word (R220). -/
def recWord (tofs path ty len : Nat) : Nat := tofs * 2 ^ 24 + path * 2 ^ 16 + ty * 2 ^ 14 + len

/-- The largest time offset of a record, in units of 2^-16 ns: 40 bits of 1/256 ns (R220). -/
def tofsMax : Nat := (2 ^ 40 - 1) * 256

/-- The last page of a ring has no room for a record's first byte, or cannot hold its time offset (R220). -/
def Ring.fresh (g : Ring) (time : Nat) : Bool :=
  match g.pages.getLast? with
  | none => true
  | some p => decide (p.start + 65536 ≤ g.wr) || decide (time < p.base) || decide (p.base + tofsMax < time)

/-- The pages that a ring takes to append n bytes of a record of this time, from the pages offered. -/
def Ring.grow (g : Ring) (time n : Nat) (idle : List Nat) : Option Ring :=
  let g1 : Option (Ring × List Nat) :=
    if g.fresh time then match idle with
      | [] => none
      | p :: r => some ({ g with pages := g.pages ++ [⟨p, time, g.wr, none, true⟩] }, r)
    else some (g, idle)
  match g1 with
  | none => none
  | some (g, idle) =>
    let end_ := match g.pages.getLast? with
      | some p => p.start + 65536
      | none => g.wr
    let more := ceilDiv (g.wr + n - end_) 65536
    if idle.length < more then none
    else some { g with pages := g.pages ++ ((idle.take more).zipIdx.map fun e => ⟨e.1, time, end_ + 65536 * e.2, none, true⟩) }

/-- A record appended to a ring of a region (R220): false when the pages do not suffice. -/
def State.ringAppend (s : State) (r k : Nat) (rec : Rec) (data : Bytes) : Bool × State :=
  let x := s.chip.region r
  let g := x.ringOf k
  match g.grow rec.time (8 + data.length) x.idle with
  | none => (false, s)
  | some g =>
    let base := match g.pageAt g.wr with | some p => p.base | none => rec.time
    let word := recWord ((rec.time - base) / 256) rec.path (bit rec.marker) data.length
    let bytes := toLE 8 word ++ data
    let s := s.ringPut x.quad g g.wr bytes
    let g' := { g with recs := g.recs ++ [{ rec with off := g.wr, len := data.length }], wr := g.wr + bytes.length }
    (true, s.on fun c => c.setRegion r (x.setRing k g'))

/-- Where page i of a ring ends: where the next begins, and at most a page's bytes on. -/
def Ring.endOf (g : Ring) (i : Nat) (p : PageRef) : Nat :=
  match (g.pages.drop (i + 1)).head? with
  | some n => min n.start (p.start + 65536)
  | none => p.start + 65536

/-- The pages of a ring that hold some of n bytes from an offset. -/
def Ring.pagesOf (g : Ring) (off n : Nat) : List PageRef :=
  (g.pages.zipIdx.filter fun e => decide (e.1.start < off + n) && decide (off < g.endOf e.2 e.1)).map fun e => e.1

/-- The bytes of a record: its word and its data (R220). -/
def Rec.size (r : Rec) : Nat := 8 + r.len

/-- Pages that hold nothing of a ring's records return to the region (R204, R220, R225); the last page stays while the
ring holds any. -/
def Ring.trim (g : Ring) : Ring :=
  let last := g.pages.length - 1
  let used (i : Nat) (p : PageRef) : Bool :=
    (i == last && g.recs != [] && decide (p.start < g.wr)) ||
      g.recs.any fun r => decide (p.start < r.off + r.size) && decide (r.off < g.endOf i p)
  { g with pages := (g.pages.zipIdx.filter fun e => used e.2 e.1).map fun e => e.1 }

/-- A ring with records in place of its own, of which they are a part: it begins at the first. -/
def Ring.left (g : Ring) (recs : List Rec) : Ring :=
  ({ g with recs := recs, rd := match recs with | r :: _ => r.off | [] => g.wr } : Ring).trim

/-- A ring without its first record. -/
def Ring.pop (g : Ring) : Ring :=
  match g.recs with
  | [] => g
  | _ :: rest => g.left rest

/-- A ring without the record that a reception left unfinished: its bytes return to the ring (R220). Behind the last record
the ring is written on from where it began. DESIGN CHOICE: a record with others behind it leaves its place empty, whole
pages aside; the rule does not say that the others move (notes/assumptions/158.md). -/
def Ring.unwrite (g : Ring) (id : Nat) : Ring :=
  let g := match g.recs.getLast? with
    | some r => if r.f.rx = some id then { g with wr := r.off } else g
    | none => g
  g.left (g.recs.filter fun r => r.f.rx != some id)

/-! ### Charges and pages (R26, R215, R218, R219, R221) -/

/-- The peak information rate of a meter in kbit/s (R106). -/
def Meter.peak (m : Meter) : Nat := if m.dropYellow then m.cir else m.cir + m.eir

/-- A region's write and read charge in kbit/s under a peak information rate (R219). -/
def Region.charge (x : Region) (p : Nat) : Nat × Nat :=
  match x.kind with
  | 0 => (p, p)
  | 1 => (0, 0)
  | 2 => (p, p + x.surplus)
  | _ => (p, x.rate)

/-- The peak information rate of a handle's meter. -/
def Chip.handlePeak (c : Chip) (h : Nat) : Nat := (c.meter (c.handle h).meterId).peak

/-- The sum of a region's charge. -/
def Region.total (x : Region) (p : Nat) : Nat := (x.charge p).1 + (x.charge p).2

/-- The valid regions. -/
def Chip.regions (c : Chip) : List (Nat × Region) := c.stor.regions.filter fun e => e.2.valid

/-- The charge of a quadrant, with the peak rate of each handle given by `peak` and each region by `sub` (R26). -/
def Chip.quadCharge (c : Chip) (q : Nat) (peak : Nat → Nat) (sub : Nat → Region → Region) : Nat :=
  ((c.regions.filter fun e => e.2.quad == q).map fun e => (sub e.1 e.2).total (peak e.2.handle)).sum

/-- 25.6 Tbit/s in kbit/s: what a quadrant can assign (R26). -/
def chargeLimit : Nat := 25600000000

/-- A handle owns a store region. -/
def Chip.ownsRegion (c : Chip) (h : Nat) : Bool := c.regions.any fun e => e.2.handle == h

/-- Ports that hold regions of a handle are bound to (R223). -/
def Chip.boundPorts (c : Chip) (h : Nat) : List Nat :=
  (c.regions.filter fun e => e.2.handle == h && e.2.kind == 2 && e.2.bound).map fun e => e.2.port

/-- The charge fits when handle h has the given peak rate (R106). -/
def Chip.chargeFitsWith (c : Chip) (h peak : Nat) : Bool :=
  decide (c.quadCharge (c.handle h).homeQ (fun x => if x = h then peak else c.handlePeak x) (fun _ x => x) ≤ chargeLimit)

/-- A raised meter fits in every quadrant in which its handles own regions (R106). -/
def Chip.meterRaiseFits (c : Chip) (m peak : Nat) : Bool :=
  quads.all fun q => !(c.regions.any fun e => e.2.quad == q && (c.handle e.2.handle).meterEn &&
      (c.handle e.2.handle).meterId == m) ||
    decide (c.quadCharge q (fun x => if (c.handle x).meterEn && (c.handle x).meterId == m then peak
      else c.handlePeak x) (fun _ x => x) ≤ chargeLimit)

/-- The charge fits with region r replaced (R26). -/
def Chip.chargeFits (c : Chip) (q r : Nat) (x : Region) : Bool :=
  decide ((c.setRegion r x).quadCharge q c.handlePeak (fun _ x => x) ≤ chargeLimit)

/-- Pages of a quadrant that regions hold. -/
def Chip.pagesUsed (c : Chip) (q : Nat) : List Nat := ((c.regions.filter fun e => e.2.quad == q).flatMap fun e => e.2.pages)

/-- Unreserved pages of a quadrant, without retired pages and those of stacks that are not READY (PAGES_FREE). -/
def Chip.pagesFree (c : Chip) (q : Nat) : Nat :=
  let of_ (par : Nat) : Nat :=
    if c.pwr.stackFailed.testBit (2 * q + par) then 0
    else 524288 - (c.pagesUsed q).countP (fun n => n % 2 == par) -
      c.stor.retired.countP fun n => n / 2 ^ 20 == q && n % 2 == par
  of_ 0 + of_ 1

/-- k free pages of one stack of a quadrant: which, free values say from the f-th on (notes/assumptions/36.md). -/
def Chip.freePages (c : Chip) (q par k f : Nat) : Option (List Nat) :=
  let used := (c.pagesUsed q ++ (c.stor.retired.filter fun n => n / 2 ^ 20 == q).map fun n => n % 2 ^ 20).filter fun n =>
    n % 2 == par
  let u := rising (used.map fun n => n / 2)
  if k = 0 then some []
  else if !c.stackReady (2 * q + par) || decide (524288 < u.length + k) then none
  else some ((pickFree 524288 u f k).map fun t => 2 * t + par)

/-- n pages more for a region that has pages `have_`, so that its two stacks' counts differ by at most one (R215): `up`
says which stack is asked first for the page more, where either may hold it. -/
def Chip.allotAs (c : Chip) (q : Nat) (have_ : List Nat) (n up : Nat) : Option (List Nat) :=
  let h0 := have_.countP fun p => p % 2 == 0
  let h1 := have_.countP fun p => p % 2 == 1
  let t := have_.length + n
  let go (t0 : Nat) : Option (List Nat) :=
    if t0 < h0 ∨ t - t0 < h1 then none
    else match c.freePages q 0 (t0 - h0) (c.free + 1), c.freePages q 1 (t - t0 - h1) (c.free + 1 + (t0 - h0)) with
      | some a, some b => some (a ++ b)
      | _, _ => none
  match go ((t + 1 - up) / 2) with
  | some l => some l
  | none => go ((t + up) / 2)

/-- The pages allotted: a free value says which stack is asked first (notes/assumptions/36.md). -/
def Chip.allot (c : Chip) (q : Nat) (have_ : List Nat) (n : Nat) : Option (List Nat) × Chip :=
  (c.allotAs q have_ n (Config.free c.free % 2), { c with free := c.free + 1 + n })

/-! ### What the stream tables ask of Breakwater (R85, R187, R200) -/

def modeOff : Nat := 0
def modePass : Nat := 1
def modeDeep : Nat := 2
def modeAlign : Nat := 3

/-- The mode of a handle's instance. -/
def Chip.brkwMode (c : Chip) (h : Nat) : Nat := (c.inst h).cfg.mode

/-- A deleted handle's instance goes to OFF and its on-chip history returns to the pool (R187). -/
def Chip.brkwOff (c : Chip) (h : Nat) : Chip :=
  let x := c.inst h
  if x.cfg.mode = modeOff then c
  else c.setInst h { x with cfg := { x.cfg with mode := modeOff }, seen := [] }

end Sys2Proof.Machine
end

