-- ==== Sys2Proof/Machine/Streams.lean ====
section
/-!
DEFINITION. Machine/Streams.lean: the stream tables, their indirect operations and their rules
(04_streams_and_ingress.md). A record is one number whose bit 0 is bit 0 of its first 64-bit word, as STRM_DATA and a
command's parameter bytes both lay it out (R109, R327). An operation answers its result code (R108) and the device.
-/
namespace Sys2Proof.Machine

/-! ### Key store -/

/-- A profile's register fields. -/
def Chip.profFn (c : Chip) (n : Nat) : Nat := c.fld .STRM_PROFILE_FUNCTION n
def Chip.profTagged (c : Chip) (n : Nat) : Nat := c.fld .STRM_PROFILE_TAGGED n

/-- A key with every field that its profile does not compare set to zero (R86, R87, R88). -/
def Chip.normKey (c : Chip) (k : Key) : Key :=
  let n := k.profile
  let fn := c.profFn n
  let ip := decide (fn = 3)
  let ipr := decide (fn = 3) || decide (fn = 4)
  let keep (b : Bool) (v : Nat) : Nat := if b then v else 0
  let ign (f : Fld) : Bool := c.is f n
  { profile := n
    vid := keep (c.profTagged n == 0) k.vid
    port := keep (c.is .STRM_PROFILE_PORT_IN_KEY n) k.port
    ipv6 := keep ipr k.ipv6
    dscp := keep (ip && !ign .STRM_PROFILE_IGN_DSCP) k.dscp
    proto := keep (ip && !ign .STRM_PROFILE_IGN_PROTO) k.proto
    mac := keep (fn ≤ 2 || (ip && !ign .STRM_PROFILE_IGN_DMAC)) k.mac
    ssrc := keep (fn == 4) k.ssrc
    srcPort := keep (ipr && !ign .STRM_PROFILE_IGN_SRC_PORT) k.srcPort
    dstPort := keep ((ip && !ign .STRM_PROFILE_IGN_DST_PORT) || fn == 4) k.dstPort
    ipSrc := keep (ipr && !ign .STRM_PROFILE_IGN_IP_SRC) k.ipSrc
    ipDst := keep ipr k.ipDst }

/-- The KEY record's fields (R109). -/
def keyOf (r : Nat) : Key where
  profile := bits r 19 16
  vid := bits r 31 20
  port := bits r 39 32
  ipv6 := bits r 40 40
  dscp := bits r 46 41
  proto := bits r 55 48
  mac := bits r 111 64
  ssrc := bits r 159 128
  srcPort := bits r 175 160
  dstPort := bits r 191 176
  ipSrc := bits r 319 192
  ipDst := bits r 447 320

/-- The handle that a KEY record names. -/
def keyHandle (r : Nat) : Nat := bits r 15 0

/-- The handle of a key in the key store. -/
def Chip.findKey (c : Chip) (k : Key) : Option Nat := (c.strm.keys.find? fun e => e.1 == k).map fun e => e.2

/-- Key entries of a handle (KEYS of R109). -/
def Chip.keysOf (c : Chip) (h : Nat) : Nat := (c.strm.keys.filter fun e => e.2 == h).length

/-- A profile is named by a key entry (R89). -/
def Chip.profUsed (c : Chip) (n : Nat) : Bool := c.strm.keys.any fun e => e.1.profile == n

/-- A key was placed: whether it went to the overflow store, while that has room, is open (R82, R83). -/
def Chip.ovfInsert (c : Chip) : Chip :=
  let (v, c) := c.fresh
  c.setF .STRM_USAGE_OVF_USED 0 (min 512 (c.fld .STRM_USAGE_OVF_USED 0 + v % 2))

/-- n keys were removed: how many of them lay in the overflow store is open; the keys left bound it (R82, R83). -/
def Chip.ovfDelete (c : Chip) (n : Nat) : Chip :=
  let (v, c) := c.fresh
  c.setF .STRM_USAGE_OVF_USED 0 (min c.strm.keys.length (c.fld .STRM_USAGE_OVF_USED 0 - v % (n + 1)))

/-- The KEY record names a port that R2 or R5 excludes, where its profile puts the port into the key (R339). -/
def Chip.keyPortBad (c : Chip) (r : Nat) : Bool :=
  c.is .STRM_PROFILE_PORT_IN_KEY (keyOf r).profile && !c.portValid (keyOf r).port

/-- INSERT on KEY (R82, R83, R89): below 61,440 entries it succeeds; from there on it can fail with BUCKET_FULL while
the overflow store is full, and whether it does is open. -/
def Chip.keyInsert (c : Chip) (r : Nat) : Nat × Chip :=
  let k := c.normKey (keyOf r)
  let h := keyHandle r
  let n := k.profile
  if !c.is .STRM_PROFILE_VALID n then (rParam, c)
  else if c.keyPortBad r then (rParam, c)
  else if !(c.handle h).valid then (rNotFound, c)
  else if (c.findKey k).isSome then (rExists, c)
  else if c.strm.keys.length ≥ 65536 ∨ c.keysOf h ≥ 8 then (rNoResource, c)
  else
    let (v, c') := c.fresh
    if c.strm.keys.length ≥ 61440 && c.fld .STRM_USAGE_OVF_USED 0 == 512 && v % 2 == 1 then (rBucketFull, c')
    else (rOK, (c'.setStrm { c'.strm with keys := c'.strm.keys ++ [(k, h)] }).ovfInsert)

/-- DELETE on KEY (R84, R339). -/
def Chip.keyDelete (c : Chip) (r : Nat) : Nat × Chip :=
  let k := c.normKey (keyOf r)
  if c.keyPortBad r then (rParam, c)
  else if (c.findKey k).isNone then (rNotFound, c)
  else (rOK, (c.setStrm { c.strm with keys := c.strm.keys.filter fun e => e.1 != k }).ovfDelete 1)

/-- LOOKUP on KEY (R108, R339): the result and the handle found. -/
def Chip.keyLookup (c : Chip) (r : Nat) : Nat × Nat :=
  if c.keyPortBad r then (rParam, 0)
  else match c.findKey (c.normKey (keyOf r)) with
    | some h => (rOK, h)
    | none => (rNotFound, 0)

/-! ### Egress pool -/

/-- A pool entry as its 32-bit word. -/
def Chip.poolW (c : Chip) (e : Nat) : Nat := kGet 0 c.strm.pool e

/-- The port and the Berth that a pool word names (R109). -/
def poolPort (w : Nat) : Nat := bits w 31 24
def poolBerth (w : Nat) : Nat := bits w 15 0
def poolWord (p b : Nat) : Nat := p * 2 ^ 24 + b

/-- The egress list of a handle, as pool words in order. -/
def Chip.egress (c : Chip) (h : Nat) : List Nat :=
  let x := c.handle h
  if x.valid then (List.range x.egrLen).map fun k => c.poolW (x.egrBase + k) else []

/-- The runs of pool entries in force: those of valid handles and of old lists (R98). -/
def Chip.runs (c : Chip) : List (Nat × Nat) :=
  (c.strm.handles.filterMap fun e => if e.2.valid then some (e.2.egrBase, e.2.egrLen) else none) ++ c.strm.oldLists

/-- A pool entry is in force (R98). -/
def Chip.inForce (c : Chip) (e : Nat) : Bool := c.runs.any fun r => decide (r.1 ≤ e) && decide (e < r.1 + r.2)

/-- Pool entries in use (EGR_USED). -/
def Chip.egrUsed (c : Chip) : Nat :=
  let ivs := (c.runs.filter fun r => r.2 != 0).mergeSort fun a b => a.1 ≤ b.1
  (ivs.foldl (fun (acc : Nat × Nat) r => (acc.1 + (r.1 + r.2 - max r.1 acc.2), max acc.2 (r.1 + r.2))) (0, 0)).1

/-- A handle's list obeys R94 and R97: valid ports, each at most once, each Berth of its port; under ALIGN, timed
Berths only (R200); and no port that a hold of the handle is bound to is missing (R223). The answer is 0 or a code. -/
def Chip.listCode (c : Chip) (h : Nat) (l : List Nat) : Nat :=
  let ports := l.map poolPort
  if l.length > 256 then rParam
  else if !(l.all fun w => c.portValid (poolPort w) && !c.duoPort (poolPort w) &&
      c.is .SCHD_BERTH_CFG_VALID (poolBerth w) && c.fld .SCHD_BERTH_CFG_PORT (poolBerth w) == poolPort w) then rParam
  else if !decide ports.Nodup then rParam
  else if c.brkwMode h == modeAlign && !(l.all fun w => c.is .SCHD_BERTH_CFG_KIND (poolBerth w)) then rParam
  else if !((c.boundPorts h).all fun p => ports.contains p) then rInUse
  else rOK

/-- WRITE on EGRESS (R98): sixteen entries; one in force may only be written with its present value. -/
def Chip.egressWrite (c : Chip) (i r : Nat) : Nat × Chip :=
  let entry (k : Nat) : Nat := poolWord (bits r (32 * k + 31) (32 * k + 24)) (bits r (32 * k + 15) (32 * k))
  let ks := List.range 16
  if i % 16 ≠ 0 ∨ i ≥ 131072 then (rParam, c)
  else if ks.any fun k => c.inForce (i + k) && c.poolW (i + k) != entry k then (rInUse, c)
  else (rOK, c.setStrm { c.strm with pool := ks.foldl (fun m k => kPut 0 m (i + k) (entry k)) c.strm.pool })

/-- A frame was identified under a run of pool entries and waits to be handled further: until its end (R85, R100), or for its
entry in the log (R378). -/
def Chip.runHeld (c : Chip) (r : Nat × Nat) : Bool :=
  let under (w : Waiting) : Bool := w.rec_.egrBase == r.1 && w.rec_.egrLen == r.2
  (c.plane.ports.any fun e => (e.2.rx.bind fun x => x.wait).any under) || c.duo.pend.any fun x => under x.on

/-- EGRESS_POOL_FREE (R98): an old list goes once every frame identified under it has been replicated. -/
def Chip.poolFree (c : Chip) : Chip := c.setStrm { c.strm with oldLists := c.strm.oldLists.filter c.runHeld }

def execEgressPoolFree (s : State) : Host.Outcome State Fault Refusal := onChip (fun c => c.core Chip.poolFree) s

/-- A handle's list moves: its old run stays in force until EGRESS_POOL_FREE (R98). -/
def Chip.retireList (c : Chip) (h : Nat) : Chip :=
  let x := c.handle h
  if x.valid && x.egrLen != 0 then c.setStrm { c.strm with oldLists := c.strm.oldLists ++ [(x.egrBase, x.egrLen)] }
  else c

/-- The lowest place at which a run of n free entries begins (R98). -/
def Chip.freeRun (c : Chip) (n : Nat) : Option Nat :=
  if n = 0 then some 0
  else
    let ivs := (c.runs.filter fun r => r.2 != 0).mergeSort fun a b => a.1 ≤ b.1
    let place := ivs.foldl (fun (acc : Option Nat × Nat) r =>
      match acc.1 with
      | some _ => acc
      | none => if acc.2 + n ≤ r.1 then (some acc.2, acc.2) else (none, max acc.2 (r.1 + r.2))) (none, 0)
    match place.1 with
    | some b => some b
    | none => if place.2 + n ≤ 131072 then some place.2 else none

/-- EGRESS_SET (R94, R98): the list is checked, placed in the lowest free run and the handle points at it. DESIGN CHOICE: a
handle that does not exist comes before a port that is excluded (notes/assumptions/190.md). -/
def Chip.egressSet (c : Chip) (h : Nat) (l : List Nat) : Nat × Chip :=
  if !(c.handle h).valid then (rNotFound, c)
  else if c.listCode h l ≠ rOK then (c.listCode h l, c)
  else match c.freeRun l.length with
    | none => (rNoResource, c)
    | some b =>
      let c := c.retireList h
      let pool := (l.zipIdx).foldl (fun m e => kPut 0 m (b + e.2) e.1) c.strm.pool
      (rOK, (c.setStrm { c.strm with pool := pool }).setHandle h
        { c.handle h with egrBase := b, egrLen := l.length })

/-! ### Handles -/

/-- The HANDLE record's fields (R109). -/
def handleOf (r : Nat) : Handle where
  valid := r.testBit 63
  homeQ := bits r 61 60
  hostCopy := r.testBit 59
  activeTx := r.testBit 58
  notDup := r.testBit 57
  egrLen := bits r 40 32
  egrBase := bits r 16 0
  meterEn := r.testBit 127
  gateEn := r.testBit 126
  blockOver := r.testBit 125
  blocked := r.testBit 124
  gateId := bits r 123 112
  meterId := bits r 111 96
  maxSdu := bits r 77 64
  rwVidEn := r.testBit 188
  rwVid := bits r 187 176
  rwMac := bits r 175 128
  hostClass := bits r 195 192

/-- The HANDLE record as it reads (R109). -/
def Chip.handleRec (c : Chip) (h : Nat) : Nat :=
  let x := c.handle h
  bit x.valid * 2 ^ 63 + x.homeQ * 2 ^ 60 + bit x.hostCopy * 2 ^ 59 + bit x.activeTx * 2 ^ 58 + bit x.notDup * 2 ^ 57 +
    (if x.valid then c.keysOf h else 0) * 2 ^ 48 + x.egrLen * 2 ^ 32 + x.egrBase +
    bit x.meterEn * 2 ^ 127 + bit x.gateEn * 2 ^ 126 + bit x.blockOver * 2 ^ 125 + bit x.blocked * 2 ^ 124 +
    x.gateId * 2 ^ 112 + x.meterId * 2 ^ 96 + x.maxSdu * 2 ^ 64 +
    bit x.rwVidEn * 2 ^ 188 + x.rwVid * 2 ^ 176 + x.rwMac * 2 ^ 128 + x.hostClass * 2 ^ 192

/-- The record of a handle obeys its ranges and the rules on store regions (R106, R109): 0 or a code. -/
def Chip.handleCode (c : Chip) (h : Nat) (x : Handle) : Nat :=
  let old := c.handle h
  if x.maxSdu ≠ 0 ∧ (x.maxSdu < 64 ∨ 9728 < x.maxSdu) then rParam
  else if x.blocked && !(old.valid && old.blocked) then rParam
  else if old.valid && c.ownsRegion h && !x.meterEn then rInUse
  else if old.valid && c.ownsRegion h && x.meterId != old.meterId &&
      !c.chargeFitsWith h (c.meter x.meterId).peak then rNoResource
  else rOK

/-- A new handle record over the old one: HOME_Q is fixed while the handle is valid (R85). -/
def Handle.ovh (old x : Handle) : Handle := { x with valid := true, homeQ := if old.valid then old.homeQ else x.homeQ }

/-- Deletion of a handle (R85): its key entries first; a PASS instance goes to OFF; its list is retired. DESIGN CHOICE: the
record of a deleted handle reads zero but for HOME_Q, which still says where its instance's records lie (R405;
notes/assumptions/192.md). -/
def Chip.handleDelete (c : Chip) (h : Nat) : Nat × Chip :=
  if !(c.handle h).valid then (rNotFound, c)
  else if c.ownsRegion h || c.brkwMode h == modeAlign || c.brkwMode h == modeDeep then (rInUse, c)
  else
    let c := c.brkwOff h
    let n := c.keysOf h
    let c := c.setStrm { c.strm with keys := c.strm.keys.filter fun e => e.2 != h }
    let c := (c.retireList h).ovfDelete n
    (rOK, c.setHandle h { Handle.init with homeQ := (c.handle h).homeQ })

/-- WRITE on HANDLE (R84, R85, R94, R98, R106, R109). -/
def Chip.handleWrite (c : Chip) (h r : Nat) : Nat × Chip :=
  let x := handleOf r
  let old := c.handle h
  if h ≥ 65536 then (rParam, c)
  else if !x.valid then (if old.valid then c.handleDelete h else (rOK, c))
  else if x.egrLen > 256 ∨ x.egrBase + x.egrLen > 131072 then (rParam, c)
  else if c.handleCode h x ≠ rOK then (c.handleCode h x, c)
  else
    let l := (List.range x.egrLen).map fun k => c.poolW (x.egrBase + k)
    if c.listCode h l ≠ rOK then (c.listCode h l, c)
    else
      let c := if (x.egrBase, x.egrLen) = (old.egrBase, old.egrLen) then c else c.retireList h
      (rOK, c.setHandle h (old.ovh x))

/-- HANDLE_CREATE and HANDLE_WRITE ignore VALID, HOME_Q, KEYS, EGR_LEN and EGR_BASE of the record (R339). That the handle
exists comes before what its regions need (R306). -/
def Chip.handleCreate (c : Chip) (h home r : Nat) : Nat × Chip :=
  let x := { handleOf r with egrLen := 0, egrBase := 0, homeQ := home, valid := true }
  if c.handleCode h x = rParam then (rParam, c)
  else if (c.handle h).valid then (rExists, c)
  else if c.handleCode h x ≠ rOK then (c.handleCode h x, c)
  else (rOK, c.setHandle h x)

def Chip.handleRewrite (c : Chip) (h r : Nat) : Nat × Chip :=
  let old := c.handle h
  let x := { handleOf r with egrLen := old.egrLen, egrBase := old.egrBase, homeQ := old.homeQ, valid := true }
  if !old.valid then (rNotFound, c)
  else if c.handleCode h x ≠ rOK then (c.handleCode h x, c)
  else (rOK, c.setHandle h x)

/-! ### Meters -/

/-- The METER record's fields (R109). -/
def meterOf (r : Nat) : Meter where
  cir := bits r 31 0
  eir := bits r 63 32
  cbs := bits r 87 64
  ebs := bits r 119 96
  markDei := r.testBit 133
  mafrEn := r.testBit 131
  dropYellow := r.testBit 130
  cm := r.testBit 129
  cf := r.testBit 128

/-- MAFR is latched in some quadrant (R105). -/
def Chip.mafr (c : Chip) (m : Nat) : Bool := quads.any fun q => (c.meterQ m q).mafr

/-- The METER record as it reads. -/
def Chip.meterRec (c : Chip) (m : Nat) : Nat :=
  let x := c.meter m
  x.cir + x.eir * 2 ^ 32 + x.cbs * 2 ^ 64 + x.ebs * 2 ^ 96 + bit x.markDei * 2 ^ 133 + bit (c.mafr m) * 2 ^ 132 +
    bit x.mafrEn * 2 ^ 131 + bit x.dropYellow * 2 ^ 130 + bit x.cm * 2 ^ 129 + bit x.cf * 2 ^ 128

/-- The handles that use a meter and own a store region. -/
def Chip.meterOwners (c : Chip) (m : Nat) : List Nat :=
  (c.strm.handles.filter fun e => e.2.valid && e.2.meterEn && e.2.meterId == m && c.ownsRegion e.1).map fun e => e.1

/-- WRITE on METER (R104, R105, R106): both buckets are full after it, in every quadrant. -/
def Chip.meterWrite (c : Chip) (m r : Nat) : Nat × Chip :=
  let x := meterOf r
  let mafrBit := r.testBit 132
  if m ≥ 65536 then (rParam, c)
  else if mafrBit && !c.mafr m then (rParam, c)
  else if decide ((c.meter m).peak < x.peak) && !c.meterRaiseFits m x.peak then (rNoResource, c)
  else
    let c := c.setStrm { c.strm with meters := kPut Meter.init c.strm.meters m x }
    (rOK, quads.foldl (fun c q =>
      let y := c.meterQ m q
      c.setMeterQ m q ⟨x.cbs * tokenUnit, x.ebs * tokenUnit, y.tLast, mafrBit && y.mafr⟩) c)

/-- A frame's colour (R104). -/
inductive Colour where
  | green | yellow | red
  deriving DecidableEq, Repr

/-- The meter colours a frame of `len` bytes that starts at t, in units of 2^-16 ns (R104, R105). `dei` says that its
outer tag has DEI = 1. -/
def Chip.meterFrame (c : Chip) (m q : Nat) (t : Nat) (len : Nat) (dei : Bool) : Colour × Chip :=
  let x := c.meter m
  let y := c.meterQ m q
  let dt : Nat := ((t : Int) - y.tLast).toNat
  let tLast : Int := max y.tLast t
  let cbs := x.cbs * tokenUnit
  let ebs := x.ebs * tokenUnit
  let cNew := y.c + x.cir * dt
  let overflow := cNew - cbs
  let cB := min cbs cNew
  let eB := min ebs (y.e + x.eir * dt + (if x.cf then overflow else 0))
  let need := len * tokenUnit
  let yellowIn := x.cm && dei
  let (colour, cB, eB) :=
    if y.mafr then (Colour.red, cB, eB)
    else if !yellowIn && decide (need ≤ cB) then (Colour.green, cB - need, eB)
    else if need ≤ eB then (Colour.yellow, cB, eB - need)
    else (Colour.red, cB, eB)
  let colour := if colour == .yellow && x.dropYellow then Colour.red else colour
  let mafr := y.mafr || (colour == .red && x.mafrEn)
  (colour, c.setMeterQ m q ⟨cB, eB, tLast, mafr⟩)

/-- At a step or load, t_last of every meter in every quadrant moves with the time (R104). -/
def Chip.metersJump (c : Chip) (d : Int) : Chip :=
  c.setStrm { c.strm with meterQ := c.strm.meterQ.map fun e => (e.1, { e.2 with tLast := e.2.tLast + d }) }

/-! ### Stream gates -/

/-- The GATE_CFG record as it reads (R102, R109). -/
def Chip.gateRec (c : Chip) (g : Nat) : Nat :=
  let x := c.gate g
  let oct := quads.any fun q => (c.gateQ g q).closedOct
  let inv := quads.any fun q => (c.gateQ g q).closedInv
  x.base + x.cycleNs * 2 ^ 128 + x.cycleFrac * 2 ^ 160 + x.count * 2 ^ 168 + bit x.initOpen * 2 ^ 192 +
    bit x.closeInvEn * 2 ^ 193 + bit x.closeOctEn * 2 ^ 194 + bit inv * 2 ^ 195 + bit oct * 2 ^ 196 +
    bit x.pend.isSome * 2 ^ 200 + packTime x.pendStart * 2 ^ 256

/-- The cycle lies in 1 µs to 4.294967295 s (R103). -/
def gateCycleOk (x : Gate) : Bool := decide (nsT 1000 ≤ cycleT x.cycleNs x.cycleFrac) && decide (cycleT x.cycleNs x.cycleFrac ≤ nsT 4294967295)

/-- A commit makes the administrative list pending (R103). -/
def Chip.gateCommit (c : Chip) (g : Nat) : Nat × Chip :=
  let x := c.gate g
  if x.pend.isSome then (rLocked, c)
  else if x.count > 256 ∨ !gateCycleOk x ∨ !timeOk x.base then (rParam, c)
  else
    let t := commitStart (unpackTime x.base) (cycleT x.cycleNs x.cycleFrac) c.now (nsT 4000)
    (rOK, c.setGate g { x with pend := some t, pendStart := t })

/-- A pending commit is cancelled (R103). -/
def Chip.gateCancel (c : Chip) (g : Nat) : Chip := c.setGate g { c.gate g with pend := none }

/-- WRITE on GATE_CFG (R102, R103, R109): the fields, the latches, then COMMIT or CANCEL. -/
def Chip.gateCfgWrite (c : Chip) (g r : Nat) (ignoreOps : Bool) : Nat × Chip :=
  let x := c.gate g
  let y := { x with base := bits r 95 0, cycleNs := bits r 159 128, cycleFrac := bits r 167 160,
                    count := bits r 176 168, initOpen := r.testBit 192, closeOctEn := r.testBit 194,
                    closeInvEn := r.testBit 193 }
  let oct := quads.any fun q => (c.gateQ g q).closedOct
  let inv := quads.any fun q => (c.gateQ g q).closedInv
  let cancel := !ignoreOps && r.testBit 202
  let commit := !ignoreOps && r.testBit 201
  let locked := x.pend.isSome && (y.base != x.base || y.cycleNs != x.cycleNs || y.cycleFrac != x.cycleFrac ||
    y.count != x.count || y.initOpen != x.initOpen)
  if g ≥ 4096 then (rParam, c)
  else if (cancel && commit) || (r.testBit 196 && !oct) || (r.testBit 195 && !inv) then (rParam, c)
  else if !timeOk y.base then (rParam, c)
  else if locked || (commit && x.pend.isSome) then (rLocked, c)
  else if commit && (decide (y.count > 256) || !gateCycleOk y) then (rParam, c)
  else
    let c := c.setGate g y
    let c := quads.foldl (fun c q =>
      let z := c.gateQ g q
      c.setGateQ g q { z with closedOct := z.closedOct && r.testBit 196,
                              closedInv := z.closedInv && r.testBit 195 }) c
    if commit then c.gateCommit g else if cancel then (rOK, c.gateCancel g) else (rOK, c)

/-- A gate list entry from its two words (R109). -/
def gEntryOf (r : Nat) : GEntry :=
  ⟨r.testBit 63, r.testBit 62, bits r 61 59, bits r 39 32, bits r 31 0, bits r 95 64⟩

def GEntry.word (e : GEntry) : Nat :=
  bit e.isOpen * 2 ^ 63 + bit e.ipvValid * 2 ^ 62 + e.ipv * 2 ^ 59 + e.frac * 2 ^ 32 + e.intervalNs +
    e.octetMax * 2 ^ 64

/-- Administrative entries of a gate written from `first` (R103). -/
def Chip.gateListWrite (c : Chip) (g first : Nat) (es : List GEntry) : Nat × Chip :=
  let x := c.gate g
  if g ≥ 4096 ∨ first + es.length > 256 then (rParam, c)
  else if x.pend.isSome then (rLocked, c)
  else (rOK, c.setGate g
    { x with admin := es.zipIdx.foldl (fun m e => kPut GEntry.init m (first + e.2) e.1) x.admin })

/-- WRITE on GATE_LIST (R109): four entries at INDEX = 256 x gate + entry. -/
def Chip.gateListOp (c : Chip) (i r : Nat) : Nat × Chip :=
  if i % 4 ≠ 0 ∨ i ≥ 4096 * 256 then (rParam, c)
  else c.gateListWrite (i / 256) (i % 256) ((List.range 4).map fun k => gEntryOf (r / 2 ^ (128 * k)))

/-- The place in an operational list at an instant: cycle number, entry number and whether the gate is open. Past the
last interval the last entry holds; intervals past the cycle's end are cut; an empty list holds INIT_STATE (R103). -/
def GateOper.at_ (o : GateOper) (t : Nat) : Int × Nat × Bool × Nat :=
  match o.entries with
  | [] => (0, 0, o.initOpen, 0)
  | e :: rest =>
    let d : Int := (t : Int) - o.base
    let cyc := d / (o.cycle : Int)
    let ph := (d % (o.cycle : Int)).toNat
    let r := (e :: rest).foldl (fun (acc : Nat × Nat × Nat × Option GEntry) x =>
      if acc.2.1 ≤ ph then (acc.1 + 1, acc.2.1 + cycleT x.intervalNs x.frac, acc.1, some x)
      else acc) (0, 0, 0, none)
    match r.2.2.2 with
    | some x => (cyc, r.2.2.1, x.isOpen, x.octetMax)
    | none => (cyc, 0, e.isOpen, e.octetMax)

/-- What a stream gate decides of a frame (R102). -/
inductive GateVerdict where
  | pass | closed | octets
  deriving DecidableEq, Repr

/-- The stream gate judges a frame of `len` bytes with ingress timestamp t in quadrant q (R102). The octet count belongs
to the entry of the last frame: a frame whose timestamp lies in an earlier entry restarts it, and the next frame of the
later entry restarts it again. DESIGN CHOICE: R102 does not say which interval such a frame counts in
(notes/assumptions/150.md). -/
def Chip.gateFrame (c : Chip) (g q t len : Nat) : GateVerdict × Chip :=
  let x := c.gate g
  let y := c.gateQ g q
  let (cyc, entry, isOpen, octMax) := match x.oper with
    | none => ((0 : Int), 0, true, 0)
    | some o => o.at_ t
  let y := if y.cyc = cyc ∧ y.entry = entry then y else { y with octets := 0, exceeded := false, cyc := cyc, entry := entry }
  if !isOpen || y.closedOct || y.closedInv then
    (.closed, c.setGateQ g q { y with closedInv := y.closedInv || x.closeInvEn })
  else if octMax ≠ 0 ∧ (y.exceeded ∨ octMax < y.octets + len) then
    (.octets, c.setGateQ g q { y with exceeded := true, closedOct := y.closedOct || x.closeOctEn })
  else (.pass, c.setGateQ g q { y with octets := y.octets + len })

/-- STREAM_GATE_SWITCH (R103): at its start, the pending list becomes operational and the lock ends; nothing starts while
the counters stand still (R53). -/
def Chip.gateSwitch (c : Chip) (g : Nat) : Chip :=
  let x := c.gate g
  match x.pend with
  | none => c
  | some t =>
    if !c.ticking || decide (c.now < t) then c
    else
      let es := (List.range x.count).map fun k => kGet GEntry.init x.admin k
      let c := c.setGate g { x with pend := none, oper := some ⟨es, t, cycleT x.cycleNs x.cycleFrac, x.initOpen⟩ }
      quads.foldl (fun c q => c.setGateQ g q { c.gateQ g q with octets := 0, exceeded := false, cyc := 0, entry := 0 }) c

def execStreamGateSwitch (g : Nat) (s : State) : Host.Outcome State Fault Refusal :=
  onChip (fun c => c.core fun c => c.gateSwitch g) s

/-- STREAM_GATE_ENTRY (R102): an entry starts and the octet count of every quadrant restarts; nothing starts while the
counters stand still (R53). -/
def Chip.gateEntry (c : Chip) (g : Nat) : Chip :=
  match (c.gate g).oper with
  | none => c
  | some o =>
    if !c.ticking || decide (c.now < o.base) then c
    else
      let (cyc, entry, _, _) := o.at_ c.now
      quads.foldl (fun c q =>
        let y := c.gateQ g q
        if y.cyc = cyc ∧ y.entry = entry then c
        else c.setGateQ g q { y with octets := 0, exceeded := false, cyc := cyc, entry := entry }) c

def execStreamGateEntry (g : Nat) (s : State) : Host.Outcome State Fault Refusal :=
  onChip (fun c => c.core fun c => c.gateEntry g) s

/-! ### Counters of a handle (R107, R110) -/

/-- The key of counter k of a handle in a quadrant; k counts in the order of R109. -/
def cntKey (h q k : Nat) : Nat := 32 * h + 8 * q + k

def Chip.strmCnt (c : Chip) (h q k : Nat) : Nat := kGet 0 c.strm.cnt (cntKey h q k)

def Chip.strmCount (c : Chip) (h q k n : Nat) : Chip :=
  c.setStrm { c.strm with cnt := kPut 0 c.strm.cnt (cntKey h q k) (satAdd 64 (c.strmCnt h q k) n) }

/-- CLEAR on COUNTERS zeroes all eight in every quadrant (R109). -/
def Chip.strmClear (c : Chip) (h : Nat) : Nat × Chip :=
  if h ≥ 65536 then (rParam, c)
  else (rOK, c.setStrm { c.strm with cnt := c.strm.cnt.filter fun e => e.1 / 32 != h })

/-- The COUNTERS record of one quadrant, or the sum of the four (R110). -/
def Chip.cntRec (c : Chip) (h : Nat) (q : Option Nat) : Nat :=
  (List.range 8).foldl (fun acc k =>
    acc + (match q with
      | some q => c.strmCnt h q k
      | none => min (quads.map fun q => c.strmCnt h q k).sum (2 ^ 64 - 1)) * 2 ^ (64 * k)) 0

/-! ### STRM_CMD (R108) -/

/-- The record window as one number. -/
def Chip.strmData (c : Chip) : Nat := (List.range 8).foldl (fun a i => a + c.fld .STRM_DATA_DATA i * 2 ^ (64 * i)) 0

/-- The record window filled. -/
def Chip.setStrmData (c : Chip) (r : Nat) : Chip :=
  (List.range 8).foldl (fun c i => c.setF .STRM_DATA_DATA i (r / 2 ^ (64 * i) % 2 ^ 64)) c

/-- A result shown in STRM_STATUS. -/
def Chip.strmResult (x : Nat × Chip) : Chip := x.2.setF .STRM_STATUS_RESULT 0 x.1

/-- READ on the tables (R108, R110): the record, or PARAM. -/
def Chip.strmRead (c : Chip) (table bank : Nat) (i : Nat) (quad : Option Nat) : Nat × Chip :=
  match table with
  | 1 => if i < 65536 then (rOK, c.setStrmData (c.handleRec i)) else (rParam, c)
  | 2 => if i % 16 = 0 ∧ i < 131072 then
      (rOK, c.setStrmData ((List.range 16).foldl (fun a k => a + c.poolW (i + k) * 2 ^ (32 * k)) 0)) else (rParam, c)
  | 3 => if i < 65536 then (rOK, c.setStrmData (c.meterRec i)) else (rParam, c)
  | 4 => if i < 4096 then (rOK, c.setStrmData (c.gateRec i)) else (rParam, c)
  | 5 => if i % 4 = 0 ∧ i < 4096 * 256 then
      let x := c.gate (i / 256)
      let entry (k : Nat) : GEntry := if bank = 0 then kGet GEntry.init x.admin k
        else match x.oper with
          | none => GEntry.init
          | some o => o.entries.getD k GEntry.init
      (rOK, c.setStrmData ((List.range 4).foldl (fun a k => a + (entry (i % 256 + k)).word * 2 ^ (128 * k)) 0))
      else (rParam, c)
  | 6 => if i < 65536 then (rOK, c.setStrmData (c.cntRec i quad)) else (rParam, c)
  | _ => (rParam, c)

/-- The indirect operation that a table and an operation code name; LOCKED is also reported (R103). -/
def Chip.strmOp (c : Chip) (table op bank : Nat) (quad : Option Nat) : Chip :=
  let i := c.fld .STRM_INDEX_INDEX 0
  let r := c.strmData
  let x : Nat × Chip := match table, op with
    | 0, 2 => c.keyInsert r
    | 0, 3 => c.keyDelete r
    | 0, 4 =>
      let (code, h) := c.keyLookup r
      (code, if code = rOK then c.setStrmData (r - bits r 15 0 + h) else c)
    | 1, 1 => c.handleWrite i r
    | 1, 3 => if i < 65536 then c.handleDelete i else (rParam, c)
    | 2, 1 => c.egressWrite i r
    | 3, 1 => c.meterWrite i r
    | 4, 1 => c.gateCfgWrite i r false
    | 5, 1 => c.gateListOp i r
    | 6, 5 => c.strmClear i
    | t, 0 => c.strmRead t bank i quad
    | _, _ => (rParam, c)
  let c := Chip.strmResult x
  if x.1 = rLocked then c.report 0x3010 0x301 0xA00008 else c

/-- A write of STRM_CMD (R108): the fields, and with START the operation. An operation runs whole within its step, so
BUSY reads 0 between steps. -/
def Chip.wrStrmCmd (c : Chip) (data : Nat) : Chip :=
  let c := ((((c.setF .STRM_CMD_TABLE 0 (bits data 27 24)).setF .STRM_CMD_OP 0 (bits data 23 20)).setF .STRM_CMD_BANK 0
    (bits data 19 19)).setF .STRM_CMD_REPL_SEL 0 (bits data 18 18)).setF .STRM_CMD_REPLICA 0 (bits data 17 16)
  if data.testBit 31 then
    c.strmOp (bits data 27 24) (bits data 23 20) (bits data 19 19)
      (if data.testBit 18 then some (bits data 17 16) else none)
  else c

/-- A write of STRM_CMD by a path (R405). -/
def Chip.strmCmd (c : Chip) (src : Src) (data : Nat) : Chip :=
  c.gated src .STRM 0xA00008 fun c => c.strmWrite (.write (src == .host) 0xA00008 false data) fun c => c.wrStrmCmd data

/-- A STRM_CMD word for a table and an operation, START set, the rest of the word as the command gives it. -/
def strmWord (table op data : Nat) : Nat := 2 ^ 31 + table * 2 ^ 24 + op * 2 ^ 20 + data % 2 ^ 20

/-- STRM_KEY_INSERT (R83). -/
def execStrmKeyInsert (src : Src) (data : Nat) (s : State) : Host.Outcome State Fault Refusal :=
  onChip (fun c => c.strmCmd src (strmWord 0 2 data)) s

/-- STRM_KEY_DELETE (R84). -/
def execStrmKeyDelete (src : Src) (data : Nat) (s : State) : Host.Outcome State Fault Refusal :=
  onChip (fun c => c.strmCmd src (strmWord 0 3 data)) s

/-- STRM_KEY_LOOKUP (R108). -/
def execStrmKeyLookup (src : Src) (data : Nat) (s : State) : Host.Outcome State Fault Refusal :=
  onChip (fun c => c.strmCmd src (strmWord 0 4 data)) s

/-- STRM_HANDLE_WRITE (R84, R85, R98): may make a handle valid, so the shown state may change (R297). -/
def execStrmHandleWrite (src : Src) (data : Nat) (s : State) : Host.Outcome State Fault Refusal :=
  onChipS (fun c => c.strmCmd src (strmWord 1 1 data)) s

/-- STRM_HANDLE_DELETE (R85). -/
def execStrmHandleDelete (src : Src) (data : Nat) (s : State) : Host.Outcome State Fault Refusal :=
  onChipS (fun c => c.strmCmd src (strmWord 1 3 data)) s

/-- STRM_EGRESS_WRITE (R98). -/
def execStrmEgressWrite (src : Src) (data : Nat) (s : State) : Host.Outcome State Fault Refusal :=
  onChip (fun c => c.strmCmd src (strmWord 2 1 data)) s

/-- STRM_METER_WRITE (R106). -/
def execStrmMeterWrite (src : Src) (data : Nat) (s : State) : Host.Outcome State Fault Refusal :=
  onChip (fun c => c.strmCmd src (strmWord 3 1 data)) s

/-- STRM_GATE_CFG_WRITE (R103): the record in STRM_DATA with neither COMMIT nor CANCEL set. -/
def execStrmGateCfgWrite (src : Src) (data : Nat) (s : State) : Host.Outcome State Fault Refusal :=
  onChip (fun c => c.strmCmd src (strmWord 4 1 data)) s

/-- The record window with CANCEL or COMMIT of GATE_CFG as asked (R109: bits 10 and 9 of word 3). -/
def Chip.gateOps (c : Chip) (commit cancel : Bool) : Chip :=
  let w := c.fld .STRM_DATA_DATA 3
  c.setF .STRM_DATA_DATA 3 (w - (w &&& 0x600) + bit cancel * 2 ^ 10 + bit commit * 2 ^ 9)

/-- A write of STRM_CMD by a path that writes GATE_CFG with one of its action bits (R103, R405). -/
def Chip.gateAction (c : Chip) (src : Src) (commit cancel : Bool) (data : Nat) : Chip :=
  c.gated src .STRM 0xA00008 fun c => c.strmWrite (.gateOp (src == .host) commit cancel (strmWord 4 1 data)) fun c =>
    (c.gateOps commit cancel).wrStrmCmd (strmWord 4 1 data)

/-- STRM_GATE_COMMIT (R103): the write of GATE_CFG with its COMMIT bit set. -/
def execStrmGateCommit (src : Src) (data : Nat) (s : State) : Host.Outcome State Fault Refusal :=
  onChip (fun c => c.gateAction src true false data) s

/-- STRM_GATE_CANCEL (R103): the write of GATE_CFG with its CANCEL bit set. -/
def execStrmGateCancel (src : Src) (data : Nat) (s : State) : Host.Outcome State Fault Refusal :=
  onChip (fun c => c.gateAction src false true data) s

/-- STRM_GATE_LIST_WRITE (R103). -/
def execStrmGateListWrite (src : Src) (data : Nat) (s : State) : Host.Outcome State Fault Refusal :=
  onChip (fun c => c.strmCmd src (strmWord 5 1 data)) s

/-- STRM_COUNTERS_CLEAR (R109). -/
def execStrmCountersClear (src : Src) (data : Nat) (s : State) : Host.Outcome State Fault Refusal :=
  onChip (fun c => c.strmCmd src (strmWord 6 5 data)) s

/-- STRM_READ (R110): the READ operation on the table that the command word names. -/
def execStrmRead (src : Src) (data : Nat) (s : State) : Host.Outcome State Fault Refusal :=
  onChip (fun c => c.strmCmd src (strmWord (bits data 27 24) 0 data)) s

/-! ### Direct STRM registers (R89, R97, R108) -/

/-- An ignore bit belongs to the function (field tables of R108). -/
def profIgnOk (data : Nat) : Bool :=
  match bits data 2 0 with
  | 3 => true
  | 4 => bits data 13 13 == 0 && bits data 11 11 == 0 && bits data 10 10 == 0 && bits data 8 8 == 0
  | _ => bits data 13 8 == 0

/-- A STRM_PROFILE value is in range (R108). -/
def profOk (data : Nat) : Bool := bits data 4 3 != 3 && decide (bits data 2 0 ≤ 4) && profIgnOk data

def Chip.applyProfile (c : Chip) (n data : Nat) : Chip := c.writeFields (regFields .STRM .STRM_PROFILE) n data

/-- A STRM_PORT_CFG value is in range; a group 31 port in duo mode takes no profile and no default rule (R97). A value with
no profile and DEF_RULE DROP, the reset rule, counts as naming none and is accepted; a profile number in a slot whose enable
bit is 0 counts as an assignment. DESIGN CHOICE (notes/assumptions/151.md). -/
def Chip.strmPortOk (c : Chip) (p data : Nat) : Bool :=
  bits data 21 20 != 3 && !(c.duoPort p && (bits data 19 0 != 0 || bits data 21 20 != 0))

def Chip.wrProfile (c : Chip) (n data : Nat) : Chip :=
  if c.profUsed n || !profOk data then c.report 0x3010 0x301 (0xA00800 + 8 * n) else c.applyProfile n data

def Chip.wrStrmPort (c : Chip) (p data : Nat) : Chip :=
  if !c.portValid p then c
  else if c.strmPortOk p data then c.writeFields (regFields .STRM .STRM_PORT_CFG) p data
  else c.report 0x3010 0x301 (0xA01000 + 8 * p)

end Sys2Proof.Machine
end

