-- ==== Sys2Proof/Machine/Parse.lean ====
section
/-!
DEFINITION. Machine/Parse.lean: the parser (R90), the key of a frame (R86, R87, R88), its length decided at the start
(R100), and the rewrites of a frame (R92, R104, R192).
-/
namespace Sys2Proof.Machine

/-- Bits read from a frame, most significant byte first. -/
def rd (b : Bytes) (off n : Nat) : Nat := beNat (slice b off n)

/-- The tag protocol identifiers of a VLAN tag (R90). -/
def isTpid (e : Nat) : Bool := e == 0x8100 || e == 0x88A8

/-- VLAN tags in front of the Ethertype: none, one or two (R90). -/
def tagCount (b : Bytes) : Nat := if isTpid (rd b 12 2) then (if isTpid (rd b 16 2) then 2 else 1) else 0

/-- The offset of what follows the VLAN tags: the Ethertype, or an R-TAG (R90, R192). -/
def tagEnd (b : Bytes) : Nat := 12 + 4 * tagCount b

/-- The frame carries an R-TAG (R90). -/
def hasRtag (b : Bytes) : Bool := rd b (tagEnd b) 2 == 0xF1C1

/-- The offset of the Ethertype of the payload. -/
def etyOff (b : Bytes) : Nat := if hasRtag b then tagEnd b + 6 else tagEnd b

/-- The outer VLAN ID; an untagged frame has none (R87). -/
def outerVid (b : Bytes) : Option Nat := if tagCount b = 0 then none else some (rd b 14 2 % 4096)

/-- The outer tag has DEI = 1 (R104). -/
def outerDei (b : Bytes) : Bool := tagCount b != 0 && (rd b 14 2).testBit 12

/-- IPv6 extension headers (the IANA list: notes/assumptions/14.md). -/
def ipv6Ext : List Nat := [0, 43, 44, 50, 51, 60, 135, 139, 140, 253, 254]

/-- What the parser finds behind the Ethernet header (R90). -/
structure L3 where
  /-- The version, and where its header and the next begin. -/
  v6 : Bool
  at_ : Nat
  l4 : Nat
  dscp : Nat
  proto : Nat
  src : Nat
  dst : Nat
  /-- The IP and RTP functions may match: no fragment and no extension header. -/
  ok : Bool
  deriving DecidableEq, Repr

/-- The IP header, if there is a whole one (R90). -/
def l3Of (b : Bytes) : Option L3 :=
  let o := etyOff b + 2
  let e := rd b (etyOff b) 2
  if e = 0x0800 ∧ o + 20 ≤ b.length ∧ rd b o 1 / 16 = 4 then
    let ihl := 4 * (rd b o 1 % 16)
    let frag := rd b (o + 6) 2
    if ihl < 20 then none
    else some ⟨false, o, o + ihl, rd b (o + 1) 1 / 4, rd b (o + 9) 1, rd b (o + 12) 4, rd b (o + 16) 4,
      decide (frag % 16384 = 0)⟩
  else if e = 0x86DD ∧ o + 40 ≤ b.length ∧ rd b o 1 / 16 = 6 then
    let nx := rd b (o + 6) 1
    some ⟨true, o, o + 40, rd b o 2 / 64 % 64, nx, rd b (o + 8) 16, rd b (o + 24) 16, !ipv6Ext.contains nx⟩
  else none

/-- The length decided at the frame's start (R100): for IP frames, from the IP header, with the check sequence. -/
def declLen (b : Bytes) : Option Nat :=
  match l3Of b with
  | some h => some (max 64 (h.at_ + (if h.v6 then 40 + rd b (h.at_ + 4) 2 else rd b (h.at_ + 2) 2) + 4))
  | none => none

/-- Source and destination port as the IP function takes them: 0 but for UDP and TCP (R90). -/
def l4Ports (b : Bytes) (h : L3) : Nat × Nat :=
  if h.proto = 17 ∨ h.proto = 6 then (rd b h.l4 2, rd b (h.l4 + 2) 2) else (0, 0)

/-- Bytes of the UDP payload. -/
def udpLen (b : Bytes) (h : L3) : Nat := min (rd b (h.l4 + 4) 2 - 8) (b.length - (h.l4 + 8))

/-- Where the RTP header of a frame begins, if the RTP conditions of R90 hold. -/
def rtpOff (b : Bytes) : Option Nat :=
  match l3Of b with
  | some h => if h.ok ∧ h.proto = 17 ∧ 12 ≤ udpLen b h ∧ rd b (h.l4 + 8) 1 / 64 = 2 then some (h.l4 + 8) else none
  | none => none

/-- Where the extended sequence number lies (R188): behind the RTP header and its CSRC list, within the payload. -/
def extOff (b : Bytes) : Option Nat :=
  match l3Of b, rtpOff b with
  | some h, some o =>
    let k := 12 + 4 * (rd b o 1 % 16)
    if k + 2 ≤ udpLen b h then some (o + k) else none
  | _, _ => none

/-- The VLAN of a frame fits the tagged mode of a profile (R87). -/
def tagFits (mode : Nat) (vid : Option Nat) : Bool :=
  match mode with
  | 0 => vid.isSome
  | 1 => vid.getD 0 == 0
  | _ => true

/-- The key of a frame under a profile (R86, R87, R88, R90); none where the function cannot match. -/
def Chip.frameKey (c : Chip) (n p : Nat) (b : Bytes) : Option Key :=
  let fn := c.profFn n
  let vid := outerVid b
  if !c.is .STRM_PROFILE_VALID n || !tagFits (c.profTagged n) vid then none
  else
    let base : Key := ⟨n, vid.getD 0, p, 0, 0, 0, if fn = 1 then rd b 6 6 else rd b 0 6, 0, 0, 0, 0, 0⟩
    if fn ≤ 2 then some (c.normKey base)
    else match l3Of b with
      | none => none
      | some h =>
        let ps := l4Ports b h
        let k := { base with ipv6 := bit h.v6, dscp := h.dscp, proto := h.proto, srcPort := ps.1, dstPort := ps.2,
                             ipSrc := h.src, ipDst := h.dst }
        if fn = 3 then (if h.ok then some (c.normKey k) else none)
        else match rtpOff b with
          | some o => some (c.normKey { k with ssrc := rd b (o + 8) 4 })
          | none => none

/-- The handle of a frame (R88): the port's profiles in order, the first hit. -/
def Chip.identify (c : Chip) (p : Nat) (b : Bytes) : Option Nat :=
  let v := c.fld .STRM_PORT_CFG_PROFILES p
  ([0, 1, 2, 3].filterMap fun k =>
    let slot := bits v (5 * k + 4) (5 * k)
    if slot < 16 then none
    else match c.frameKey (slot % 16) p b with
      | some key => c.findKey key
      | none => none).head?

/-! ### Rewrites -/

/-- A 16-bit word of the UDP data replaced, with the checksum kept right (R70, R192). -/
def udpSet16 (b : Bytes) (off v : Nat) : Bytes :=
  match l3Of b with
  | some h =>
    let old := rd b off 2
    let b := splice b off (toBE 2 v)
    let ck := rd b (h.l4 + 6) 2
    if ck = 0 ∧ h.v6 = false then b
    else
      let t := (65535 - ck) + (65535 - old) + v
      let f := t % 65536 + t / 65536
      let n := 65535 - (f % 65536 + f / 65536)
      splice b (h.l4 + 6) (toBE 2 (if n = 0 then 65535 else n))
  | none => splice b off (toBE 2 v)

/-- GEN = RTAG: the number in an R-TAG, which is added after the last VLAN tag if the frame has none (R192). -/
def putRtag (b : Bytes) (n : Nat) : Bytes :=
  if hasRtag b then splice b (tagEnd b + 4) (toBE 2 n)
  else b.take (tagEnd b) ++ toBE 2 0xF1C1 ++ [0, 0] ++ toBE 2 n ++ b.drop (tagEnd b)

/-- A received R-TAG removed (R192). -/
def popRtag (b : Bytes) : Bytes := if hasRtag b then b.take (tagEnd b) ++ b.drop (tagEnd b + 6) else b

/-- GEN = RTP: the number in the RTP header, and its high half in the extended field (R192). -/
def putRtp (b : Bytes) (n : Nat) (ext : Bool) : Bytes :=
  match rtpOff b with
  | none => b
  | some o =>
    let b := udpSet16 b (o + 2) (n % 65536)
    match (if ext then extOff b else none) with
    | some e => udpSet16 b e (n / 65536 % 65536)
    | none => b

/-- DEI = 1 in the outer tag of a tagged frame (R104). -/
def markDei (b : Bytes) : Bytes := if tagCount b = 0 then b else splice b 14 (toBE 2 (rd b 14 2 ||| 0x1000))

/-- The egress rewrite of an ACTIVE_TX stream (R92). -/
def Handle.rewrite (x : Handle) (b : Bytes) : Bytes :=
  if !x.activeTx then b
  else
    let b := splice b 0 (toBE 6 x.rwMac)
    if x.rwVidEn && tagCount b != 0 then splice b 14 (toBE 2 (rd b 14 2 / 4096 * 4096 + x.rwVid)) else b

end Sys2Proof.Machine
end

