-- ==== Sys2Proof/Machine/Brkw.lean ====
section
/-!
DEFINITION. Machine/Brkw.lean: Breakwater instances (08_breakwater.md): numbers, the recovery algorithms, path offsets,
latent error detection, and the indirect operations of BRKW_CMD.
-/
namespace Sys2Proof.Machine

/-! ### Counters -/

def cPassed : Nat := 0
def cDiscarded : Nat := 1
def cOutOfOrder : Nat := 2
def cRogue : Nat := 3
def cLost : Nat := 4
def cTagless : Nat := 5
def cResets : Nat := 6
def cLatentErrors : Nat := 7
def cLatentResets : Nat := 8
def cDlOverflow : Nat := 9
def cDlFlushed : Nat := 10
def cBypass : Nat := 11
def cLateRelease : Nat := 12
def cReorder : Nat := 13

/-- Counter k of an instance, in the order of R213. -/
def Chip.brkwCnt (c : Chip) (n k : Nat) : Nat := kGet 0 c.brkw.cnt (16 * n + k)
def Chip.brkwCount (c : Chip) (n k m : Nat) : Chip :=
  c.setBrkwS { c.brkw with cnt := kPut 0 c.brkw.cnt (16 * n + k) (satAdd 64 (c.brkwCnt n k) m) }

/-- Counter k of a path, in the order of R213. -/
def Chip.pathCnt (c : Chip) (n j k : Nat) : Nat := kGet 0 c.brkw.pathCnt (32 * n + 4 * j + k)
def Chip.pathCount (c : Chip) (n j k : Nat) : Chip :=
  c.setBrkwS { c.brkw with pathCnt := kPut 0 c.brkw.pathCnt (32 * n + 4 * j + k) (satAdd 64 (c.pathCnt n j k) 1) }

/-- An accepted copy counts in PASSED and its private copy (R193, R210). -/
def Chip.passed (c : Chip) (n : Nat) : Chip :=
  let x := c.inst n
  (if x.cfg.latentEn then c.setInst n { x with passedP := x.passedP + 1 } else c).brkwCount n cPassed 1

/-- A discarded copy counts in DISCARDED and its private copy (R193, R210). -/
def Chip.discarded (c : Chip) (n : Nat) : Chip :=
  let x := c.inst n
  (if x.cfg.latentEn then c.setInst n { x with discardedP := x.discardedP + 1 } else c).brkwCount n cDiscarded 1

/-! ### Numbers (R188, R189) -/

/-- The signed distance of two numbers of w bits. -/
def dist (w a b : Nat) : Int := asInt w ((a + 2 ^ w - b % 2 ^ w) % 2 ^ w)

/-- extend (R189): `esn` is the extended field where the instance takes it. -/
def Brkw.extend (x : Brkw) (s16 : Nat) (esn : Option Nat) : Nat :=
  match esn with
  | some e => e * 65536 + s16
  | none => ofInt 32 ((x.top : Int) + dist 16 s16 x.top)

/-- The received number of a frame (R188), extended; none for a tagless frame. -/
def Chip.recvNum (c : Chip) (n : Nat) (b : Bytes) : Option Nat :=
  let x := c.inst n
  match x.cfg.seqSrc with
  | 1 => if hasRtag b then some (x.extend (rd b (tagEnd b + 4) 2) none) else none
  | 2 => match rtpOff b with
    | none => none
    | some o =>
      if x.cfg.ext = 1 then (extOff b).map fun e => x.extend (rd b (o + 2) 2) (some (rd b e 2))
      else some (x.extend (rd b (o + 2) 2) none)
  | _ => none

/-! ### Recovery (R193, R194, R195) -/

/-- What recovery decides of a copy. -/
inductive Verdict where
  | accept | discard | rogue
  deriving DecidableEq, Repr

/-- Numbers of the history shifted out when top moves on by d with h kept: how many of them were not seen (R193). -/
def Brkw.shiftedOut (x : Brkw) (h d : Nat) : Nat :=
  d - (x.seen.filter fun s => decide ((h : Int) - d ≤ dist 32 x.top s) && decide (dist 32 x.top s < h)).length

/-- The vector algorithm (R193). -/
def Chip.vector (c : Chip) (n s : Nat) : Verdict × Chip :=
  let x := c.inst n
  let h := x.cfg.histLen
  let d := dist 32 s x.top
  if x.takeAny then
    (.accept, (c.setInst n { x with top := s, last := some s, seen := [s], takeAny := false, silent := false }).passed n)
  else if (h : Int) ≤ d ∨ d ≤ -(h : Int) then (.rogue, c.brkwCount n cRogue 1)
  else if 0 < d then
    let c := c.brkwCount n cLost (x.shiftedOut h d.toNat)
    let keep := x.seen.filter fun y => decide (dist 32 s y < h)
    (.accept, (c.setInst n { x with top := s, last := some s, seen := s :: keep, silent := false }).passed n)
  else if x.seen.contains s then (.discard, c.discarded n)
  else
    (.accept, ((c.setInst n { x with last := some s, seen := s :: x.seen, silent := false }).brkwCount n cOutOfOrder
      1).passed n)

/-- The match algorithm (R194): a number that is not the last accepted one plus 1 is out of order, also after a reset, which
the last number survives; top follows the highest accepted number, on which R189 builds. -/
def Chip.matchAlgo (c : Chip) (n s : Nat) : Verdict × Chip :=
  let x := c.inst n
  if x.takeAny || x.last != some s then
    let c := match x.last with
      | some l => if s != (l + 1) % 2 ^ 32 then c.brkwCount n cOutOfOrder 1 else c
      | none => c
    let x := c.inst n
    let top := if x.takeAny || decide (0 < dist 32 s x.top) then s else x.top
    (.accept, (c.setInst n { x with top := top, last := some s, takeAny := false, silent := false }).passed n)
  else (.discard, c.discarded n)

/-- The path of a copy that arrived on port p (R201): the first VALID entry that names it. -/
def Brkw.pathOf (x : Brkw) (p : Nat) : Option Nat :=
  (List.range 8).find? fun j => (x.paths.getD j BrkwPath.init).valid && (x.paths.getD j BrkwPath.init).port == p

def Brkw.path (x : Brkw) (j : Nat) : BrkwPath := x.paths.getD j BrkwPath.init
def Brkw.setPath (x : Brkw) (j : Nat) (y : BrkwPath) : Brkw := { x with paths := setAt x.paths j y }

/-! ### Offsets (R202) -/

/-- An offset sample of path j (R202). -/
def Chip.offsetSample (c : Chip) (n j : Nat) (v : Int) : Chip :=
  let x := c.inst n
  let y := x.path j
  let stepped := match c.brkw.stepAt with
    | some t => decide (c.now < t + nsT 1000000)
    | none => false
  if y.hold || stepped then c
  else
    let ofs := if y.samples = 0 then v else y.ofs + (v - y.ofs) / 16
    (c.setInst n (x.setPath j { y with ofs := ofs, samples := min 16 (y.samples + 1) })).pathCount n j 3

/-- The offset that normalises a path's copies: 0 until 16 samples (R202). -/
def Brkw.offset (x : Brkw) (j : Nat) : Int :=
  if j = x.cfg.refPath then 0 else if (x.path j).samples < 16 then 0 else (x.path j).ofs

/-- A copy that is not rogue takes part in offset learning (R202): its number meets those that arrived on the other
paths. -/
def Chip.learn (c : Chip) (n j s ts : Nat) : Chip :=
  let x := c.inst n
  if x.cfg.mode != modeAlign then c
  else
    let met := x.arrivals.filter fun a => a.1 == s && a.2.1 != j
    let again := x.arrivals.any fun a => a.1 == s && a.2.1 == j
    let c := if again then c
      else if j = x.cfg.refPath then met.foldl (fun c a => c.offsetSample n a.2.1 ((a.2.2 : Int) - ts)) c
      else match met.find? fun a => a.2.1 == x.cfg.refPath with
        | some a => c.offsetSample n j ((ts : Int) - a.2.2)
        | none => c
    let x := c.inst n
    let old := x.arrivals.filter fun a => decide (dist 32 x.top a.1 < x.cfg.histLen)
    c.setInst n { x with arrivals := if again then old else old ++ [(s, j, ts)] }

/-- The instance keeps its history in a region (R197). -/
def BrkwCfg.inRegion (x : BrkwCfg) : Bool :=
  x.mode == modeDeep || (x.mode == modeAlign && decide (4096 < x.histLen))

/-- Where the line of a history region lies that holds a number (R199: 512 numbers a line). -/
def Chip.histLine (c : Chip) (n s : Nat) : Option (Nat × Nat) :=
  let r := (c.inst n).cfg.histRegion
  let x := c.region r
  let line := s / 512 % (1024 * max 1 x.pages.length)
  match x.pages[line / 1024]? with
  | some p => some (r, storeAddr x.quad p (line % 1024 * 64))
  | none => none

/-- The history region is read for a copy (R199, R216): a line that cannot be corrected is rewritten as all numbers not
seen. -/
def Chip.historyRead (c : Chip) (n s : Nat) : Chip :=
  let x := c.inst n
  match (if x.cfg.inRegion then c.histLine n s else none) with
  | none => c
  | some (r, a) =>
    let (ok, c) := c.eccLine a
    if ok then c
    else
      let c := c.setStor (c.stor.written (stackOf a) [a])
      (c.setInst n { x with seen := x.seen.filter fun y => c.histLine n y != some (r, a) }).regCount r 7 1

/-- An accepted copy counts in FIRST of its path and takes part in learning (R201, R202): one from a port that is no path
counts, in ALIGN, as a copy of REF_PATH in all. -/
def Chip.firstOn (c : Chip) (n : Nat) (path : Option Nat) (s ts : Nat) : Chip :=
  let x := (c.inst n).cfg
  match path with
  | some j => (c.learn n j s ts).pathCount n j 1
  | none =>
    if x.mode = modeAlign then (((c.pathCount n x.refPath 0).learn n x.refPath s ts)).pathCount n x.refPath 1 else c

/-- A discarded copy takes part in learning if its port is a path (R202). -/
def Chip.learnOn (c : Chip) (n : Nat) (path : Option Nat) (s ts : Nat) : Chip :=
  match path with
  | some j => c.learn n j s ts
  | none => c

/-- The recovery algorithm judges number s of a copy on a path (R186, R193, R201, R202): its number and path when it is
accepted. -/
def Chip.judge (c : Chip) (n s ts : Nat) (path : Option Nat) : Option (Nat × Nat) × Chip :=
  let (v, c) := if (c.inst n).cfg.algo = 1 then c.matchAlgo n s else c.vector n s
  match v with
  | .accept => (some (s, path.getD (c.inst n).cfg.refPath), c.firstOn n path s ts)
  | .discard => (none, c.learnOn n path s ts)
  | .rogue => (none, c)

/-- Recovery of a copy at step 7 (R186, R188, R193, R195): its number and path when it is accepted. `none` as the port
stands for a copy that came over no port. -/
def Chip.recover (c : Chip) (n p ts : Nat) (b : Bytes) : Option (Nat × Nat) × Chip :=
  let x := c.inst n
  let path := x.pathOf p
  let c := match path with
    | some j => c.pathCount n j 0
    | none => c
  match c.recvNum n b with
  | none => (none, c.brkwCount n cTagless 1)
  | some s =>
    let y := match path with
      | some j => x.path j
      | none => BrkwPath.init
    let c := c.historyRead n s
    if x.cfg.individual && path.isSome && y.lastSeen == some s then (none, c.pathCount n (path.getD 0) 2)
    else
      let c := match path with
        | some j => c.setInst n ((c.inst n).setPath j { y with lastSeen := some s })
        | none => c
      c.judge n s ts path

/-- The line of a history region that holds number k, as the instance's history fills it (R199): one bit per number. -/
def Brkw.lineBytes (x : Brkw) (k : Nat) : Bytes :=
  (List.range 64).map fun j => BitVec.ofNat 8
    ((List.range 8).map fun i => bit (x.seen.contains (k / 512 * 512 + 8 * j + i)) * 2 ^ i).sum

/-- The history region is written when the line of number k has changed (R199): it has gained a bit, or it could not be
corrected (R216). `was` is the history before. -/
def State.historySync (s : State) (n k : Nat) (was : List Nat) : State :=
  let x := s.chip.inst n
  if !x.cfg.inRegion || x.seen == was then s
  else match s.chip.histLine n k with
    | some (_, a) => s.storeWrite a (x.lineBytes k)
    | none => s

/-! ### Resets (R196) -/

/-- take_any is set and the history is cleared; top stays (R196). A number that arrives again after it is another use of that
number: it gives no sample with an arrival before (R202). DEDUCED (notes/assumptions/199.md). -/
def Chip.seqReset (c : Chip) (n : Nat) : Chip :=
  let x := c.inst n
  (c.setInst n { x with takeAny := true, seen := [], arrivals := [] }).brkwCount n cResets 1

/-- RESET_MS_SILENCE (R196): no copy accepted for RESET_MS, once per silence. -/
def Chip.silence (c : Chip) (n : Nat) : Chip :=
  let x := c.inst n
  if x.cfg.resetMs = 0 ∨ x.cfg.mode = modeOff ∨ x.silent then c
  else (c.setInst n { x with silent := true }).seqReset n

def execResetMsSilence (n : Nat) (s : State) : Host.Outcome State Fault Refusal :=
  onChip (fun c => c.core fun c => c.silence n) s

/-! ### Latent errors (R210) -/

/-- LATENT_PERIOD: the difference is judged. -/
def Chip.latentPeriod (c : Chip) (n : Nat) : Chip :=
  let x := c.inst n
  let diff : Int := (x.passedP : Int) * (x.cfg.latentPaths - 1) - x.discardedP
  if x.cfg.latentEn && decide ((x.cfg.latentDiff : Int) < diff) then
    (c.brkwCount n cLatentErrors 1).report (0x6000 + (c.handle n).homeQ) 0x403 n
  else c

def execLatentPeriod (n : Nat) (s : State) : Host.Outcome State Fault Refusal :=
  onChip (fun c => c.core fun c => c.latentPeriod n) s

/-- LATENT_RESET: the private counts restart. -/
def Chip.latentReset (c : Chip) (n : Nat) : Chip :=
  let x := c.inst n
  if x.cfg.latentEn then (c.setInst n { x with passedP := 0, discardedP := 0 }).brkwCount n cLatentResets 1 else c

def execLatentReset (n : Nat) (s : State) : Host.Outcome State Fault Refusal :=
  onChip (fun c => c.core fun c => c.latentReset n) s

/-! ### Records (R213) -/

/-- The CFG record's fields. -/
def cfgOf (r : Nat) : BrkwCfg where
  mode := bits r 2 0
  algo := bits r 4 3
  individual := r.testBit 5
  seqSrc := bits r 7 6
  ext := bits r 8 8
  gen := bits r 10 9
  rtagPop := r.testBit 11
  latentEn := r.testBit 12
  refPath := bits r 15 13
  histLen := bits r 52 32
  skewNs := bits r 95 64
  resetMs := bits r 111 96
  latentDiff := bits r 127 112
  dlRegion := bits r 159 128
  histRegion := bits r 191 160
  genNext := bits r 223 192
  latentPaths := bits r 227 224
  latentPeriod := bits r 287 256
  latentReset := bits r 319 288

/-- The CFG record as it reads. -/
def BrkwCfg.word (x : BrkwCfg) : Nat :=
  x.mode + x.algo * 2 ^ 3 + bit x.individual * 2 ^ 5 + x.seqSrc * 2 ^ 6 + x.ext * 2 ^ 8 + x.gen * 2 ^ 9 +
    bit x.rtagPop * 2 ^ 11 + bit x.latentEn * 2 ^ 12 + x.refPath * 2 ^ 13 + x.histLen * 2 ^ 32 + x.skewNs * 2 ^ 64 +
    x.resetMs * 2 ^ 96 + x.latentDiff * 2 ^ 112 + x.dlRegion * 2 ^ 128 + x.histRegion * 2 ^ 160 +
    x.genNext * 2 ^ 192 + x.latentPaths * 2 ^ 224 + x.latentPeriod * 2 ^ 256 + x.latentReset * 2 ^ 288

/-- A PATHS entry as it reads, and as it is written. -/
def BrkwPath.word (y : BrkwPath) : Nat := bit y.valid * 2 ^ 63 + bit y.hold * 2 ^ 62 + y.port * 2 ^ 48
def pathEntry (r j : Nat) : Bool × Bool × Nat :=
  let w := r / 2 ^ (64 * j) % 2 ^ 64
  (w.testBit 63, w.testBit 62, bits w 55 48)

/-- No region. -/
def noRegion : Nat := 0xFFFFFFFF

/-- On-chip history bits of a record (R197, R198). -/
def BrkwCfg.poolBits (x : BrkwCfg) : Nat :=
  if x.mode = modePass ∨ (x.mode = modeAlign ∧ x.histLen ≤ 4096) then ceilDiv x.histLen 64 * 64 else 0

/-- History bits in use in a quadrant, without instance n (BITS_USED, R198). -/
def Chip.poolUsed (c : Chip) (q : Nat) (but : Option Nat) : Nat :=
  ((c.brkw.inst.filter fun e => but != some e.1 && (c.handle e.1).valid && (c.handle e.1).homeQ == q).map fun e =>
    e.2.cfg.poolBits).sum

/-- R27's floor in pages for a skew budget in ns, at a peak rate in kbit/s. -/
def dlFloor (peak skewNs : Nat) : Nat := max 1 (ceilDiv (peak * skewNs) (8 * 65536 * 1000000))

/-- A region that an instance may name (R198, R200). -/
def Chip.regionFits (c : Chip) (n r kind pages : Nat) : Bool :=
  let x := c.region r
  x.valid && x.kind == kind && x.handle == n && decide (pages ≤ x.pages.length)

/-- Pages of history that a length needs (R198). -/
def histPages (h : Nat) : Nat := ceilDiv h (8 * 65536)

/-- The ranges of a CFG record whatever the mode (R188, R194, R197, R210, R213). -/
def cfgRange (x : BrkwCfg) : Bool :=
  decide (x.mode ≤ 3) && decide (x.algo ≤ 1) && x.seqSrc != 3 && x.gen != 3 && (x.mode == modeOff || x.seqSrc != 0) &&
    !(x.algo == 1 && (x.mode == modeDeep || x.mode == modeAlign)) && decide (2 ≤ x.histLen) &&
    decide (x.histLen ≤ 1048576) && !(x.mode == modePass && decide (4096 < x.histLen)) && x.skewNs != 0xFFFFFFFF &&
    decide (2 ≤ x.latentPaths) && decide (x.latentPaths ≤ 8) &&
    !(x.latentEn && (x.latentPeriod == 0 || x.latentReset == 0))

/-- What ALIGN asks (R200), in its order: 0 or a code. -/
def Chip.alignCode (c : Chip) (n : Nat) (x : BrkwCfg) (paths : List BrkwPath) : Nat :=
  let h := c.handle n
  if !h.meterEn then rInUse
  else if x.skewNs < 1000 ∨ 2000000000 < x.skewNs then rParam
  else if !((c.egress n).all fun w => c.bTimed (poolBerth w)) then rParam
  else if !(paths.getD x.refPath BrkwPath.init).valid then rParam
  else if !c.regionFits n x.dlRegion 0 (dlFloor (c.handlePeak n) x.skewNs) then rNoResource
  else rOK

/-- A CFG record for instance n is judged (R187, R194, R197, R198, R200, R208): 0 or a code. -/
def Chip.cfgCode (c : Chip) (n : Nat) (x : BrkwCfg) (paths : List BrkwPath) : Nat :=
  let old := (c.inst n).cfg
  let h := c.handle n
  if !cfgRange x then rParam
  else if x.mode != modeOff && !h.valid then rNotFound
  else if old.mode == modeAlign && x.mode == modeAlign &&
      (x.skewNs != old.skewNs || x.dlRegion != old.dlRegion || x.refPath != old.refPath) then rLocked
  else if x.mode == modeAlign && c.alignCode n x paths != rOK then c.alignCode n x paths
  else if (x.inRegion || x.histRegion != noRegion) && !c.regionFits n x.histRegion 1 (histPages x.histLen) then
    rNoResource
  else if x.poolBits != 0 && decide (8388608 < c.poolUsed h.homeQ (some n) + x.poolBits) then rNoResource
  else rOK

/-! ### The delay line's rings (R203, R204, R208) -/

/-- Delay-line pages in use (DL_PAGES): those of the instance's own delay line, in ALIGN. -/
def Chip.dlPages (c : Chip) (n : Nat) : Nat :=
  let x := (c.inst n).cfg
  if x.mode == modeAlign && c.regionFits n x.dlRegion 0 0 then
    ((c.region x.dlRegion).rings.map fun e => e.2.pages.length).sum
  else 0

/-- DL_PEAK brought up to date. -/
def Chip.notePeak (c : Chip) (n : Nat) : Chip :=
  let x := c.inst n
  c.setInst n { x with dlPeak := max x.dlPeak (c.dlPages n) }

/-- Every frame in an instance's delay line is discarded and counted (R208, R209). -/
def Chip.dlFlush (c : Chip) (n : Nat) : Chip :=
  let r := (c.inst n).cfg.dlRegion
  let x := c.region r
  let k := (x.rings.map fun e => e.2.recs.length).sum
  if (c.inst n).cfg.mode = modeAlign && x.valid then
    (c.setRegion r { x with rings := x.rings.map fun e => (e.1, ⟨[], [], e.2.wr, e.2.wr⟩) }).brkwCount n cDlFlushed k
  else c

/-- A freeze has ended: every ALIGN instance discards its delay line (R209). -/
def Chip.dlFlushAll (c : Chip) : Chip := c.brkw.inst.foldl (fun c e => c.dlFlush e.1) c

/-! ### Writes -/

/-- A path entry's learning restarts (R201, R202). -/
def BrkwPath.restart (y : BrkwPath) : BrkwPath := { y with ofs := 0, samples := 0 }

/-- A CFG record takes effect (R196, R202, R208, R210). -/
def Chip.cfgApply (c : Chip) (n : Nat) (x : BrkwCfg) : Chip :=
  let old := (c.inst n).cfg
  let c := if old.mode = modeAlign ∧ x.mode ≠ modeAlign then c.dlFlush n else c
  let y := c.inst n
  let latent := x.latentEn && (!old.latentEn || x.latentPeriod != old.latentPeriod || x.latentReset != old.latentReset)
  let paths := if x.refPath = old.refPath then y.paths else y.paths.map BrkwPath.restart
  let arr := if x.mode = modeAlign ∧ x.refPath = old.refPath then y.arrivals else []
  let c := c.setInst n { y with cfg := x, paths := paths, arrivals := arr,
                                relTop := if x.mode = old.mode then y.relTop else 0,
                                passedP := if latent then 0 else y.passedP,
                                discardedP := if latent then 0 else y.discardedP }
  if x.mode != old.mode || x.algo != old.algo || x.histLen != old.histLen then c.seqReset n else c

/-- WRITE on CFG (R213). -/
def Chip.cfgWrite (c : Chip) (n r : Nat) : Nat × Chip :=
  let x := cfgOf r
  let code := c.cfgCode n x (c.inst n).paths
  if code = rOK then (rOK, c.cfgApply n x) else (code, c)

/-- A PATHS record changes the entry of path j, in VALID or PORT (R201). -/
def Brkw.pathChanges (x : Brkw) (r j : Nat) : Bool :=
  (x.path j).valid != (pathEntry r j).1 || (x.path j).port != (pathEntry r j).2.2

/-- The path table that a PATHS record gives (R201): a changed entry restarts its learning, a change of REF_PATH's
entry that of every path. -/
def Brkw.newPaths (x : Brkw) (r : Nat) : List BrkwPath :=
  let refChanged := x.pathChanges r x.cfg.refPath
  (List.range 8).map fun j =>
    let y := x.path j
    let e := pathEntry r j
    let z : BrkwPath := { y with valid := e.1, hold := e.2.1, port := e.2.2 }
    if x.pathChanges r j then { z.restart with lastSeen := none }
    else if refChanged then z.restart else z

/-- The entries of a PATHS record name valid ports, and ALIGN keeps its reference path (R5, R201, R213). -/
def Chip.pathsCode (c : Chip) (n r : Nat) : Nat :=
  let x := c.inst n
  if !((List.range 8).all fun j => !(pathEntry r j).1 || c.portValid (pathEntry r j).2.2) then rParam
  else if x.cfg.mode == modeAlign && !(pathEntry r x.cfg.refPath).1 then rParam
  else rOK

/-- The instance with a PATHS record (R201, R202): numbers that have arrived on paths left as they were still give
samples. -/
def Brkw.withPaths (x : Brkw) (r : Nat) : Brkw :=
  { x with
    paths := x.newPaths r
    arrivals := x.arrivals.filter fun a => !x.pathChanges r a.2.1 && !x.pathChanges r x.cfg.refPath }

/-- WRITE on PATHS (R201, R202, R213). -/
def Chip.pathsWrite (c : Chip) (n r : Nat) : Nat × Chip :=
  let code := c.pathsCode n r
  if code = rOK then (rOK, c.setInst n ((c.inst n).withPaths r)) else (code, c)

/-- CLEAR on COUNTERS: all fourteen, and DL_PEAK (R213). -/
def Chip.brkwClear (c : Chip) (n : Nat) : Chip :=
  let x := c.inst n
  (c.setInst n { x with dlPeak := c.dlPages n }).setBrkwS
    { (c.setInst n { x with dlPeak := c.dlPages n }).brkw with cnt := c.brkw.cnt.filter fun e => e.1 / 16 != n }

/-- CLEAR on PATH_CNT of one path (R213). -/
def Chip.pathClear (c : Chip) (n j : Nat) : Chip :=
  c.setBrkwS { c.brkw with pathCnt := c.brkw.pathCnt.filter fun e => e.1 / 4 != 8 * n + j }

/-! ### Reads -/

/-- The STATE record (R213). -/
def Chip.brkwState (c : Chip) (n : Nat) : Nat :=
  let x := c.inst n
  let valid (j : Nat) : Bool := if j = x.cfg.refPath then (x.path j).valid else decide (16 ≤ (x.path j).samples)
  let ofs (j : Nat) : Int := if j = x.cfg.refPath then 0 else (x.path j).ofs
  x.top + bit x.takeAny * 2 ^ 32 +
    ((List.range 8).map fun j => bit (valid j) * 2 ^ (40 + j) + ofInt 64 (ofs j) * 2 ^ (64 + 64 * j)).sum +
    c.dlPages n * 2 ^ 576 + x.dlPeak * 2 ^ 608

def Chip.brkwCntRec (c : Chip) (n : Nat) : Nat := ((List.range 14).map fun k => c.brkwCnt n k * 2 ^ (64 * k)).sum
def Chip.pathCntRec (c : Chip) (n j : Nat) : Nat := ((List.range 4).map fun k => c.pathCnt n j k * 2 ^ (64 * k)).sum
def Chip.pathsRec (c : Chip) (n : Nat) : Nat :=
  ((List.range 8).map fun j => ((c.inst n).path j).word * 2 ^ (64 * j)).sum

/-! ### BRKW_CMD (R212) -/

/-- The record window of sixteen words as one number, and filled. -/
def Chip.window (c : Chip) (f : Fld) : Nat := ((List.range 16).map fun i => c.fld f i * 2 ^ (64 * i)).sum
def Chip.setWindow (c : Chip) (f : Fld) (r : Nat) : Chip :=
  (List.range 16).foldl (fun c i => c.setF f i (r / 2 ^ (64 * i) % 2 ^ 64)) c

def Chip.brkwWin (c : Chip) (r : Nat) : Nat × Chip := (rOK, c.setWindow .BRKW_DATA_DATA r)

/-- The operation that a table and an operation code name (R212). -/
def Chip.brkwOp (c : Chip) (table op path : Nat) : Chip :=
  let n := c.fld .BRKW_INDEX_INSTANCE 0
  let r := c.window .BRKW_DATA_DATA
  let x : Nat × Chip := match table, op with
    | 0, 0 => c.brkwWin (c.inst n).cfg.word
    | 0, 1 => c.cfgWrite n r
    | 1, 0 => c.brkwWin (c.pathsRec n)
    | 1, 1 => c.pathsWrite n r
    | 2, 0 => c.brkwWin (c.brkwState n)
    | 2, 3 => (rOK, c.seqReset n)
    | 3, 0 => c.brkwWin (c.brkwCntRec n)
    | 3, 2 => (rOK, c.brkwClear n)
    | 4, 0 => c.brkwWin (c.pathCntRec n path)
    | 4, 2 => (rOK, c.pathClear n path)
    | _, _ => (rParam, c)
  x.2.setF .BRKW_STATUS_RESULT 0 x.1

/-- A write of BRKW_CMD (R212): the fields, and with START the operation, which runs whole within its step. -/
def Chip.wrBrkwCmd (c : Chip) (data : Nat) : Chip :=
  let c := ((c.setF .BRKW_CMD_PATH 0 (bits data 26 24)).setF .BRKW_CMD_TABLE 0 (bits data 23 20)).setF .BRKW_CMD_OP 0
    (bits data 19 16)
  if data.testBit 31 then c.brkwOp (bits data 23 20) (bits data 19 16) (bits data 26 24) else c

/-- A write of BRKW_CMD by a path. -/
def Chip.brkwCmd (c : Chip) (src : Src) (data : Nat) : Chip :=
  c.gated src .BRKW 0xB00008 fun c => c.wrBrkwCmd data

/-- A BRKW_CMD word for a table and an operation, START set, PATH as the command gives it. -/
def brkwWord (table op data : Nat) : Nat := 2 ^ 31 + bits data 26 24 * 2 ^ 24 + table * 2 ^ 20 + op * 2 ^ 16

/-- BRKW_CFG_WRITE (R196, R200, R208). -/
def execBrkwCfgWrite (src : Src) (data : Nat) (s : State) : Host.Outcome State Fault Refusal :=
  onChip (fun c => c.brkwCmd src (brkwWord 0 1 data)) s

/-- BRKW_PATHS_WRITE (R201). -/
def execBrkwPathsWrite (src : Src) (data : Nat) (s : State) : Host.Outcome State Fault Refusal :=
  onChip (fun c => c.brkwCmd src (brkwWord 1 1 data)) s

/-- BRKW_READ (R212): READ of the table that the command word names. -/
def execBrkwRead (src : Src) (data : Nat) (s : State) : Host.Outcome State Fault Refusal :=
  onChip (fun c => c.brkwCmd src (brkwWord (bits data 23 20) 0 data)) s

/-- BRKW_COUNTERS_CLEAR (R213). -/
def execBrkwCountersClear (src : Src) (data : Nat) (s : State) : Host.Outcome State Fault Refusal :=
  onChip (fun c => c.brkwCmd src (brkwWord 3 2 data)) s

/-- BRKW_PATH_CNT_CLEAR (R213). -/
def execBrkwPathCntClear (src : Src) (data : Nat) (s : State) : Host.Outcome State Fault Refusal :=
  onChip (fun c => c.brkwCmd src (brkwWord 4 2 data)) s

/-- BRKW_OP_RESET_SEQ (R196). -/
def execBrkwOpResetSeq (src : Src) (data : Nat) (s : State) : Host.Outcome State Fault Refusal :=
  onChip (fun c => c.brkwCmd src (brkwWord 2 3 data)) s

end Sys2Proof.Machine
end

