-- ==== Sys2Proof/Machine/Rings.lean ====
section
/-!
DEFINITION. Machine/Rings.lean: what enters and leaves the rings of the stream store: delay lines (R203), hold rings
(R225) and records (R229-R232), reads with their codes (R216), the request lines that watch them (R288, R289), and the
receive classes of the host (R286, R287).
-/
namespace Sys2Proof.Machine

/-! ### Counters of R239 -/

def kStored : Nat := 0
def kStoredBytes : Nat := 1
def kHolds : Nat := 2
def kHoldDiscards : Nat := 3
def kDrained : Nat := 4
def kRecordFull : Nat := 5
def kOverwritten : Nat := 6
def kEccDrops : Nat := 7
def kSpillLost : Nat := 8
def kReadFrames : Nat := 9
def kReadBytes : Nat := 10

/-! ### Channels (R275, R278) -/

def Chip.dmaCh (c : Chip) (ch : Nat) : DmaCh := kGet DmaCh.init c.dma.ch ch
def Chip.setDmaCh (c : Chip) (ch : Nat) (x : DmaCh) : Chip :=
  { c with dma := { c.dma with ch := kPut DmaCh.init c.dma.ch ch x } }

def Chip.dState (c : Chip) (ch : Nat) : Nat := c.fld .DMA_CH_STATUS_STATE ch

/-- The current descriptor replaced. -/
def Chip.setCur (c : Chip) (ch : Nat) (d : Option DmaCur) : Chip := c.setDmaCh ch { c.dmaCh ch with cur := d }

/-- The fields of a descriptor (R278). -/
def DmaCur.word (d : DmaCur) (k : Nat) : Nat := d.words.getD k 0
def DmaCur.kind (d : DmaCur) : Nat := d.word 0 % 16
def DmaCur.len (d : DmaCur) : Nat := d.word 1 % 2 ^ 32
def DmaCur.frameLen (d : DmaCur) : Nat := bits (d.word 1) 45 32
def DmaCur.src (d : DmaCur) : Nat := if d.kind = 1 ∨ d.kind = 2 then d.word 2 % 2 ^ 38 else d.word 2
def DmaCur.dst (d : DmaCur) : Nat := if d.kind = 0 ∨ d.kind = 2 then d.word 3 % 2 ^ 38 else d.word 3
def DmaCur.req (d : DmaCur) : Bool := (d.word 0).testBit 6
def DmaCur.launch (d : DmaCur) : Nat := d.word 4 + d.word 5 % 2 ^ 32 * 2 ^ 64
/-- Its data writes may carry Relaxed Ordering (R252, R278). -/
def DmaCur.roHint (d : DmaCur) : Bool := (d.word 0).testBit 5

/-! ### Reads of the host (R240, R252, R277, R281) -/

/-- The endpoint may issue requests (R250, R259, R266, R267). -/
def Chip.hostIssues (c : Chip) : Bool :=
  c.host.ready && c.host.cfg.busMaster && c.host.cfg.dstate == 0 && c.is .HOST_STATUS_LINK_UP 0 && !c.frozen &&
    !c.inReset

def Chip.setHost (c : Chip) (h : HostS) : Chip := { c with host := h }

/-- The least number from `t` on that a list does not hold, looking at `n` numbers. -/
def freeFrom (used : List Nat) : Nat → Nat → Nat
  | 0, t => t
  | n + 1, t => if used.contains t then freeFrom used n (t + 1) else t

/-- The tag of the next read, one that is neither outstanding nor quarantined (R256, R264): 14 bits in FLIT mode, else 10.
Which of them, a free value says (notes/assumptions/71.md). -/
def Chip.freeTag (c : Chip) : Nat × Chip :=
  c.choose ((c.host.reads.map fun r => r.tag) ++ c.host.quar.map fun e => e.1)
    (if c.fld .HOST_STATUS_SPEED 0 = 6 then 16384 else 1024)

/-- A read request goes out; none carries Relaxed Ordering (R252, R276; for data reads notes/assumptions/163.md). -/
def Chip.hostRead (c : Chip) (ch purpose target addr len : Nat) : Chip :=
  let (t, c) := c.freeTag
  (c.setHost { c.host with reads := c.host.reads ++ [⟨t, ch, purpose, target, len, []⟩] }).emit (.hostRead t addr len false)

/-- The flush read to the last line that a descriptor wrote (R281). -/
def Chip.flushRead (c : Chip) (ch : Nat) (d : DmaCur) : Chip :=
  (c.setCur ch (some { d with phase := 1 })).hostRead ch 2 0 (d.dst + (d.moved - 1) / 64 * 64) 0

/-- The data of a descriptor are written (R281): its flush read goes out, or waits while 1,024 reads are outstanding
(R277) or nothing may be issued; it is complete when it wrote nothing or needs none. -/
def Chip.dataDone (c : Chip) (ch : Nat) (d : DmaCur) : Chip :=
  if (d.kind = 1 ∨ d.kind = 4) ∧ 0 < d.moved then
    if c.hostIssues && c.dState ch == 1 && decide (c.host.reads.length < 1024) then c.flushRead ch d
    else c.setCur ch (some { d with phase := 3 })
  else c.setCur ch (some { d with phase := 2 })

/-! ### Request lines (R288, R289) -/

/-- The channel that a request line serves (R288). -/
def Chip.lineChannel (c : Chip) (r : Nat) : Option Nat :=
  (List.range 16).find? fun ch => c.is .DMA_CH_CFG_REQ_EN ch && c.fld .DMA_CH_CFG_REQ_LINE ch == r

/-- REQUEST_LINE_LOST (R289): the line clears EN and withdraws; its channel's descriptor ends REQ_LOST, after the flush
read of what it wrote (R281). -/
def Chip.lineLost (c : Chip) (r : Nat) : Chip :=
  let c := (c.setB .DMA_REQ_EN r false).setB .DMA_REQ_LOST_SEEN r true
  match c.lineChannel r with
  | none => c
  | some ch => match (c.dmaCh ch).cur with
    | some d => if d.req && d.phase == 0 then c.dataDone ch { d with status := 11 } else c
    | none => c

/-- Request lines of a region that have bytes yet to read on a page that is gone are lost (R289). -/
def Chip.linesGone (c : Chip) (r : Nat) (g : Ring) (gone : PageRef → Bool) : Chip :=
  (List.range 64).foldl (fun c l =>
    if c.is .DMA_REQ_EN l && c.fld .DMA_REQ_REGION l == r &&
        (g.pages.zipIdx.any fun e => gone e.1 && decide (c.fld .DMA_REQ_PTR l < g.endOf e.2 e.1)) then c.lineLost l
    else c) c

/-- Records have left a ring from behind its head: the lines that had not read them are lost (R289). -/
def Chip.linesLose (c : Chip) (r : Nat) (gone : List Rec) : Chip :=
  (List.range 64).foldl (fun c l =>
    if c.is .DMA_REQ_EN l && c.fld .DMA_REQ_REGION l == r &&
        (gone.any fun y => decide (c.fld .DMA_REQ_PTR l < y.off + y.size)) then c.lineLost l
    else c) c

/-- A region's ring has lost bytes before its new begin: the lines that had not read them are lost (R289). -/
def Chip.regionLost (c : Chip) (r : Nat) : Chip :=
  let rd := ((c.region r).ringOf 0).rd
  (List.range 64).foldl (fun c l =>
    if c.is .DMA_REQ_EN l && c.fld .DMA_REQ_REGION l == r && decide (c.fld .DMA_REQ_PTR l < rd) then c.lineLost l
    else c) c

/-! ### Leaving a ring -/

/-- The first record of ring k of region r leaves. -/
def Chip.popRing (c : Chip) (r k : Nat) : Chip :=
  let x := c.region r
  (c.setRegion r (x.setRing k (x.ringOf k).pop)).regionLost r

/-- A record of a frame, not a marker and not a gap. -/
def Rec.isFrame (x : Rec) : Bool := !x.marker

/-- Records leave the head of a ring while a condition holds, counted under `cnt` if they are frames; at most n. -/
def Chip.popWhile (c : Chip) (r k : Nat) (cnt : Option Nat) (p : Chip → Rec → Bool) : Nat → Chip
  | 0 => c
  | n + 1 =>
    match ((c.region r).ringOf k).recs with
    | [] => c
    | x :: _ =>
      if p c x then
        let c := c.popRing r k
        let c := match cnt with
          | some m => if x.isFrame then c.regCount r m 1 else c
          | none => c
        Chip.popWhile c r k cnt p n
      else c

/-- Window copies of pages that are also on the drive are given up when the ring needs their places (R235). -/
def Region.dropCopies (x : Region) : Region :=
  { x with rings := x.rings.map fun e => (e.1, { e.2 with pages := e.2.pages.map fun p =>
      if p.drive.isSome then { p with win := false } else p }) }

/-- A record of n bytes of frame data would fit in ring k (R220). -/
def Chip.ringFits (c : Chip) (r k time n : Nat) : Bool :=
  let x := (c.region r).dropCopies
  ((x.ringOf k).grow time (8 + n) x.idle).isSome

/-- A record appended, window copies given up if need be; a whole frame counts as stored at once, one that is still
being received at its end (R220, R239). -/
def State.put (s : State) (r k : Nat) (rec : Rec) (data : Bytes) : Bool × State :=
  let x := s.chip.region r
  let s := if ((x.ringOf k).grow rec.time (8 + data.length) x.idle).isSome then s
    else s.on fun c => c.setRegion r x.dropCopies
  let (ok, s) := s.ringAppend r k { rec with f := { rec.f with bytes := [] } } data
  (ok, s.on fun c => if ok && rec.isFrame && rec.f.rx.isNone then
    (c.regCount r kStored 1).regCount r kStoredBytes (data.length + 4) else c)

/-! ### Hold rings (R225) -/

/-- The hold region of a handle bound to a port (R223). -/
def Chip.holdOf (c : Chip) (h p : Nat) : Option Nat :=
  (c.regions.find? fun e => e.2.kind == 2 && e.2.handle == h && e.2.bound && e.2.port == p).map fun e => e.1

/-- Frames of a hold ring that are older than AGE_MS are discarded (R225). -/
def Chip.ageOut (c : Chip) (r : Nat) : Chip :=
  let x := c.region r
  let g := x.ringOf 0
  let age := nsT (x.ageMs * 1000000)
  let old (y : Rec) : Bool := age != 0 && decide ((y.time : Int) < (c.now : Int) - age)
  if g.recs.any old then
    (((c.setRegion r (x.setRing 0 (g.left (g.recs.filter fun y => !old y)))).regCount r kHoldDiscards
      (g.recs.countP old)).linesLose r (g.recs.filter old)).regionLost r
  else c

/-- HOLD_RING_STORE (R225): old frames are discarded by age and for room; then the frame is written. -/
def State.holdStore (s : State) (r : Nat) (f : Frame) (o : Nat) : State :=
  let s := s.on fun c => c.ageOut r
  let n := ((s.chip.region r).ringOf 0).recs.length
  let s := s.on fun c => c.popWhile r 0 (some kHoldDiscards) (fun c _ => !c.ringFits r 0 o f.bytes.length) n
  let (ok, s) := s.put r 0 ⟨0, o, 0, false, 0, f, 0, false⟩ f.bytes
  if ok then s else s.on fun c => c.regCount r kHoldDiscards 1

/-! ### Records (R229-R232) -/

/-- A cursor ends (R234). -/
def Chip.endCursor (c : Chip) (k cause : Nat) : Chip :=
  let x := c.cursor k
  if x.state = 1 then c.setCursor k { x with state := 2, cause := cause } else c

/-- Cursors of a region end when the record that they read next is no longer stored (R231, R237): `was` are the records before,
`cause` the END_CAUSE. -/
def Chip.cursorsLose (c : Chip) (r : Nat) (was : List Rec) (cause : Nat) : Chip :=
  let kept := ((c.region r).ringOf 0).recs.map fun y => y.off
  c.stor.cursors.foldl (fun c e =>
    match was.find? fun y => decide (e.2.next ≤ y.off) with
    | some y => if e.2.state == 1 && e.2.region == r && !kept.contains y.off then c.endCursor e.1 cause else c
    | none => c) c

/-- Records of a ring of which some lies on pages that are gone leave it (R231, R237). -/
def Ring.without (g : Ring) (gone : PageRef → Bool) : Ring :=
  let recs := g.recs.filter fun r => !(g.pagesOf r.off r.size).any gone
  ({ g with pages := g.pages.filter fun p => !gone p } : Ring).left recs

/-- A page of a record is reclaimed (R231): the frames lost from it count in OVERWRITTEN. -/
def Chip.reclaimPage (c : Chip) (r : Nat) (p : PageRef) : Chip :=
  let x := c.region r
  let g := x.ringOf 0
  let gone (q : PageRef) : Bool := q == p
  let h := g.without gone
  let n := g.recs.countP (fun y => y.isFrame) - h.recs.countP fun y => y.isFrame
  (((c.linesGone r g gone).setRegion r (x.setRing 0 h)).regCount r kOverwritten n).cursorsLose r g.recs 3

/-- The oldest page of a record's window is reclaimed (R231). DESIGN CHOICE: pages that lie on a drive give no room in the window
and stay (notes/assumptions/200.md). -/
def Chip.reclaim (c : Chip) (r : Nat) : Chip :=
  match ((c.region r).ringOf 0).pages.find? fun p => p.win && p.drive.isNone with
  | none => c
  | some p => c.reclaimPage r p

/-- Pages of a ring record are reclaimed until a record fits; at most n. -/
def Chip.reclaimFor (c : Chip) (r time len : Nat) : Nat → Chip
  | 0 => c
  | n + 1 => if c.ringFits r 0 time len then c else Chip.reclaimFor (c.reclaim r) r time len n

/-- A frame or marker for a record region with ARM = 1 (R229, R231, R232). -/
def State.recordPut (s : State) (r : Nat) (rec : Rec) (data : Bytes) : State :=
  let x := s.chip.region r
  let s := if x.ring then s.on fun c => c.reclaimFor r rec.time data.length (x.ringOf 0).pages.length else s
  let (ok, s) := s.put r 0 rec data
  if ok || rec.marker then s else s.on fun c => c.regCount r kRecordFull 1

/-- The armed record region of a handle. -/
def Chip.recordOf (c : Chip) (h : Nat) : Option Nat :=
  (c.regions.find? fun e => e.2.kind == 3 && e.2.handle == h && e.2.arm).map fun e => e.1

/-- RECORD_TAP (R22, R229, R230). -/
def State.recordTap (s : State) (h : Nat) (f : Frame) (index : Nat) : State :=
  match s.chip.recordOf h with
  | some r => s.recordPut r ⟨0, index, 0, false, 0, f, 0, false⟩ f.bytes
  | none => s

/-- An empty frame, which a marker carries. -/
def Frame.blank : Frame := ⟨[], some 0, false, 0, none, none, none, false, none⟩

/-- STEP markers in every armed record (R232). -/
def State.stepMarkers (s : State) (t : Nat) : State :=
  (s.chip.regions.filter fun e => e.2.kind == 3 && e.2.arm).foldl
    (fun s e => s.recordPut e.1 ⟨0, t, 0, true, 0, Frame.blank, 0, false⟩ []) s

/-! ### Reads (R216) -/

/-- What a read of a record gives. -/
inductive ReadRes where
  /-- The frame, with its content from the store. -/
  | good (f : Frame)
  /-- A line of its content cannot be corrected. -/
  | bad
  /-- Its record word cannot be corrected: the rest of the page is lost. -/
  | wordBad
  deriving DecidableEq, Repr

/-- A record is read from a ring. -/
def State.readRec (s : State) (r k : Nat) (rec : Rec) : ReadRes × State :=
  let x := s.chip.region r
  let g := x.ringOf k
  let (_, okW, s) := s.ringGet x.quad g rec.off 8
  if !okW then (.wordBad, s.on fun c => c.regCount r kEccDrops 1)
  else if rec.len = 0 then (.good rec.f, s)
  else
    let (b, ok, s) := s.ringGet x.quad g (rec.off + 8) rec.len
    if ok then (.good { rec.f with bytes := b, elen := some (rec.len + 4) },
        s.on fun c => (c.regCount r kReadFrames 1).regCount r kReadBytes (rec.len + 4))
    else (.bad, s.on fun c => c.regCount r kEccDrops 1)

/-- Where the page of a ring that holds an offset ends. -/
def Ring.pageEnd (g : Ring) (off : Nat) : Nat :=
  match g.pages.find? fun p => decide (off < p.start) with
  | some p => p.start
  | none => g.wr

/-- n bytes from an offset lie in the window, so that they can be read (R235). -/
def Ring.inWindow (g : Ring) (off n : Nat) : Bool := (g.pagesOf off n).all fun p => p.win

/-- The head of a ring is read and leaves it; a record word in error takes the rest of its page with it (R216). -/
def State.readHead (s : State) (r k : Nat) : Option Frame × State :=
  let g := (s.chip.region r).ringOf k
  match g.recs with
  | [] => (none, s)
  | x :: _ =>
    if x.gap then (none, s.on fun c => c.popRing r k)
    else
      let (res, s) := s.readRec r k x
      match res with
      | .good f => (some f, s.on fun c => c.popRing r k)
      | .bad => (none, s.on fun c => c.popRing r k)
      | .wordBad =>
        let end_ := g.pageEnd x.off
        (none, s.on fun c => c.popWhile r k none (fun _ y => decide (y.off < end_)) g.recs.length)

/-! ### Receive classes (R286, R287) -/

def Chip.cls (c : Chip) (k : Nat) : List RxItem := kGet [] c.dma.cls k
def Chip.setCls (c : Chip) (k : Nat) (l : List RxItem) : Chip :=
  { c with dma := { c.dma with cls := kPut [] c.dma.cls k l } }

/-- The channel that serves a receive class (R286). -/
def Chip.classChannel (c : Chip) (k : Nat) : Option Nat :=
  (List.range 16).find? fun ch => c.is .DMA_CH_CFG_RX_EN ch && c.fld .DMA_CH_CFG_RX_CLASS ch == k

/-- Slots of a channel's ring that wait to start (R275). -/
def Chip.waitingSlots (c : Chip) (ch : Nat) : Nat :=
  let n := 2 ^ c.fld .DMA_CH_CFG_SIZE_LOG2 ch
  (c.fld .DMA_CH_TAIL_TAIL ch + n - c.fld .DMA_CH_HEAD_HEAD ch % n) % n

/-- The queue of class k holds a frame and its channel has no descriptor available for it: none waits to start, and none
has started that waits for a frame (R287). -/
def Chip.starved (c : Chip) (k ch : Nat) : Bool :=
  (c.cls k) != [] && c.waitingSlots ch == 0 &&
    match (c.dmaCh ch).cur with
    | some d => d.phase != 0
    | none => true

/-- Source 24 + k when the queue first holds a frame with no descriptor available (R287): `was` says that it did before. -/
def Chip.classStarved (c : Chip) (k ch : Nat) (was : Bool) : Chip :=
  if c.starved k ch && !was then c.raise (24 + k) else c

/-- A frame for class k (R286, R287): false when no channel of the class runs. -/
def Chip.classFrame (c : Chip) (k : Nat) (f : Frame) (reason : Nat) : Bool × Chip :=
  match c.classChannel k with
  | none => (false, c.count 64 .DMA_RX_CNT_RX_NO_RING k)
  | some ch =>
    if c.fld .DMA_CH_STATUS_STATE ch != 1 then (false, c.count 64 .DMA_RX_CNT_RX_NO_RING k)
    else
      let q := c.cls k
      if 262144 < ((q.map fun i => i.f.bytes.length).sum + f.bytes.length) then
        (true, c.count 64 .DMA_RX_CNT_RX_NO_DESC k)
      else
        (true, ((c.setCls k (q ++ [⟨f, reason⟩])).classStarved k ch (c.starved k ch)).noteShare 0)

end Sys2Proof.Machine
end

