-- ==== Sys2Proof/Machine/Abort.lean ====
section
/-!
DEFINITION. Machine/Abort.lean: what the end of a reception does to the copies of its frame that are already on their way:
whole when it ends well (R117, R169, R220), cut short or discarded when it does not (R168).
-/
namespace Sys2Proof.Machine

/-- The frame is one that reception `id` brings. -/
def Frame.of (f : Frame) (id : Nat) : Bool := f.rx == some id

/-- A frame whose receive the MAC has passed: its length is known (R117, R168). -/
def Frame.passed (f : Frame) (id : Nat) : Frame :=
  if f.rx = some id then { f with rx := none, elen := some (max 64 (f.bytes.length + 4)) } else f

/-- A frame whose receive ended badly after it had begun to leave: it ends where the reception did (R168). -/
def Frame.ended (f : Frame) : Frame :=
  { f with rx := none, elen := some (f.elen.getD (max 64 (f.bytes.length + 4))) }

def Item.passed (i : Item) (id : Nat) : Item := { i with f := i.f.passed id }
def Staged.passed (s : Staged) (id : Nat) : Staged := { s with it := s.it.passed id }

/-- The wire of a port when reception `id` ends well: the frame's true length ends it. A frame found longer than MAX_FRAME
leaves with a bad check sequence and counts once, and no remainder of it follows (R169). -/
def Chip.wirePassed (c : Chip) (p id : Nat) : Chip :=
  match (c.port p).wire with
  | none => c
  | some w =>
    if !w.f.of id then c
    else
      let f := w.f.passed id
      if w.f.elen.isNone && decide (c.fld .PORT_CFG_MAX_FRAME p < f.len) then
        let part := (c.port p).part.filter fun r => !r.f.of id
        (((c.setPort p { c.port p with wire := none, part := part }).noteBusy p w.start w.stop).count 64
          .PORT_CNT_TX_OVERSIZE p).emit (.badFcs p)
      else
        let stop := if w.more then w.stop else w.start + c.wireTime p (f.len - w.sent + 20)
        c.setPort p { c.port p with wire := some { w with f := f, stop := stop } }

def Part.passed (r : Part) (id : Nat) : Part := { r with f := r.f.passed id }
def PortS.passed (x : PortS) (id : Nat) : PortS :=
  { x with part := x.part.map fun r => r.passed id, late := x.late.map fun s => s.passed id }
def BerthS.passed (x : BerthS) (id : Nat) : BerthS := { x with queue := x.queue.map fun i => i.passed id }
def QuayS.passed (x : QuayS) (id : Nat) : QuayS := ⟨x.transit.map fun s => s.passed id, x.staged.map fun s => s.passed id⟩
def RxItem.passed (x : RxItem) (id : Nat) : RxItem := { x with f := x.f.passed id }
def PendCopy.passed (x : PendCopy) (id : Nat) : PendCopy := { x with f := x.f.passed id }

/-- Frames in ports, Berths and Quays when reception `id` ends well. -/
def PlaneS.passed (x : PlaneS) (id : Nat) : PlaneS :=
  { x with ports := x.ports.map fun e => (e.1, e.2.passed id), berths := x.berths.map fun e => (e.1, e.2.passed id),
           quay := x.quay.map fun e => (e.1, e.2.passed id) }

/-- A record of reception `id`, its frame whole. -/
def Rec.passed (r : Rec) (id : Nat) : Rec :=
  if r.f.of id then { r with f := { r.f with rx := none, elen := some (r.len + 4) } } else r

/-- The records that reception `id` wrote to a region. -/
def Region.recsOf (x : Region) (id : Nat) : List Rec := x.rings.flatMap fun g => g.2.recs.filter fun r => r.f.of id

/-- A region when reception `id` ends well: its frames count as stored (R220). -/
def Chip.regionGood (c : Chip) (r id : Nat) : Chip :=
  let x := c.region r
  match x.recsOf id with
  | [] => c
  | l =>
    let rings : KMap Ring := x.rings.map fun g => (g.1, { g.2 with recs := g.2.recs.map fun y => y.passed id })
    ((c.setRegion r { x with rings := rings }).regCount r kStored l.length).regCount r kStoredBytes
      (l.map fun y => y.len + 4).sum

/-- A reception ends well: every copy of its frame is whole. -/
def Chip.rxGood (c : Chip) (id : Nat) : Chip :=
  let c : Chip := c.plane.ports.foldl (fun c e => c.wirePassed e.1 id) c
  let c : Chip := c.setPlane (c.plane.passed id)
  let cls : KMap (List RxItem) := c.dma.cls.map fun e => (e.1, e.2.map fun i => i.passed id)
  let c : Chip := { c with dma := { c.dma with cls := cls },
                           duo := { c.duo with pend := c.duo.pend.map fun x => x.passed id } }
  c.stor.regions.foldl (fun c e => c.regionGood e.1 id) c

/-- CUT_THROUGH_ABORT at one port (R168): the copy on the wire or part-sent ends, at its end, with a bad check sequence;
late copies that have not started are discarded. -/
def Chip.portAbort (c : Chip) (p id : Nat) : Chip :=
  let x := c.port p
  let gone := x.late.filter fun s => s.it.f.of id
  let stop (w : Wire) (f : Frame) : Nat := if w.more then w.stop else w.start + c.wireTime p (f.len - w.sent + 20)
  let wire := x.wire.map fun w => if w.f.of id then { w with bad := true, f := w.f.ended, stop := stop w w.f.ended } else w
  let part := x.part.map fun r => if r.f.of id then { r with bad := true, f := r.f.ended } else r
  let c := c.setPort p { x with late := x.late.filter (fun s => !s.it.f.of id), wire := wire, part := part }
  gone.foldl (fun c s => c.bDrop s.berth) c

/-- Copies of reception `id` waiting in a Berth are discarded (R168). DESIGN CHOICE: the next head of a fair Berth in the race
keeps the finish tag that the discarded head carried; R118 and R168 give it none (notes/assumptions/154.md). -/
def Chip.berthAbort (c : Chip) (b id : Nat) : Chip :=
  let x := c.berth b
  let n := x.queue.countP fun i => i.f.of id
  if n = 0 then c
  else ((c.setBerth b { x with queue := x.queue.filter fun i => !i.f.of id }).countN 16 .SCHD_BERTH_CNT_DROPPED b
    n).race b

/-- Copies of reception `id` in a Quay or on the way there are discarded (R168). -/
def Chip.quayAbort (c : Chip) (g id : Nat) : Chip :=
  let x := c.quay g
  let gone := (x.transit ++ x.staged).filter fun s => s.it.f.of id
  gone.foldl (fun c s => c.bDrop s.berth)
    (c.setQuay g ⟨x.transit.filter fun s => !s.it.f.of id, x.staged.filter fun s => !s.it.f.of id⟩)

/-- Records that reception `id` left unfinished are removed (R220). -/
def Chip.regionAbort (c : Chip) (r id : Nat) : Chip :=
  let x := c.region r
  match x.recsOf id with
  | [] => c
  | _ =>
    let rings : KMap Ring := x.rings.map fun g => (g.1, g.2.unwrite id)
    c.setRegion r { x with rings := rings }

/-- A reception ends badly (R168, R220): copies not yet started are discarded, partly written records removed. -/
def Chip.rxBad (c : Chip) (id : Nat) : Chip :=
  let c : Chip := c.plane.ports.foldl (fun c e => c.portAbort e.1 id) c
  let c : Chip := c.plane.berths.foldl (fun c e => c.berthAbort e.1 id) c
  let c : Chip := c.plane.quay.foldl (fun c e => c.quayAbort e.1 id) c
  let cls : KMap (List RxItem) := c.dma.cls.map fun e => (e.1, e.2.filter fun i => !i.f.of id)
  let c : Chip := { c with dma := { c.dma with cls := cls },
                           duo := { c.duo with pend := c.duo.pend.filter fun x => !x.f.of id } }
  c.stor.regions.foldl (fun c e => c.regionAbort e.1 id) c

end Sys2Proof.Machine
end

