-- ==== Sys2Proof/Machine/Ports.lean ====
section
/-!
DEFINITION. Machine/Ports.lean: engines, port layouts, links, FEC and MAC merge verification
(07_ports_optics_and_mac_merge.md).
-/
namespace Sys2Proof.Machine

/-- A dropped PORT write (R165, R184): of a port, and of a group. -/
def Chip.portBad (c : Chip) (p off : Nat) : Chip := c.report (0x2000 + p) 0x208 off
def Chip.grpBad (c : Chip) (g off : Nat) : Chip := c.report (0x2100 + g) 0x208 off

def grpOff (g : Nat) : Nat := 0x100000 + 0x10000 * g
def portOff (p : Nat) : Nat := grpOff (p / 8) + 0x1000 + 0x1000 * (p % 8)

/-! ### Links (R174-R176) -/

/-- A port sends remote fault (R166, R174): in ACQUIRING, while local fault is present. -/
def Chip.sendsFault (c : Chip) (p : Nat) : Bool := c.link p == 1 && c.is .PORT_STATUS_LOCAL_FAULT p

/-- What a port sends follows its link state and its local fault; `was` says whether it sent remote fault before. -/
def Chip.signal (c : Chip) (p : Nat) (was : Bool) : Chip :=
  if c.sendsFault p = was then c else c.emit (.remoteFault p (!was))

/-- A port's local fault is present or has gone. -/
def Chip.setLocal (c : Chip) (p : Nat) (v : Bool) : Chip :=
  (c.setB .PORT_STATUS_LOCAL_FAULT p v).signal p (c.sendsFault p)

/-- A port's link state changes; Fened logs it (R176). -/
def Chip.setLink (c : Chip) (p st : Nat) : Chip :=
  if c.link p = st then c
  else
    let old := c.link p
    ((c.setF .PORT_STATUS_LINK_STATE p st).signal p (c.sendsFault p)).event 0x0030
      (toLE 1 p ++ toLE 1 old ++ toLE 1 st)

/-- Verification starts (R179): a verify mPacket is sent. -/
def Chip.verifyStart (c : Chip) (p : Nat) : Chip :=
  ((c.setF .PORT_MM_STATUS_VERIFY p 2).setPort p { c.port p with tries := 1 }).emit (.verify p)

/-- The verify status goes back to INITIAL, and starts at once if the port is UP or DOWN_HOLD (R179). -/
def Chip.verifyInit (c : Chip) (p : Nat) : Chip :=
  if !c.is .PORT_MM_CFG_MM_EN p || !c.is .PORT_MM_CFG_VERIFY_EN p then c
  else if c.linkUp p then c.verifyStart p
  else c.setF .PORT_MM_STATUS_VERIFY p 1

/-- The frame on the wire, part-sent or selected when a port leaves UP and DOWN_HOLD is lost (R174, R176, R182);
`counted` is false when a mode change stops the port (R164). -/
def Chip.cutPort (c : Chip) (p : Nat) (counted : Bool) : Chip :=
  let c := c.settle p false
  let x := c.port p
  let g := p / 8
  let y := c.quay g
  let gone := (y.staged.filter fun s => s.port == p).length + (y.transit.filter fun s => s.port == p).length +
    x.late.length + (if x.part.isSome then 1 else 0) +
    (match x.wire with | some w => if w.more then 0 else 1 | none => 0)
  let c := match x.wire with
    | some _ => c.emit (.badFcs p)
    | none => c
  let c := c.setQuay g ⟨y.transit.filter fun s => s.port != p, y.staged.filter fun s => s.port != p⟩
  let c := c.setPort p { c.port p with wire := none, part := none, late := [] }
  if counted then c.countN 64 .PORT_CNT_TX_ABORTS p gone else c

/-- A move out of UP and DOWN_HOLD to ACQUIRING or DISABLED (R174, R176, R179). -/
def Chip.linkDrop (c : Chip) (p st : Nat) : Chip :=
  let up := c.linkUp p
  let c := if up then
      ((c.cutPort p true).count 64 .PORT_CNT_LINK_DOWNS p).setB .PORT_STATUS_LINK_DOWN_SEEN p true else c
  let c := c.setLink p st
  if up then c.verifyInit p else c

/-- A port's engine runs and ENABLE is 1: it acquires; otherwise it is DISABLED (R174). -/
def Chip.linkBase (c : Chip) (p : Nat) : Chip :=
  if c.is .PORT_CFG_ENABLE p && c.engRun (p / 8) then (if c.link p = 0 then c.setLink p 1 else c)
  else if c.link p = 0 then c else c.linkDrop p 0

/-- Every port of a group after its engine or its layout changed. -/
def Chip.groupBase (c : Chip) (g : Nat) : Chip := (c.groupPorts g).foldl Chip.linkBase c

/-- A port has a fault (R176). -/
def Chip.faulty (c : Chip) (p : Nat) : Bool := c.is .PORT_STATUS_LOCAL_FAULT p || c.is .PORT_STATUS_REMOTE_FAULT p

/-- The live values of a port's lanes. -/
def Chip.setLanes (c : Chip) (p : Nat) (ls : List LaneState) : Chip :=
  (ls.take (c.lanes p)).zipIdx.foldl (fun c e =>
    let i := p + e.2
    ((((c.setB .PORT_LANE_SIGNAL i e.1.signal).setB .PORT_LANE_CDR_LOCK i e.1.cdrLock).setB .PORT_LANE_AM_LOCK i
      e.1.amLock).setF .PORT_LANE_RX_POWER i (e.1.rxPower % 65536)).setF .PORT_LANE_TX_POWER i (e.1.txPower % 65536)) c

/-- DOWN_HOLD_US; the duo link's port is treated as if it were 0 (R176, R371). -/
def Chip.downHold (c : Chip) (p : Nat) : Nat := if c.duoPort p then 0 else c.fld .PORT_CFG_DOWN_HOLD_US p

/-- A fault on a port (R175, R176). -/
def Chip.linkFault (c : Chip) (p : Nat) : Chip :=
  match c.link p with
  | 2 => c.setLink p 1
  | 3 => if c.downHold p = 0 then c.linkDrop p 1 else c.setLink p 4
  | _ => c

def Chip.localFault (c : Chip) (p : Nat) (ls : List LaneState) : Chip :=
  if !c.portValid p then c else ((c.setLanes p ls).setLocal p true).linkFault p

def Chip.remoteFault (c : Chip) (p : Nat) : Chip :=
  if !c.portValid p then c else (c.setB .PORT_STATUS_REMOTE_FAULT p true).linkFault p

/-- DOWN_HOLD ends in UP with no fault, in ACQUIRING otherwise (R176). -/
def Chip.downHoldEnd (c : Chip) (p : Nat) : Chip :=
  if c.link p ≠ 4 then c else if c.faulty p then c.linkDrop p 1 else c.setLink p 3

/-- UP_HOLD has lasted UP_HOLD_MS with no fault: the port is UP, and verification starts (R175, R179). -/
def Chip.upHoldEnd (c : Chip) (p : Nat) : Chip :=
  if c.link p ≠ 2 || c.faulty p then c
  else
    let c := c.setLink p 3
    if c.is .PORT_MM_CFG_MM_EN p && c.is .PORT_MM_CFG_VERIFY_EN p then c.verifyStart p else c

/-- RECEIVE_ALIGNED (R175): the lanes are aligned with FEC locked and no fault; ACQUIRING becomes UP_HOLD, which
UP_HOLD_MS = 0 does not hold. -/
def Chip.aligned (c : Chip) (p : Nat) (ls : List LaneState) : Chip :=
  if !c.portValid p then c
  else
    let c := ((c.setLanes p ls).setLocal p false).setB .PORT_STATUS_REMOTE_FAULT p false
    if c.link p = 1 then
      let c := c.setLink p 2
      if c.fld .PORT_CFG_UP_HOLD_MS p = 0 then c.upHoldEnd p else c
    else c

def execReceiveAligned (p : Nat) (lanes : List LaneState) (s : State) : Host.Outcome State Fault Refusal :=
  onChip (fun c => c.core fun c => c.aligned p lanes) s

/-- UP_HOLD_EXPIRY (R175). -/
def execUpHoldExpiry (p : Nat) (s : State) : Host.Outcome State Fault Refusal :=
  onChip (fun c => c.core fun c => if c.portValid p then c.upHoldEnd p else c) s

/-- A write of PORT_CFG (R174, R184). -/
def Chip.wrPortCfg (c : Chip) (p data : Nat) : Chip :=
  if !c.portValid p then c
  else if bits data 45 32 < 64 ∨ 9728 < bits data 45 32 then c.portBad p (portOff p)
  else (c.writeFields (regFields .PORT .PORT_CFG) p data).linkBase p

/-! ### FEC (R177) -/

/-- FEC_WINDOW (R177): a lane's 1 ms window ends with so many corrected symbols and codewords. -/
def Chip.fecWindow (c : Chip) (p lane symbols corr uncorr : Nat) : Chip :=
  if lane ≥ c.lanes p then c
  else
    let c := c.countN 64 .PORT_LANE_FEC_SYMBOLS (p + lane) symbols
    let c := (c.countN 64 .PORT_CNT_FEC_CORR_CW p corr).countN 64 .PORT_CNT_FEC_UNCORR_CW p uncorr
    let x := c.port p
    let others := x.fecOk.filter fun l => l != lane
    let low := if symbols < c.fld .PORT_FEC_CFG_DEG_CLR p then lane :: others else others
    let c := c.setPort p { x with fecOk := low }
    if c.fld .PORT_FEC_CFG_DEG_SET p ≤ symbols then
      (c.setB .PORT_STATUS_FEC_DEGRADED p true).report (0x2000 + p) 0x206 lane
    else if low.length = c.lanes p then c.setB .PORT_STATUS_FEC_DEGRADED p false
    else c

def execFecWindow (p lane symbols corr uncorr : Nat) (s : State) : Host.Outcome State Fault Refusal :=
  onChip (fun c => c.core fun c => c.fecWindow p lane symbols corr uncorr) s

/-- A write of PORT_FEC_CFG (R177, R184). -/
def Chip.wrFecCfg (c : Chip) (p data : Nat) : Chip :=
  if !c.portValid p then c
  else if bits data 31 16 = 0 ∨ bits data 31 16 ≤ bits data 15 0 then c.portBad p (portOff p + 0x10)
  else c.writeFields (regFields .PORT .PORT_FEC_CFG) p data

/-! ### MAC merge (R178-R183) -/

/-- A write of PORT_MM_CFG (R179, R184). -/
def Chip.wrMmCfg (c : Chip) (p data : Nat) : Chip :=
  if !c.portValid p then c
  else if bits data 23 16 = 0 ∨ 128 < bits data 23 16 then c.portBad p (portOff p + 0x18)
  else
    let mm0 := c.is .PORT_MM_CFG_MM_EN p
    let ve0 := c.is .PORT_MM_CFG_VERIFY_EN p
    let c := c.writeFields (regFields .PORT .PORT_MM_CFG) p data
    let mm := data.testBit 31
    let ve := data.testBit 30
    if !mm then c.setF .PORT_MM_STATUS_VERIFY p 0
    else if !ve then c.setF .PORT_MM_STATUS_VERIFY p 5
    else if data.testBit 29 || !mm0 || !ve0 then c.verifyInit p
    else c

/-- PORT_MM_RESTART (R179): a write of PORT_MM_CFG with RESTART set. -/
def execPortMmRestart (src : Src) (p data : Nat) (s : State) : Host.Outcome State Fault Refusal :=
  onChip (fun c => c.gatedIn src (c.portDark p) .PORT (portOff p + 0x18) fun c =>
    c.wrMmCfg p (data % 2 ^ 29 + 2 ^ 29 + data / 2 ^ 30 * 2 ^ 30)) s

/-- VERIFY_TIMEOUT (R179): the next verify mPacket, or FAILED after three. -/
def Chip.verifyTimeout (c : Chip) (p : Nat) : Chip :=
  if c.fld .PORT_MM_STATUS_VERIFY p ≠ 2 then c
  else if (c.port p).tries < 3 then
    (c.setPort p { c.port p with tries := (c.port p).tries + 1 }).emit (.verify p)
  else ((c.setF .PORT_MM_STATUS_VERIFY p 4).setB .PORT_MM_STATUS_FAIL_SEEN p true).report (0x2000 + p) 0x207 0

def execVerifyTimeout (p : Nat) (s : State) : Host.Outcome State Fault Refusal :=
  onChip (fun c => c.core fun c => c.verifyTimeout p) s

/-- An mPacket that is no express frame arrives with MM_EN = 0: discarded and counted (R183). -/
def Chip.mmGate (c : Chip) (p : Nat) (f : Chip → Chip) : Chip :=
  if !c.portValid p || !c.linkUp p then c
  else if !c.is .PORT_MM_CFG_MM_EN p then c.count 64 .PORT_CNT_MM_SMD_ERRORS p
  else f c

/-- VERIFY_MPACKET_RX (R179): answered with a response mPacket while MM_EN = 1. -/
def execVerifyMpacketRx (p : Nat) (s : State) : Host.Outcome State Fault Refusal :=
  onChip (fun c => c.core fun c => c.mmGate p fun c => c.emit (.response p)) s

/-- RESPONSE_MPACKET_RX (R179). -/
def execResponseMpacketRx (p : Nat) (s : State) : Host.Outcome State Fault Refusal :=
  onChip (fun c => c.core fun c => c.mmGate p fun c =>
    if c.fld .PORT_MM_STATUS_VERIFY p = 2 then c.setF .PORT_MM_STATUS_VERIFY p 3 else c) s

/-! ### Engines (R171-R173, R403) -/

/-- The engine's state. -/
def Chip.engState (c : Chip) (g : Nat) : Nat := c.fld .PORT_GRP_STATUS_ENGINE_STATE g

/-- A start-up milestone is reached (R401): the time the model does not count is a free value. -/
def Chip.milestone (c : Chip) (k : Nat) : Chip :=
  let (v, c) := c.fresh
  c.setF .PWR_MILESTONE_US k (v % 2 ^ 32)

/-- A start-up milestone counts the first time it is reached (R401, R409). -/
def Chip.firstMilestone (c : Chip) (k : Nat) : Chip :=
  if c.fld .PWR_MILESTONE_US k = 0xFFFFFFFF then c.milestone k else c

/-- The engine's state changes: the transmitters follow it, and so do its ports. -/
def Chip.setEngine (c : Chip) (g st : Nat) : Chip :=
  let was := c.engState g
  let c := c.setF .PORT_GRP_STATUS_ENGINE_STATE g st
  let c := if (was = 2) ≠ (st = 2) then c.emit (.laser g (st == 2)) else c
  c.groupBase g

/-- The state that an engine's hold conditions give (R172): TEMP_HOLD before LASER_HOLD. -/
def EngS.state (e : EngS) : Nat := if e.temp then 4 else if e.laser then 3 else 2

/-- An engine reaches a state: the last of the enabled engines to reach RUNNING sets milestone 4. DESIGN CHOICE: the first
time that all enabled engines run (notes/assumptions/191.md). -/
def Chip.enterEngine (c : Chip) (g st : Nat) : Chip :=
  let c := c.setEngine g st
  if st == 2 && ((List.range 32).all fun k => !c.is .PORT_GRP_CFG_ENGINE_EN k || c.engState k == 2) then c.firstMilestone 4
  else c

/-- The laser supply is lost (R171). -/
def Chip.laserLoss (c : Chip) (g : Nat) (input : Int) : Chip :=
  let e : EngS := { c.eng g with laser := true }
  let c := ((c.setEng g e).setB .PORT_GRP_STATUS_LASER_LOSS_SEEN g true).count 32 .PORT_GRP_CNT_LASER_LOSSES g
  (c.setEngine g e.state).report (0x2100 + g) 0x202 (ofInt 64 input)

/-- LASER_SAMPLE (R171): every 100 µs. -/
def Chip.laserSample (c : Chip) (g : Nat) (input : Int) : Chip :=
  if !c.populated g || !c.domainOn g then c
  else
    let c := c.setF .PORT_GRP_STATUS_LASER_IN g (ofInt 16 input)
    let st := c.engState g
    if st ≠ 2 ∧ st ≠ 4 then c
    else if input < asInt 16 (c.fld .PORT_LASER_CFG_LOSS_THR g) then
      (if (c.eng g).laser then c else c.laserLoss g input)
    else if input < asInt 16 (c.fld .PORT_LASER_CFG_LOW_THR g) then
      (c.setB .PORT_GRP_STATUS_LASER_LOW_SEEN g true).report (0x2100 + g) 0x201 (ofInt 64 input)
    else c

/-- LASER_HOLD_END (R171, R172): the input has stayed at or above LOW_THR for 100 ms. -/
def Chip.laserHoldEnd (c : Chip) (g : Nat) : Chip :=
  if !(c.eng g).laser ∨ asInt 16 (c.fld .PORT_GRP_STATUS_LASER_IN g) < asInt 16 (c.fld .PORT_LASER_CFG_LOW_THR g) then c
  else
    let e : EngS := { c.eng g with laser := false }
    (c.setEng g e).enterEngine g e.state

def execLaserHoldEnd (g : Nat) (s : State) : Host.Outcome State Fault Refusal :=
  onChipS (fun c => c.core fun c => c.laserHoldEnd g) s

/-- ENGINE_TEMP_SAMPLE (R172): every 1 ms, in units of 1/8 °C. DESIGN CHOICE: at 75 °C an engine in RUNNING or LASER_HOLD
enters TEMP_HOLD; one that is STARTING, OFF or in MCODE_HOLD is only reported hot (notes/assumptions/193.md). -/
def Chip.tempSample (c : Chip) (g : Nat) (t : Int) : Chip :=
  if !c.populated g || !c.domainOn g then c
  else
    let c := c.setF .PORT_GRP_STATUS_CASE_TEMP g (ofInt 16 t)
    let st := c.engState g
    let c := if 560 ≤ t then c.report (0x2100 + g) 0x203 (ofInt 64 t) else c
    if 600 ≤ t ∧ (st = 2 ∨ st = 3) then
      let e : EngS := { c.eng g with temp := true }
      let c := ((c.setEng g e).setB .PORT_GRP_STATUS_TEMP_SEEN g true).count 32 .PORT_GRP_CNT_TEMP_TRIPS g
      (c.setEngine g 4).report (0x2100 + g) 0x204 (ofInt 64 t)
    else c

/-- TEMP_HOLD_END (R172): the case has stayed below 65 °C for 10 s. -/
def Chip.tempHoldEnd (c : Chip) (g : Nat) : Chip :=
  if !(c.eng g).temp ∨ 520 ≤ asInt 16 (c.fld .PORT_GRP_STATUS_CASE_TEMP g) then c
  else
    let e : EngS := { c.eng g with temp := false }
    (c.setEng g e).enterEngine g e.state

def execTempHoldEnd (g : Nat) (s : State) : Host.Outcome State Fault Refusal :=
  onChipS (fun c => c.core fun c => c.tempHoldEnd g) s

/-- The Quay microcode interface that the running image loads: its QUAY_IF_MAX (R173, R293). -/
def Chip.mcodeIf (c : Chip) : Nat := leNat (slice c.mbx.image 0x12 2)

/-- An engine leaves STARTING. -/
def Chip.unstart (c : Chip) (g : Nat) : Chip :=
  c.setPlane { c.plane with starting := c.plane.starting.filter fun x => x != g }

/-- ENGINE_START_DONE (R171, R173, R403): an engine with a place ends its start. `mcodeMin` and `mcodeMax` bound the
interfaces its silicon accepts. -/
def Chip.startDone (c : Chip) (g laser mcodeMin mcodeMax : Nat) : Chip :=
  if c.engState g ≠ 1 || !(c.plane.starting.take 8).contains g then c
  else
    let c := (c.unstart g).setF .PORT_GRP_STATUS_LASER_IN g (laser % 65536)
    let c := c.setF .PORT_GRP_STATUS_MCODE_IF g c.mcodeIf
    if c.mcodeIf < mcodeMin ∨ mcodeMax < c.mcodeIf then (c.setEngine g 5).report (0x2100 + g) 0x205 c.mcodeIf
    else if asInt 16 laser < asInt 16 (c.fld .PORT_LASER_CFG_LOW_THR g) then c.laserLoss g (asInt 16 laser)
    else c.enterEngine g 2

def execEngineStartDone (g laser mcodeMin mcodeMax : Nat) (s : State) : Host.Outcome State Fault Refusal :=
  onChipS (fun c => c.core fun c => c.startDone g laser mcodeMin mcodeMax) s

/-- The engine is switched on or off (R173, R403). -/
def Chip.engineEn (c : Chip) (g : Nat) (on : Bool) : Chip :=
  let was := c.is .PORT_GRP_CFG_ENGINE_EN g
  let c := c.setB .PORT_GRP_CFG_ENGINE_EN g on
  if on && !was then
    (c.setPlane { c.plane with starting := c.plane.starting ++ [g] }).setEngine g 1
  else if !on && was then ((c.unstart g).setEng g EngS.init).setEngine g 0
  else c

/-- A write of PORT_LASER_CFG (R171, R184). -/
def Chip.wrLaserCfg (c : Chip) (g data : Nat) : Chip :=
  if !c.populated g then c
  else if asInt 16 (bits data 31 16) ≤ asInt 16 (bits data 15 0) then c.grpBad g (grpOff g + 0x10)
  else c.writeFields (regFields .PORT .PORT_LASER_CFG) g data

/-! ### Port layout (R163-R165) -/

/-- A port is named by a valid Berth, an egress list, a PTP instance or a hold bound to it (R165, R223). -/
def Chip.portNamed (c : Chip) (p : Nat) : Bool :=
  (c.assigned.any fun b => c.bPort b == p) ||
  (c.strm.handles.any fun e => e.2.valid && (List.range e.2.egrLen).any fun k =>
    bits (kGet 0 c.strm.pool (e.2.egrBase + k)) 31 24 == p) ||
  c.fld .TIME_PORT_CFG_INST p != 15 ||
  (c.stor.regions.any fun e => e.2.valid && e.2.kind == 2 && e.2.bound && e.2.port == p &&
    (c.strm.handles.any fun h => h.1 == e.2.handle && h.2.valid))

/-- The ports of a group whose lane set the new layout does not keep (R164). -/
def Chip.stopping (c : Chip) (g split : Nat) : List Nat :=
  (c.groupPorts g).filter fun p => portWidth split (p % 8) != c.lanes p

/-- The registers kept per port in the PORT, TIDE, TIME and STRM blocks (R164). -/
def portRegs : List RegDesc :=
  (Block.regs .PORT ++ Block.regs .TIDE ++ Block.regs .TIME ++ Block.regs .STRM).filter fun d =>
    d.count == 256 && d.reg != .PORT_LANE_00 && d.reg != .PORT_LANE_08

/-- The port-indexed registers of a port take their reset values, and with them what lies behind them (R164). A frame that
it was receiving ends badly: its copies elsewhere meet R168. Accesses that a hand-over copy holds stay held until it ends. A
remote fault that it sends ends: a disabled port sends idles (R174). DESIGN CHOICE: no LINK_CHANGE is logged and no other
effect of a link going down follows; the rule names neither (notes/assumptions/196.md). -/
def Chip.resetPort (c : Chip) (p : Nat) : Chip :=
  let c := if c.sendsFault p then c.emit (.remoteFault p false) else c
  let c := match (c.port p).rx with
    | some r => c.rxBad r.id
    | none => c
  let hand := (c.port p).hand.map fun h => { h with sets := [], ovh := 20 }
  let keys := (portRegs.flatMap fun d => d.fields).map fun f => f.fld.key p
  let c := { c with regs := c.regs.filter fun e => !keys.contains e.1 }
  ((c.setPort p { PortS.init with hand := hand }).setTide p TideS.init).setOver p 20

/-- SPLIT takes effect (R164). -/
def Chip.applySplit (c : Chip) (g split : Nat) : Chip :=
  let stop := c.stopping g split
  let c := stop.foldl (fun c p => c.cutPort p false) c
  let fresh := ((List.range 8).map fun l => 8 * g + l).filter fun p =>
    portWidth split (p % 8) != 0 && portWidth split (p % 8) != c.lanes p
  let c := c.setF .PORT_GRP_CFG_SPLIT g split
  (stop ++ fresh).foldl Chip.resetPort c

/-- Why a PORT_GRP_CFG write is not admitted (R165, R403): 0 admitted, else a result code. DESIGN CHOICE: a write that
repeats the present SPLIT is no write of SPLIT, so that group 31 takes it in duo mode (notes/assumptions/155.md). -/
def Chip.grpCode (c : Chip) (g data : Nat) : Nat :=
  let split := bits data 6 0
  let changes := split != c.fld .PORT_GRP_CFG_SPLIT g
  if !splitOk split then rParam
  else if changes && (c.is .DUO_CFG_ENABLE 0 && g == 31) then rParam
  else if changes && (c.stopping g split).any c.portNamed then rInUse
  else if data.testBit 31 && !c.is .PORT_GRP_CFG_ENGINE_EN g && !c.domainOn g then rParam
  else rOK

/-- A write of PORT_GRP_CFG (R163-R165, R403): an unpopulated group ignores it. -/
def Chip.wrGrpCfg (c : Chip) (g data : Nat) : Chip :=
  if !c.populated g then c
  else if c.grpCode g data ≠ rOK then c.grpBad g (grpOff g)
  else
    let c := if bits data 6 0 = c.fld .PORT_GRP_CFG_SPLIT g then c else c.applySplit g (bits data 6 0)
    c.engineEn g (data.testBit 31)

end Sys2Proof.Machine
end

