-- ==== Sys2Proof/Machine/Path.lean ====
section
/-!
DEFINITION. Machine/Path.lean: the end of a frame's path (R20-R22): the move over the die bridge, sequence generation
(R191, R192), the record tap, replication (R21, R92, R95, R96), the hold rings or Berths of step 9 (R223), and the
delay line (R203-R205).
-/
namespace Sys2Proof.Machine

/-! ### What duo mode makes of a stream (R380, R381) -/

/-- A stream is not duplicable (R109, R380), under the handle record r. -/
def Chip.notDupBy (c : Chip) (r : Handle) (h : Nat) : Bool :=
  let x := (c.inst h).cfg
  r.notDup || (x.gen == 0 && x.mode == modeOff) || (x.gen != 0 && x.seqSrc == 0)

/-- A stream is not duplicable as its record stands (R109, R380). -/
def Chip.notDup (c : Chip) (h : Nat) : Bool := c.notDupBy (c.handle h) h

/-- The unit is a standby that follows the log (R378), not a joiner that has lost its peer (R390). -/
def Chip.follows (c : Chip) : Bool := (c.duoState == 2 || c.duoState == 1) && !c.duoActive && c.duo.gaps.isNone

/-- The log of a stream's decisions: on the active unit, for duplicable streams (R211, R375). -/
def Chip.logRun (c : Chip) (on : Waiting) (rx gen anchor : Nat) : Chip :=
  if c.notDupBy on.rec_ on.h then c else c.duoLog (.run on.h 1 rx gen anchor)

/-! ### Buffer shares and the bridge (R21, R24, R31, R49) -/

/-- A frame of n bytes crosses the bridge from quadrant `a` (R24, R49, R50). -/
def Chip.cross (c : Chip) (a n : Nat) (x : Cross) : Bool × Chip :=
  let (ok, c) := c.bridgeCross a n (c.shareFull a n) x
  (ok, c.noteShare a)

/-- A frame moves from quadrant `a` to quadrant `b`, over the bridge if they lie on different dies (R21, R24). -/
def Chip.moveTo (c : Chip) (a b n : Nat) (x : Cross) : Bool × Chip :=
  if dieOf a = dieOf b then (true, c) else c.cross a n x

/-! ### Step 8: numbers (R191, R192) -/

/-- The change that generation makes to a frame's bytes (R192). -/
def BrkwCfg.number (x : BrkwCfg) (b : Bytes) (n : Nat) : Bytes :=
  match x.gen with
  | 1 => putRtag b n
  | 2 => putRtp b n (x.ext == 1)
  | _ => if x.rtagPop then popRtag b else b

/-- A frame leaves step 8 (R191, R192): it takes GEN_NEXT, or the number that the log gives it; GEN_NEXT then follows the
log (R378). -/
def Chip.generate (c : Chip) (h : Nat) (f : Frame) (logged : Option Nat) : Frame × Nat × Chip :=
  let x := c.inst h
  let n := logged.getD x.cfg.genNext
  let b := x.cfg.number f.bytes n
  let f' := { f with bytes := b, tagged := f.tagged || (x.cfg.gen == 1 && !hasRtag f.bytes),
                     elen := f.elen.map fun l => l + b.length - f.bytes.length }
  if x.cfg.gen = 0 then (f', 0, c)
  else if logged.isSome then (f', n, c)
  else (f', n, c.setInst h { x with cfg := { x.cfg with genNext := (n + 1) % 2 ^ 32 } })

/-! ### Step 9 (R20, R223, R225) -/

/-- The hold ring that takes a copy of stream h for port p, if one does (R223): its region holds or drains. -/
def Chip.holdTakes (c : Chip) (h p : Nat) : Option Nat := (c.holdOf h p).filter fun r => (c.region r).state != 0

/-- The quadrant that a copy of stream h for port p goes to: its hold ring's, or the port's (R21). -/
def Chip.destQuad (c : Chip) (h p : Nat) : Nat :=
  match c.holdTakes h p with
  | some r => (c.region r).quad
  | none => quadOfPort p

/-- A copy reaches step 9: its hold ring, or its Berth. True when it was late there at acceptance (R116, R205). -/
def State.step9 (s : State) (h p b : Nat) (f : Frame) (launch : Option Nat) : Bool × State :=
  match s.chip.holdTakes h p with
  | some r => (false, s.holdStore r f (launch.getD f.ts))
  | none =>
    let (_, late, c) := s.chip.enqueue b f launch
    (late, s.withChip (c.noteShare (quadOfPort p)))

/-- REPLICATION (R21, R92, R95): the copies of an egress list, each to its port; those of the other die cross the bridge
once; a copy that a hold ring takes goes to the ring, and crosses from there when it is drained. True when at least one copy was late at
acceptance. The frame leaves as a PTP event message if it is one as its bytes now stand (R68). -/
def State.replicate (s : State) (on : Waiting) (f : Frame) (launch : Option Nat) (x : Cross) : Bool × State :=
  let home := on.rec_.homeQ
  let far := on.list.filter fun w => dieOf (s.chip.destQuad on.h (poolPort w)) != dieOf home
  let (ok, c) := if far = [] then (true, s.chip) else s.chip.cross home f.size x
  let bytes := on.rec_.rewrite f.bytes
  let g := { f with bytes := bytes, ptp := (ptpPlace bytes [319]).isSome }
  on.list.foldl (fun (acc : Bool × State) w =>
    if !ok && far.contains w then acc
    else
      let (late, s) := acc.2.step9 on.h (poolPort w) (poolBerth w) g launch
      (acc.1 || late, s)) (false, s.withChip c)

/-- The stream h as its handle record and egress list stand (R186). -/
def Chip.asNow (c : Chip) (h : Nat) : Waiting := ⟨h, c.handle h, c.egress h⟩

/-- Step 8 of a frame (R20, R21, R22, R96, R186): generation, the record tap, replication and the host's copy. `on` holds the
handle record and the egress list it is handled under, `num` its received number, `logged` the generated number when the
log gives it, `bypass` says that the frame bypassed the delay line, whose lateness counts (R205). A frame of ALIGN has a
launch time; the number that it takes here is logged (R191) by an entry without an anchor (notes/assumptions/55.md). -/
def State.step8 (s : State) (on : Waiting) (f : Frame) (num : Nat) (launch : Option Nat) (x : Cross) (logged : Option Nat)
    (bypass : Bool) : State :=
  let h := on.h
  if s.chip.notDupBy on.rec_ h && !s.chip.sole then s
  else
    let (f, gen, c) := s.chip.generate h f logged
    let own := logged.isNone && !c.notDupBy on.rec_ h && (launch.isNone || (c.inst h).cfg.gen != 0)
    let c := if own then c.logRun on num gen 0 else c
    let f := if own then { f with epoch := c.epochMark h } else f
    let s := (s.withChip c).recordTap h f (launch.getD f.ts)
    let (late, s) := s.replicate on f launch x
    s.on fun c =>
      let c := if late && bypass then c.brkwCount h cLateRelease 1 else c
      if on.rec_.hostCopy then (c.classFrame on.rec_.hostClass f 1).2 else c

/-! ### The log on the standby (R378) -/

/-- The standby's record of a run that still lacks this number (R378): of an acceptance, or, with `rel`, of a release from
the delay line. -/
def Chip.findRun (c : Chip) (h k : Nat) (rel : Bool) : Option LogRun :=
  c.duo.log.find? fun r => r.handle == h && r.rel == rel && r.left.contains k

/-- A number of a run has its copy (R378): a run keeps, for ALIGN, the shift that its first copy gave. -/
def Chip.useRun (c : Chip) (run : LogRun) (k : Nat) (shift : Option Int) : Chip :=
  let upd (r : LogRun) : LogRun := if r = run then { r with left := r.left.filter fun n => n != k, shift := shift } else r
  { c with duo := { c.duo with log := c.duo.log.map upd } }

/-- The generated number that a run gives its received number k (R376). -/
def LogRun.number (r : LogRun) (k : Nat) : Nat := (r.gen + (k + 2 ^ 32 - r.rx) % 2 ^ 32) % 2 ^ 32

/-- A frame of ALIGN passes step 8 at its release instant `launch` (R186, R205). A log entry that numbers it gives it its
number, on a standby and for the entries kept of a log that has ended; a standby waits for that entry if need be (R378,
R385). -/
def State.release8 (s : State) (on : Waiting) (f : Frame) (k launch : Nat) (x : Cross) (bypass : Bool) : State :=
  let c := s.chip
  if c.notDupBy on.rec_ on.h || (c.inst on.h).cfg.gen == 0 then s.step8 on f k (some launch) x none bypass
  else match c.findRun on.h k true with
    | some run =>
      (s.on fun c => c.useRun run k none).step8 on f k (some launch) x (some (run.number k)) bypass
    | none =>
      if c.follows then s.on fun c =>
        (c.setDuo { c.duo with pend := c.duo.pend ++ [⟨f, on, x, k, none, some launch, bypass⟩] }).noteShare 0
      else s.step8 on f k (some launch) x none bypass

/-! ### The delay line (R203-R207) -/

/-- 20 µs. -/
def releaseLead : Nat := nsT 20000

/-- An accepted number k on path j in ALIGN (R203, R205, R207): bypass, or the path's ring. `shift` moves the release as
the log asks (R378). -/
def State.delay (s : State) (on : Waiting) (j k : Nat) (f : Frame) (shift : Int) (x : Cross) : State :=
  let h := on.h
  let y := s.chip.inst h
  let r := ((f.ts : Int) - y.offset j + nsT y.cfg.skewNs + shift).toNat
  if (r : Int) - f.ts < releaseLead then (s.on fun c => c.brkwCount h cBypass 1).release8 on f k r x true
  else
    let (ok, s) := s.put y.cfg.dlRegion j ⟨0, r, j, false, 0, f, k, false⟩ f.bytes
    if ok then s.on fun c => c.notePeak h
    else s.on fun c => (c.brkwCount h cDlOverflow 1).report (0x6000 + on.rec_.homeQ) 0x402 h

/-- The anchor of a number in ALIGN (R376): its normalised arrival, as a 96-bit time value. -/
def Chip.anchor (c : Chip) (h j ts : Nat) : Nat := packTime ((ts : Int) - (c.inst h).offset j).toNat

/-- The ring of a delay line whose head is released next: the least by release instant, then number (R204). -/
def Region.nextRelease (x : Region) : Option (Nat × Rec) :=
  x.rings.foldl (fun (a : Option (Nat × Rec)) e =>
    match e.2.recs with
    | [] => a
    | y :: _ => match a with
      | none => some (e.1, y)
      | some (k, z) => if y.time < z.time ∨ (y.time = z.time ∧ y.num < z.num) then some (e.1, y) else some (k, z)) none

/-- The latest launch time of a frame of stream n that a Berth or a Quay still holds. -/
def Chip.lastQueued (c : Chip) (n : Nat) : Nat :=
  let of_ (i : Item) : Nat := if i.f.handle = some n then i.launch.getD 0 else 0
  let l := c.plane.berths.flatMap (fun e => e.2.queue.map of_) ++
    c.plane.quay.flatMap fun e => (e.2.transit ++ e.2.staged).map fun x => of_ x.it
  l.foldl max 0

/-- A step or load that takes the time back: a release counts in REORDER only against frames that are still queued (R204). -/
def Chip.releasesBack (c : Chip) : Chip :=
  c.setBrkwS { c.brkw with inst := c.brkw.inst.map fun (e : Nat × Brkw) =>
    (e.1, { e.2 with relTop := min e.2.relTop (c.lastQueued e.1) }) }

/-- ALIGN_RELEASE (R203, R204, R209): the head of a ring whose release is 20 µs away is read, passes step 8 and is
enqueued with its release instant as launch time. Nothing is released while the counters stand still. -/
def State.alignRelease (s : State) (n : Nat) (x : Cross) : State :=
  let y := s.chip.inst n
  let r := y.cfg.dlRegion
  if y.cfg.mode != modeAlign || !s.chip.ticking then s
  else match (s.chip.region r).nextRelease with
    | none => s
    | some (k, rec) =>
      if s.chip.now + releaseLead + s.chip.incr / 65536 < rec.time || rec.f.rx.isSome then s
      else
        let s := if rec.time < y.relTop then s.on fun c => c.brkwCount n cReorder 1 else s
        let s := s.on fun c => c.setInst n { c.inst n with relTop := max y.relTop rec.time }
        let (f, s) := s.readHead r k
        match f with
        | none => s
        | some f => s.release8 (s.chip.asNow n) f rec.num rec.time x false

def execAlignRelease (n : Nat) (path : Sys2Proof.Path) (s : State) : Host.Outcome State Fault Refusal :=
  onState (fun s => s.core fun s => s.alignRelease n path.toEgress) s

end Sys2Proof.Machine
end

