-- ==== Sys2Proof/Machine/Ingress.lean ====
section
/-!
DEFINITION. Machine/Ingress.lean: a received frame from its start to its end (R20, R100-R107, R167, R168), MAC merge
reassembly (R183), and the copies that a standby matches against the log (R378).
-/
namespace Sys2Proof.Machine

/-! ### The stream filter (R99-R107) -/

/-- What the filter decides: the stream counter of the frame's fate, a yellow frame, and whether it passes. -/
structure Filtered where
  cnt : Nat
  yellow : Bool
  pass : Bool
  deriving DecidableEq, Repr

/-- MAX_SDU_CHECK (R101) under the record x: true when the frame is dropped. BLOCKED is the stream's own, which a record
that has been deleted since keeps as it was. -/
def Chip.overSdu (c : Chip) (h : Nat) (x : Handle) (len : Nat) : Bool × Chip :=
  let now := c.handle h
  if (if now.valid then now.blocked else x.blocked) then (true, c)
  else if x.maxSdu ≠ 0 ∧ x.maxSdu < len then
    (true, if x.blockOver && now.valid then c.setHandle h { now with blocked := true } else c)
  else (false, c)

/-- The stages of a stream's filter in order (R99), under the record x: a frame of `len` bytes at ts in quadrant q. -/
def Chip.filter (c : Chip) (h : Nat) (x : Handle) (q ts len : Nat) (dei : Bool) : Filtered × Chip :=
  let (big, c) := c.overSdu h x len
  if big then (⟨4, false, false⟩, c)
  else
    let (g, c) := if x.gateEn then c.gateFrame x.gateId q ts len else (.pass, c)
    match g with
    | .closed => (⟨2, false, false⟩, c)
    | .octets => (⟨3, false, false⟩, c)
    | .pass =>
      let (col, c) := if x.meterEn then c.meterFrame x.meterId q ts len dei else (.green, c)
      match col with
      | .red => (⟨6, false, false⟩, c)
      | .yellow => (⟨1, true, true⟩, c)
      | .green => (⟨1, false, true⟩, c)

/-! ### Recovery and beyond -/

/-- A copy that the log accepts is handled with the logged number; an ALIGN copy is released at its own instant, shifted
by the difference of the anchors (R378). -/
def State.confirmed (s : State) (on : Waiting) (j : Option Nat) (k : Nat) (f : Frame) (run : LogRun) (x : Cross) : State :=
  let h := on.h
  let s := s.on fun c => c.firstOn h j k f.ts
  let y := s.chip.inst h
  let path := j.getD y.cfg.refPath
  let own : Int := (f.ts : Int) - y.offset path
  let shift : Int := run.shift.getD ((unpackTime run.anchor : Int) - own)
  let s := s.on fun c => c.useRun run k (some shift)
  let s := s.on fun c => if y.cfg.mode = modeOff then c else c.passed h
  if y.cfg.mode = modeAlign then s.delay on path k f shift x
  else s.step8 on f k none x (some (run.number k)) false

/-- The standby's instance sees a copy's number (R195, R199, R378): its path counts it and keeps it as the last seen, and the
history region is read. True when the path's own match test discards it. -/
def Chip.seenOn (c : Chip) (h k : Nat) (j : Option Nat) : Bool × Chip :=
  match j with
  | none => (false, c.historyRead h k)
  | some j =>
    let c := (c.pathCount h j 0).historyRead h k
    let x := c.inst h
    let y := x.path j
    if x.cfg.individual && y.lastSeen == some k then (true, c.pathCount h j 2)
    else (false, c.setInst h (x.setPath j { y with lastSeen := some k }))

/-- The instance's history holds a number: as accepted (R193), or, under the match algorithm, as the last accepted (R194). -/
def Brkw.has (x : Brkw) (k : Nat) : Bool :=
  if x.cfg.algo = 1 then !x.takeAny && x.last == some k else x.seen.contains k

/-- A standby's copy meets the log (R378): accepted, a duplicate, or kept until its entry arrives. -/
def State.followCopy (s : State) (on : Waiting) (p : Nat) (f : Frame) (x : Cross) : State :=
  let h := on.h
  let y := s.chip.inst h
  let j := y.pathOf p
  match s.chip.recvNum h f.bytes with
  | none => s.on fun c =>
    if y.cfg.mode = modeOff then c
    else (match j with
      | some j => c.pathCount h j 0
      | none => c).brkwCount h cTagless 1
  | some k =>
    let (again, c) := if y.cfg.mode = modeOff then (false, s.chip) else s.chip.seenOn h k j
    let s := (s.withChip c).historySync h k y.seen
    if again then s
    else match s.chip.findRun h k false with
    | some run => s.confirmed on j k f run x
    | none =>
      if y.cfg.mode != modeOff && (s.chip.inst h).has k then s.on fun c => (c.learnOn h j k f.ts).discarded h
      else s.on fun c =>
        (c.setDuo { c.duo with pend := c.duo.pend ++ [⟨f, on, x, k, j, none, false⟩] }).noteShare 0

/-- A number that the unit itself has accepted goes on (R191, R203, R375): ALIGN logs it with its anchor and delays it; of
other modes step 8 logs it. -/
def State.accepted (s : State) (on : Waiting) (j k : Nat) (f : Frame) (x : Cross) : State :=
  let h := on.h
  if (s.chip.inst h).cfg.mode = modeAlign then
    let s := s.on fun c => c.logRun on k 0 (c.anchor h j f.ts)
    s.delay on j k (if s.chip.notDupBy on.rec_ h then f else { f with epoch := s.chip.epochMark h }) 0 x
  else s.step8 on f k none x none false

/-- A copy that the log has to do with (R378, R385): on a standby every one of a duplicable stream, and elsewhere one whose
number an entry kept of a log that has ended still waits for. -/
def Chip.toLog (c : Chip) (h : Nat) (b : Bytes) : Bool :=
  c.follows || match c.recvNum h b with
    | some k => (c.findRun h k false).isSome
    | none => false

/-- Steps 6 to 9 of a frame that its filter passed (R20, R85): the home quadrant, recovery, and on, under the record and
the egress list that it was identified under. -/
def State.onward (s : State) (on : Waiting) (p : Nat) (f : Frame) (x : Sys2Proof.Path) : State :=
  let h := on.h
  let (ok, c) := s.chip.moveTo (quadOfPort p) on.rec_.homeQ f.size x.toHome
  let s := s.withChip c
  if !ok then s
  else
    let own := s.chip.notDupBy on.rec_ h
    let f := { f with handle := some h, epoch := if own then some soleMark else none }
    if !own && s.chip.toLog h f.bytes then s.followCopy on p f x.toEgress
    else
      let f := if own then f else { f with epoch := s.chip.epochMark h }
      let y := s.chip.inst h
      if y.cfg.mode = modeOff then s.step8 on f ((s.chip.recvNum h f.bytes).getD 0) none x.toEgress none false
      else
        let (v, c) := s.chip.recover h p f.ts f.bytes
        let s := (s.withChip c).historySync h ((s.chip.recvNum h f.bytes).getD 0) (s.chip.inst h).seen
        match v with
        | none => s
        | some (k, j) => s.accepted on j k f x.toEgress

/-- Steps 5 to 9 of an identified frame of `len` bytes (R85, R99-R107): the filter, then onward. Answers the stream counter
of its fate, which its end raises (R100). -/
def State.identified (s : State) (on : Waiting) (p : Nat) (f : Frame) (len : Nat) (x : Sys2Proof.Path) :
    List (Nat × Nat × Nat) × State :=
  let q := quadOfPort p
  let (r, c) := s.chip.filter on.h on.rec_ q f.ts len (outerDei f.bytes)
  let mark := r.yellow && (c.meter on.rec_.meterId).markDei
  let cnt := [(on.h, q, 0), (on.h, q, r.cnt)] ++ (if r.yellow then [(on.h, q, 5)] else [])
  let s := s.withChip c
  if !r.pass then (cnt, s)
  else (cnt, s.onward on p (if mark then { f with bytes := markDei f.bytes } else f) x)

/-! ### The start of a frame -/

/-- A PTP message of a port's own domain is trapped to Fened (R91). -/
def Chip.trapped (c : Chip) (p : Nat) (b : Bytes) : Bool :=
  let i := c.fld .TIME_PORT_CFG_INST p
  i != 15 && match ptpPlace b [319, 320] with
    | some (o, _) => match kFind c.time.inst i with
      | some x => rd b (o + 4) 1 == rd x.cfg 2 1
      | none => false
    | none => false

/-- A reception in progress. -/
def Chip.setRx (c : Chip) (p : Nat) (r : Option RxS) : Chip := c.setPort p { c.port p with rx := r }

/-- The stream's handling waits for the frame's end: its length is not known and a stage needs it (R100). -/
def Handle.waitsEnd (x : Handle) (decl : Option Nat) : Bool := decl.isNone && (x.meterEn || x.maxSdu != 0)

/-- The length that the filter judges: that decided at the start, else the frame's own (notes/assumptions/15.md). -/
def judgedLen (decl : Option Nat) (b : Bytes) : Nat := decl.getD (max 64 (b.length + 4))

/-- A frame that a stream takes: through its filter now, or held until its end (R100). -/
def State.rxHandle (s : State) (p h : Nat) (r : RxS) (x : Sys2Proof.Path) : State :=
  let on : Waiting := ⟨h, s.chip.handle h, s.chip.egress h⟩
  if on.rec_.waitsEnd r.decl then
    s.on fun c => (c.setRx p (some { r with wait := some on, f := { r.f with rx := none } })).noteShare (quadOfPort p)
  else
    let (cnt, s) := (s.on fun c => c.setRx p (some r)).identified on p r.f (judgedLen r.decl r.f.bytes) x
    s.on fun c => c.setRx p (some { r with counters := cnt })

/-- An unmatched frame follows the port's default rule (R93). -/
def State.unmatched (s : State) (p : Nat) (r : RxS) (x : Sys2Proof.Path) : State :=
  match s.chip.fld .STRM_PORT_CFG_DEF_RULE p with
  | 1 =>
    let (ok, c) := s.chip.classFrame (s.chip.fld .STRM_PORT_CFG_HOST_CLASS p) { r.f with handle := none } 0
    s.withChip (c.setRx p (some { r with count := if ok then 2 else 3 }))
  | 2 =>
    let h := s.chip.fld .STRM_PORT_CFG_DEF_HANDLE p
    if (s.chip.handle h).valid then s.rxHandle p h { r with count := 2 } x
    else s.on fun c => c.setRx p (some { r with count := 3 })
  | _ => s.on fun c => c.setRx p (some { r with count := 3 })

/-- The ingress timestamp of a delimiter that arrives (R170): while the counters stand still, the held time (R232). -/
def Chip.rxStamp (c : Chip) (ts : Nat) : Nat := if c.ticking then ts else c.now

/-- FRAME_RX_START (R20, R31, R91, R93, R100, R170), with the frame's timestamp. DESIGN CHOICE: what arrives on a port that is
neither UP nor DOWN_HOLD is ignored and not counted (notes/assumptions/197.md). -/
def State.rxStart (s : State) (p ts : Nat) (b : Bytes) (x : Sys2Proof.Path) : State :=
  let c := s.chip
  if !c.portValid p || !c.linkUp p || (c.port p).rx.isSome then s
  else
    let id := c.plane.nextRx
    let s := s.on fun c => c.setPlane { c.plane with nextRx := id + 1 }
    let decl := declLen b
    let f : Frame := ⟨b, decl, false, ts, some p, some id, none, (ptpPlace b [319]).isSome, none⟩
    let r : RxS := ⟨id, f, decl, rd b 12 2 == 0x8808, 0, [], none, x⟩
    let none_ (s : State) (n : Nat) : State := s.on fun c => c.setRx p (some { r with count := n })
    let q := quadOfPort p
    if r.ctrl || c.duoPort p || decide (b.length + 4 < 64) then none_ { s with chip := s.chip } 0
    else if c.shareFull q f.size then
      (none_ s 0).on fun c => c.shareDrop q
    else if c.trapped p b then none_ s 4
    else match c.identify p b with
      | some h => s.rxHandle p h { r with count := 1 } x
      | none => s.unmatched p r x

def execFrameRxStart (p ts : Nat) (path : Sys2Proof.Path) (bytes : Bytes) (s : State) :
    Host.Outcome State Fault Refusal :=
  onState (fun s => s.core fun s => s.rxStart p (s.chip.rxStamp ts) bytes path) s

/-! ### The end of a frame -/

/-- Identification counters of a port at the frame's end, for a frame that R167 passes. -/
def Chip.countRx (c : Chip) (p n : Nat) : Chip :=
  match n with
  | 1 => c.count 64 .STRM_PORT_CNT_IDENTIFIED p
  | 2 => c.count 64 .STRM_PORT_CNT_UNMATCHED p
  | 3 => (c.count 64 .STRM_PORT_CNT_UNMATCHED p).count 64 .STRM_PORT_CNT_DEFAULT_DROPS p
  | 4 => c.count 64 .STRM_PORT_CNT_TRAPPED p
  | _ => c

/-- The stream counters of a frame of `len` bytes (R107). -/
def Chip.countStream (c : Chip) (l : List (Nat × Nat × Nat)) (len : Nat) : Chip :=
  l.foldl (fun c e =>
    let c := c.strmCount e.1 e.2.1 e.2.2 1
    if e.2.2 = 1 then c.strmCount e.1 e.2.1 7 len else c) c

/-- FRAME_RX_END (R100, R107, R167, R168). -/
def State.rxEnd (s : State) (p len : Nat) (fcsOk : Bool) : State :=
  match (s.chip.port p).rx with
  | none => s
  | some r =>
    let s := s.on fun c => c.setRx p none
    let differs := match r.decl with
      | some d => d != len && !r.ctrl
      | none => false
    let s := if differs then s.on fun c => c.count 64 .STRM_PORT_CNT_LEN_MISMATCH p else s
    if len < 64 then s.on fun c => (c.count 64 .PORT_CNT_RX_RUNTS p).rxBad r.id
    else if !fcsOk then s.on fun c => (c.count 64 .PORT_CNT_RX_FCS_ERRORS p).rxBad r.id
    else if s.chip.fld .PORT_CFG_MAX_FRAME p < len then s.on fun c => (c.count 64 .PORT_CNT_RX_OVERSIZE p).rxBad r.id
    else if r.ctrl then s.on fun c => c.count 64 .PORT_CNT_RX_MAC_CTRL p
    else
      let s := s.on fun c => ((c.count 64 .PORT_CNT_RX_FRAMES p).countN 64 .PORT_CNT_RX_BYTES p len).countRx p r.count
      if differs then s.on fun c => c.rxBad r.id
      else match r.wait with
        | some on =>
          let (cnt, s) := s.identified on p { r.f with elen := some len } len r.path
          s.on fun c => c.countStream cnt len
        | none => s.on fun c => (c.rxGood r.id).countStream r.counters len

def execFrameRxEnd (p len : Nat) (fcsOk : Bool) (s : State) : Host.Outcome State Fault Refusal :=
  onState (fun s => s.core fun s => s.rxEnd p len fcsOk) s

/-! ### Reassembly (R183) -/

/-- The final fragment has arrived (R183): the frame counts as completed and passes to R167 as one frame, which judges its
check sequence. -/
def State.assembled (s : State) (p : Nat) (a : AsmS) (path : Sys2Proof.Path) (fcsOk : Bool) : State :=
  let s := s.on fun c => c.count 64 .PORT_CNT_MM_ASS_OK p
  (s.rxStart p a.ts a.bytes path).rxEnd p (a.bytes.length + 4) fcsOk

/-- MPACKET_RX (R170, R183): the frame's timestamp is that of its first fragment's delimiter. DESIGN CHOICE: a fragment that is
not the last and whose check sequence is wrong discards the frame as an assembly error, and a start delimiter that no standard
defines counts as an SMD error also with MM_EN = 1 (notes/assumptions/195.md). -/
def State.mpacket (s : State) (p : Nat) (m : MPacket) : State :=
  let c := s.chip
  if !c.portValid p || !c.linkUp p then s
  else if !c.is .PORT_MM_CFG_MM_EN p || !m.smdOk then s.on fun c => c.count 64 .PORT_CNT_MM_SMD_ERRORS p
  else
    let s := s.on fun c => c.count 64 .PORT_CNT_MM_FRAG_RX p
    let set (s : State) (a : Option AsmS) : State := s.on fun c => c.setPort p { c.port p with asm := a }
    let err (s : State) : State := s.on fun c => c.count 64 .PORT_CNT_MM_ASS_ERRORS p
    let done (s : State) (a : AsmS) : State :=
      if m.last then (set s none).assembled p a m.path m.crcOk
      else if m.crcOk then set s (some a)
      else err (set s none)
    match (s.chip.port p).asm, m.cont with
    | none, false => done s ⟨m.frameCount, m.bytes, s.chip.rxStamp m.ts⟩
    | some _, false => done (err s) ⟨m.frameCount, m.bytes, s.chip.rxStamp m.ts⟩
    | none, true => err s
    | some a, true =>
      if m.frameCount != a.frameCount then err (set s none)
      else done s { a with bytes := a.bytes ++ m.bytes }

def execMpacketRx (p : Nat) (m : MPacket) (s : State) : Host.Outcome State Fault Refusal :=
  onState (fun s => s.core fun s => s.mpacket p m) s

end Sys2Proof.Machine
end

