-- ==== Sys2Proof/Machine/Store.lean ====
section
/-!
DEFINITION. Machine/Store.lean: regions, holds, records, replay, scrub and spill (09_stream_store.md), and the indirect
operations of STOR_CMD.
-/
namespace Sys2Proof.Machine

/-! ### Regions (R221, R222) -/

/-- Regions of a kind that a handle may own (R221). -/
def kindMax (kind : Nat) : Nat := if kind = 2 then 8 else 1

/-- A region's charge as the record shows it, each half held to 32 bits (R239). -/
def Chip.shownCharge (c : Chip) (r : Nat) : Nat × Nat :=
  let x := c.region r
  if !x.valid then (0, 0)
  else
    let k := x.charge (c.handlePeak x.handle)
    (min k.1 0xFFFFFFFF, min k.2 0xFFFFFFFF)

/-- A region is created (R221, R26, R215). -/
def Chip.regionCreate (c : Chip) (r kind h pages : Nat) : Nat × Chip :=
  let hd := c.handle h
  let x : Region := { Region.init with valid := true, kind := kind, quad := hd.homeQ, handle := h }
  if pages < 1 ∨ 1048576 < pages ∨ kind > 3 then (rParam, c)
  else if !hd.valid then (rNotFound, c)
  else if !hd.meterEn then (rInUse, c)
  else if kindMax kind ≤ (c.regions.filter fun e => e.2.handle == h && e.2.kind == kind).length then (rNoResource, c)
  else if !c.chargeFits hd.homeQ r x then (rNoResource, c)
  else match c.allot hd.homeQ [] pages with
    | (none, _) => (rNoResource, c)
    | (some l, c) => (rOK, c.setRegion r { x with pages := l })

/-- The instance's use of a region: pages that it must keep (R198, R222). -/
def Chip.floorOf (c : Chip) (r : Nat) : Nat :=
  let x := c.region r
  let i := (c.inst x.handle).cfg
  if x.kind = 0 ∧ i.mode = modeAlign ∧ i.dlRegion = r then dlFloor (c.handlePeak x.handle) i.skewNs
  else if x.kind = 1 ∧ i.inRegion ∧ i.histRegion = r then histPages i.histLen
  else 0

/-- Pages leave a region: those that returned an uncorrectable error are retired (R216). -/
def Chip.retire (c : Chip) (q : Nat) (pages : List Nat) : Chip :=
  let bad := (pages.map fun p => q * 2 ^ 20 + p).filter fun k => c.stor.bad.contains k && !c.stor.retired.contains k
  c.setStor { c.stor with retired := c.stor.retired ++ bad }

/-- A region is enlarged or shrunk (R215, R222): the pages in use fit in a smaller region while each stack can hold its own, the
two counts differing by at most one. DESIGN CHOICE: the window of a region that spills is not shrunk below the 256 pages
of R235, with IN_USE; no rule names the code (notes/assumptions/159.md). -/
def Chip.regionResize (c : Chip) (r pages : Nat) : Nat × Chip :=
  let x := c.region r
  let n := x.pages.length
  if !x.valid then (rNotFound, c)
  else if pages < 1 ∨ 1048576 < pages then (rParam, c)
  else if n ≤ pages then
    match c.allot x.quad x.pages (pages - n) with
    | (none, _) => (rNoResource, c)
    | (some l, c) => if c.chargeFits x.quad r x then (rOK, c.setRegion r { x with pages := x.pages ++ l })
        else (rNoResource, c)
  else
    let x := x.dropCopies
    match (if pages < c.floorOf r ∨ (x.spill ≠ 0 ∧ pages < 256) then none else x.shrunk pages) with
    | none => (rInUse, c)
    | some l =>
      let gone := x.pages.filter fun p => !l.contains p
      (rOK, (c.setRegion r { x with pages := l }).retire x.quad gone)

/-- A cursor runs on a region. -/
def Chip.replayed (c : Chip) (r : Nat) : Bool := c.stor.cursors.any fun e => e.2.state == 1 && e.2.region == r

/-- A region is deleted (R222, R289). -/
def Chip.regionDelete (c : Chip) (r : Nat) : Nat × Chip :=
  let x := c.region r
  if !x.valid then (rNotFound, c)
  else if c.brkw.inst.any fun e => e.2.cfg.dlRegion == r || e.2.cfg.histRegion == r then (rInUse, c)
  else if x.kind == 2 && (x.state != 0 || (x.ringOf 0).recs != []) then (rInUse, c)
  else if x.kind == 3 && (x.arm || c.replayed r) then (rInUse, c)
  else
    let c := (List.range 64).foldl (fun c l =>
      if c.is .DMA_REQ_EN l && c.fld .DMA_REQ_REGION l == r then c.lineLost l else c) c
    (rOK, (c.retire x.quad x.pages).setRegion r Region.init)

/-- WRITE on REGION (R221, R222, R239). -/
def Chip.regionWrite (c : Chip) (r d : Nat) : Nat × Chip :=
  let x := c.region r
  if !d.testBit 63 then (if x.valid then c.regionDelete r else (rOK, c))
  else if !x.valid then c.regionCreate r (bits d 62 61) (bits d 47 32) (bits d 20 0)
  else c.regionResize r (bits d 20 0)

/-- The REGION record as it reads. -/
def Chip.regionRec (c : Chip) (r : Nat) : Nat :=
  let x := c.region r
  let k := c.shownCharge r
  bit x.valid * 2 ^ 63 + x.kind * 2 ^ 61 + x.quad * 2 ^ 59 + x.handle * 2 ^ 32 + x.pages.length + k.1 * 2 ^ 64 +
    k.2 * 2 ^ 96

/-! ### Holds (R223-R227) -/

/-- The Berth of a handle's egress entry for a port (R224). -/
def Chip.entryBerth (c : Chip) (h p : Nat) : Option Nat :=
  ((c.egress h).find? fun w => poolPort w == p).map poolBerth

/-- The egress path of a hold is down (R223). -/
def Chip.pathDown (c : Chip) (x : Region) : Bool :=
  match x.trigger with
  | 0 => !c.linkUp x.port
  | 1 => x.force
  | _ => !c.linkUp x.port || x.force

/-- A region's hold returns to DIRECT (R224). -/
def Chip.holdEnd (c : Chip) (r : Nat) : Chip :=
  let x := c.region r
  (c.setRegion r { x with state := 0, shift := 0 }).event 0x0041 (toLE 4 r ++ toLE 1 x.port ++ toLE 8 x.drained)

/-- Every frame of a hold ring is discarded and counted (R226). -/
def Chip.holdDiscard (c : Chip) (r : Nat) : Chip :=
  c.popWhile r 0 (some kHoldDiscards) (fun _ _ => true) ((c.region r).ringOf 0).recs.length

/-- The drain begins, or begins again, under DRAIN, the path having returned at tUp (R226, R227). -/
def Chip.drainStart (c : Chip) (r tUp : Nat) : Chip :=
  let x := c.region r
  match (x.ringOf 0).recs with
  | [] => c.holdEnd r
  | o :: _ =>
    if x.drain = 2 then (c.holdDiscard r).holdEnd r
    else
      let d : Int := if x.drain = 1 then (tUp : Int) - o.time + nsT x.padNs else 0
      c.setRegion r { x with state := 2, tUp := tUp, shift := d }

/-- HOLD_STATE_CHANGE (R223, R224): 1 µs after a change of the path state the region follows it. -/
def Chip.holdChange (c : Chip) (r : Nat) : Chip :=
  let x := c.region r
  if !x.valid || x.kind != 2 || !x.bound then c
  else if c.pathDown x then
    if x.state = 1 then c
    else
      let c := c.setRegion r { x with state := 1, drained := 0, shift := 0 }
      (c.regCount r kHolds 1).event 0x0040 (toLE 4 r ++ toLE 1 x.port)
  else if x.state = 1 then c.drainStart r (c.now - nsT 1000)
  else c

def execHoldStateChange (r : Nat) (s : State) : Host.Outcome State Fault Refusal :=
  onChip (fun c => c.core fun c => c.holdChange r) s

/-- HOLD_DRAIN_READ (R24, R226): a paced read, which a pace of 0 never makes, takes the oldest frame of a draining ring to its Berth, over the bridge if
that lies on the other die, or finds the ring empty. -/
def State.drainRead (s : State) (r : Nat) (cross : Cross) : State :=
  let c := s.chip
  let x := c.region r
  let g := x.ringOf 0
  if !x.valid || x.kind != 2 || x.state != 2 || (x.drain == 0 && c.handlePeak x.handle + x.surplus == 0) then s
  else match g.recs with
    | [] => s.on fun c => c.holdEnd r
    | o :: _ =>
      let launch := ((o.time : Int) + x.shift).toNat
      if x.drain = 1 && decide (c.now + releaseLead + c.incr / 65536 < launch) then s
      else if o.f.rx.isSome || !(o.gap || g.inWindow o.off o.size) then s
      else
        let (f, s) := s.readHead r 0
        match f, s.chip.entryBerth x.handle x.port with
        | some f, some b =>
          let (ok, c) := s.chip.moveTo x.quad (quadOfPort x.port) f.size cross
          let c := if ok && (c.sole || !f.soleOnly) then (c.enqueue b f (if x.drain = 1 then some launch else none)).2.2 else c
          let y := c.region r
          s.withChip (((c.setRegion r { y with drained := y.drained + 1 }).regCount r kDrained 1).noteShare
            (quadOfPort x.port))
        | _, _ => s

def execHoldDrainRead (r : StoreRead) (s : State) : Host.Outcome State Fault Refusal :=
  onState (fun s => s.core fun s => s.drainRead r.no r.x) s

/-- The HOLD record's fields over a region. -/
def Region.withHold (x : Region) (d : Nat) : Region :=
  { x with bound := true, port := bits d 7 0, trigger := bits d 9 8, force := d.testBit 10, drain := bits d 12 11,
           surplus := bits d 95 64, ageMs := bits d 127 96, padNs := bits d 159 128 }

/-- The HOLD record as it reads. -/
def Region.holdRec (x : Region) : Nat :=
  x.port + x.trigger * 2 ^ 8 + bit x.force * 2 ^ 10 + x.drain * 2 ^ 11 + x.surplus * 2 ^ 64 + x.ageMs * 2 ^ 96 +
    x.padNs * 2 ^ 128

/-- A HOLD record is judged (R223, R226, R239, R340): 0 or a code. -/
def Chip.holdCode (c : Chip) (r d : Nat) : Nat :=
  let x := c.region r
  let y := x.withHold d
  let other := c.regions.any fun e => e.1 != r && e.2.kind == 2 && e.2.handle == x.handle && e.2.bound &&
    e.2.port == y.port
  let berth := c.entryBerth x.handle y.port
  if !x.valid then rNotFound
  else if x.kind != 2 || y.trigger == 3 || y.drain == 3 || decide (y.padNs < 20000) then rParam
  else if berth.isNone || other then rParam
  else if y.drain == 1 && !c.bTimed (berth.getD 0) then rParam
  else if x.bound && y.port != x.port && (x.state != 0 || (x.ringOf 0).recs != []) then rInUse
  else if decide (x.surplus < y.surplus) && !c.chargeFits x.quad r y then rNoResource
  else rOK

/-- A change of DRAIN during DRAINING (R226). -/
def Chip.drainChanged (c : Chip) (r old : Nat) : Chip :=
  let x := c.region r
  if x.state != 2 || x.drain == old then c
  else if x.drain = 2 then (c.holdDiscard r).holdEnd r
  else match (x.ringOf 0).recs with
    | [] => c
    | o :: _ =>
      if x.drain = 1 then
        c.setRegion r { x with tUp := c.now, shift := (c.now : Int) - o.time + nsT x.padNs }
      else c.setRegion r { x with shift := 0 }

/-- WRITE on HOLD (R223, R226). -/
def Chip.holdWrite (c : Chip) (r d : Nat) : Nat × Chip :=
  let code := c.holdCode r d
  let x := c.region r
  if code = rOK then (rOK, (c.setRegion r (x.withHold d)).drainChanged r x.drain) else (code, c)

/-! ### Records (R229, R231, R235, R236) -/

/-- The spill charge of a region in bytes per second (R236). -/
def Chip.spillCharge (c : Chip) (x : Region) : Nat := x.total (c.handlePeak x.handle) * 125

/-- Extents of a drive, without region `but`: pages and charge (R235, R236). -/
def Chip.extents (c : Chip) (slot : Nat) (but : Option Nat) : Nat × Nat :=
  let l := (c.regions.filter fun e => e.2.spill == slot + 1 && but != some e.1)
  ((l.map fun e => e.2.spillPages).sum, (l.map fun e => c.spillCharge e.2).sum)

def Chip.spilS (c : Chip) (s : Nat) : SpilS := kGet SpilS.init c.spil s
def Chip.setSpil (c : Chip) (s : Nat) (x : SpilS) : Chip := { c with spil := kPut SpilS.init c.spil s x }

/-- A drive may take a region's extent (R235, R236). -/
def Chip.spillFits (c : Chip) (r : Nat) (x : Region) : Bool :=
  let s := x.spill - 1
  let (pages, charge) := c.extents s (some r)
  match (c.spilS s).prepared with
  | none => false
  | some n => c.is .STOR_SPILL_CFG_ENABLE s && !c.is .STOR_SPILL_STAT_FAULT s && decide (256 ≤ x.pages.length) &&
      decide (pages + x.spillPages ≤ n) &&
      decide (charge + c.spillCharge x ≤ c.fld .STOR_SPILL_CFG_BUDGET_MBS s * 1000000)

/-- The RECORD record's fields over a region (R239). -/
def Region.withRecord (x : Region) (d : Nat) : Region :=
  { x with arm := d.testBit 0, ring := d.testBit 1, spill := bits d 3 2, rate := bits d 63 32,
           spillPages := bits d 95 64 }

/-- The RECORD record as it reads. -/
def Region.recordRec (x : Region) : Nat :=
  bit x.arm + bit x.ring * 2 + x.spill * 4 + x.rate * 2 ^ 32 + x.spillPages * 2 ^ 64

/-- A RECORD record is judged (R236, R239, R340): 0 or a code. -/
def Chip.recordCode (c : Chip) (r d : Nat) : Nat :=
  let x := c.region r
  let y := x.withRecord d
  if !x.valid then rNotFound
  else if x.kind < 2 || y.spill == 3 || (x.kind == 2 && (y.arm || y.ring || y.rate != 0)) then rParam
  else if decide (x.rate < y.rate) && !c.chargeFits x.quad r y then rNoResource
  else if y.spill != 0 && (y.spill != x.spill || decide (x.spillPages < y.spillPages) || decide (x.rate < y.rate)) &&
      !c.spillFits r y then rNoResource
  else rOK

/-- Extent pages of a region that the window does not hold are lost to replay and drain (R237). -/
def Chip.loseExtent (c : Chip) (r : Nat) : Chip :=
  let x := c.region r
  let gone (p : PageRef) : Bool := p.drive.isSome && !p.win
  let n := (x.rings.map fun e => e.2.pages.countP gone).sum
  let fix (g : Ring) : Ring :=
    let g := g.without gone
    { g with pages := g.pages.map fun p => { p with drive := none } }
  let rings : KMap Ring := x.rings.map fun e => (e.1, fix e.2)
  let c := ((c.linesGone r (x.ringOf 0) gone).setRegion r { x with rings := rings }).regCount r kSpillLost n
  if n = 0 then c else (c.cursorsLose r (x.ringOf 0).recs 6).regionLost r

/-- WRITE on RECORD (R229, R235, R239): a region that stops spilling gives its extent up. -/
def Chip.recordWrite (c : Chip) (r d : Nat) : Nat × Chip :=
  let code := c.recordCode r d
  let x := c.region r
  let y := x.withRecord d
  if code = rOK then (rOK, if x.spill != 0 && y.spill != x.spill then (c.setRegion r y).loseExtent r
    else c.setRegion r y)
  else (code, c)

/-! ### Replay (R233, R234) -/

/-- Running cursors of a quadrant (STOR_CURSORS). -/
def Chip.cursorsOf (c : Chip) (q : Nat) : Nat :=
  (c.stor.cursors.filter fun e => e.2.state == 1 && (c.region e.2.region).quad == q).length

/-- The first record, a marker among them, at or after an index time (R234). -/
def Region.firstAt (x : Region) (t : Nat) : Nat :=
  match (x.ringOf 0).recs.find? fun r => decide (t ≤ r.time) with
  | some r => r.off
  | none => (x.ringOf 0).wr

/-- The REPLAY record's fields (R239). -/
def cursorOf (d : Nat) : Cursor :=
  { Cursor.init with region := bits d 16 0, berth := bits d 47 32, lateOk := d.testBit 48, t1 := bits d 159 64,
                     t2 := bits d 287 192, l := bits d 415 320 }

/-- The REPLAY record as it reads. -/
def Cursor.word (x : Cursor) : Nat :=
  x.region + x.berth * 2 ^ 32 + bit x.lateOk * 2 ^ 48 + x.state * 2 ^ 49 + x.cause * 2 ^ 52 + x.t1 * 2 ^ 64 +
    x.t2 * 2 ^ 192 + x.l * 2 ^ 320 + x.frames * 2 ^ 448

/-- The replay lead (R233). -/
def Chip.replayLead (c : Chip) (x : Region) (off : Nat) : Nat :=
  let _ := c
  match (x.ringOf 0).pageAt off with
  | some p => if p.win then nsT 100000 else nsT 20000000
  | none => nsT 100000

/-- The parameters of START on REPLAY (R233): 0 they stand. -/
def Chip.replayCode (c : Chip) (y : Cursor) : Nat :=
  let x := c.region y.region
  if !timeOk y.t1 ∨ !timeOk y.t2 ∨ !timeOk y.l ∨ unpackTime y.t2 ≤ unpackTime y.t1 then rParam
  else if !x.valid then rNotFound
  else if x.kind ≠ 3 then rParam
  else if !c.bValid y.berth || !c.bTimed y.berth then rParam
  else rOK

/-- START on REPLAY (R233): times are kept as the 96-bit values of R9. -/
def Chip.replayStart (c : Chip) (k d : Nat) : Nat × Chip :=
  let y := cursorOf d
  let x := c.region y.region
  if c.replayCode y ≠ rOK then (c.replayCode y, c)
  else if k ≥ 1024 then (rParam, c)
  else if x.rate = 0 then (rNoResource, c)
  else if c.replayed y.region || (c.cursor k).state == 1 then (rInUse, c)
  else if 256 ≤ c.cursorsOf x.quad then (rNoResource, c)
  else
    let off := x.firstAt (unpackTime y.t1)
    let least := c.now + c.replayLead x off
    if unpackTime y.l < least ∧ !y.lateOk then (rTimePassed, c)
    else
      let l := if unpackTime y.l < least then packTime least else y.l
      (rOK, (c.setCursor k { y with state := 1, l := l, next := off }).duoLog (.replay k 4 l))

/-- STOP on REPLAY (R234). -/
def Chip.replayStop (c : Chip) (k : Nat) : Nat × Chip :=
  if k ≥ 1024 then (rParam, c)
  else if (c.cursor k).state ≠ 1 then (rOK, c)
  else (rOK, (c.endCursor k 4).duoLog (.replay k 5 0))

/-- A freeze ends every running replay (R234). -/
def Chip.replayFreeze (c : Chip) : Chip := c.stor.cursors.foldl (fun c e => c.endCursor e.1 5) c

/-- A record of a replay enters at the Berth stage (R24, R225, R234): the frame as recorded, with its launch time, over the
bridge if the Berth lies on the other die; its PTP correction is not touched. A hold of the stream on the Berth's port that
is not DIRECT keeps it; FRAMES counts those enqueued. -/
def State.replayFrame (s : State) (k r : Nat) (rec : Rec) (launch : Nat) (cross : Cross) : State :=
  let (res, s) := s.readRec r 0 rec
  let g := (s.chip.region r).ringOf 0
  let next := rec.off + 8 + rec.len
  let x := s.chip.cursor k
  match res with
  | .wordBad => s.on fun c => c.setCursor k { x with next := g.pageEnd rec.off }
  | .bad => s.on fun c => c.setCursor k { x with next := next }
  | .good f =>
    let f := { f with ptp := false, inPort := none, rx := none, epoch := none }
    let reg := s.chip.region r
    let p := s.chip.bPort x.berth
    let held := (s.chip.holdOf reg.handle p).filter fun h => (s.chip.region h).state != 0
    let (ok, c) := (s.chip.setCursor k { x with next := next }).moveTo reg.quad (quadOfPort p) f.size cross
    let s := s.withChip c
    if !ok then s
    else match held with
      | some h => s.holdStore h f launch
      | none => s.on fun c =>
        let (ok, _, c) := c.enqueue x.berth f (some launch)
        (c.setCursor k { x with next := next, frames := if ok then x.frames + 1 else x.frames }).noteShare (quadOfPort p)

/-- REPLAY_READ (R234): the next record is enqueued, or the replay waits or ends. -/
def State.replayRead (s : State) (k : Nat) (cross : Cross) : State :=
  let c := s.chip
  let x := c.cursor k
  let r := c.region x.region
  let t1 := unpackTime x.t1
  if x.state ≠ 1 then s
  else match (r.ringOf 0).recs.find? fun y => decide (x.next ≤ y.off) && (y.marker || decide (t1 ≤ y.time)) with
    | none => if r.arm then s else s.on fun c => c.endCursor k 2
    | some y =>
      if y.marker then s.on fun c => c.endCursor k 1
      else if unpackTime x.t2 ≤ y.time then s.on fun c => c.endCursor k 0
      else
        let launch := unpackTime x.l + (y.time - t1)
        if c.now + releaseLead + c.incr / 65536 < launch || y.f.rx.isSome then s
        else if y.gap then s.on fun c => c.setCursor k { x with next := y.off + 8 + y.len }
        else if !(r.ringOf 0).inWindow y.off y.size then s
        else s.replayFrame k x.region y launch cross

def execReplayRead (cur : StoreRead) (s : State) : Host.Outcome State Fault Refusal :=
  onState (fun s => s.core fun s => s.replayRead cur.no cur.x) s

/-! ### Scrub (R217) -/

/-- The lines of a stack. -/
def stackLines : Nat := 524288 * 1024

/-- The scrubber reads a stack that was retrained after a failure (R216, R217, R406): each line not written since is
uncorrectable and marks its page. One report stands for all of them, and only pages that regions hold are marked
(notes/assumptions/198.md). -/
def Chip.scrubStale (c : Chip) (m : Nat) (written : List Nat) : Chip :=
  if c.stackBad m || decide (stackLines ≤ written.length) then c
  else
    let pages := (c.regions.flatMap fun e => e.2.pages.map fun n => storeAddr e.2.quad n 0).filter fun a =>
      stackOf a == m && !c.stor.bad.contains (a / 65536) &&
        ((List.range 1024).any fun k => !written.contains (a + 64 * k))
    let c := c.setStor { c.stor with bad := c.stor.bad ++ pages.map fun a => a / 65536 }
    (c.countN 32 .STOR_ECC_CNT_UNCORR m (stackLines - written.length)).report (0x7000 + m) 0x405
      (storeAddr (m / 2) (m % 2) 0)

/-- SCRUB_PASS (R216, R217): every line of the stacks that serve is read once. -/
def Chip.scrub (c : Chip) : Chip :=
  if !c.is .STOR_SCRUB_CFG_SCRUB_EN 0 then c
  else
    let d := c.stor.ecc.foldl (fun c e => if c.stackBad (stackOf e.1) || c.staleLine e.1 then c else (c.eccLine e.1).2) c
    c.stor.stale.foldl (fun c e => c.scrubStale e.1 e.2) d

def execScrubPass (s : State) : Host.Outcome State Fault Refusal := onChip (fun c => c.core fun c => c.scrub) s

/-! ### Spill (R235-R237) -/

/-- A drive takes and gives pages: prepared, no fault, Fened running (R17, R235). -/
def Chip.spillRuns (c : Chip) (slot : Nat) : Bool :=
  (c.spilS slot).prepared.isSome && !c.is .STOR_SPILL_STAT_FAULT slot && c.fenedRuns

/-- The key of a page of a drive. -/
def driveKey (slot page : Nat) : Nat := slot * 2 ^ 40 + page

/-- A drive page that holds nothing: which, a free value says (notes/assumptions/36.md). -/
def Chip.freeDrivePage (c : Chip) (slot : Nat) : Nat × Chip :=
  c.choose ((c.stor.drive.filter fun e => e.1 / 2 ^ 40 == slot).map fun e => e.1 % 2 ^ 40) (2 ^ 40)

/-- The page of a ring with number i replaced. -/
def Ring.setPage (g : Ring) (i : Nat) (p : PageRef) : Ring := { g with pages := setAt g.pages i p }

/-- The oldest full page of a ring's window that lies on no drive yet, with its number. -/
def Ring.fullPage (g : Ring) : Option (PageRef × Nat) :=
  g.pages.zipIdx.find? fun e => e.1.win && e.1.drive.isNone && decide (e.1.start + 65536 ≤ g.wr)

/-- A ring's pages on a drive. -/
def Ring.extent (g : Ring) : List PageRef := g.pages.filter fun p => p.drive.isSome

/-- A ring record whose extent is full gives up the extent's oldest page (R231). -/
def Chip.makeExtent (c : Chip) (r : Nat) : Chip :=
  let x := c.region r
  match (x.ringOf 0).extent with
  | p :: rest => if x.ring && decide (x.spillPages ≤ rest.length + 1) then c.reclaimPage r p else c
  | [] => c

/-- SPILL_PAGE_WRITTEN (R231, R235): the oldest full page of the window is on the drive, and returns to the window. -/
def State.pageWritten (s : State) (slot r : Nat) : State :=
  if !s.chip.spillRuns slot || !(s.chip.region r).valid || (s.chip.region r).spill != slot + 1 ||
      ((s.chip.region r).ringOf 0).fullPage.isNone then s
  else
    let c := s.chip.makeExtent r
    let x := c.region r
    let g := x.ringOf 0
    match (if x.spillPages ≤ g.extent.length then none else g.fullPage) with
    | none => s
    | some (p, i) =>
      let a := storeAddr x.quad p.no 0
      let (ok, c) := (c.quadCross x.quad 65536 false).eccRead a 65536
      if !ok then s.withChip c
      else
        let (k, c) := c.freeDrivePage slot
        let c := c.setStor { c.stor with drive := kInsert c.stor.drive (driveKey slot k) (memRead s.mem a 65536) }
        s.withChip (c.setRegion r (x.setRing 0 (g.setPage i { p with drive := some (driveKey slot k), win := false })))

def execSpillPageWritten (slot r : Nat) (s : State) : Host.Outcome State Fault Refusal :=
  onState (fun s => s.core fun s => s.pageWritten slot r) s

/-- Where the readers of a region's ring stand: running replays, a drain, and the request lines that watch it (R234, R235,
R288). -/
def Chip.readers (c : Chip) (r : Nat) : List Nat :=
  let x := c.region r
  ((c.stor.cursors.filter fun e => e.2.state == 1 && e.2.region == r).map fun e => e.2.next) ++
    (if x.kind = 2 ∧ x.state = 2 then [(x.ringOf 0).rd] else []) ++
    ((List.range 64).filter fun l => c.is .DMA_REQ_EN l && c.fld .DMA_REQ_REGION l == r).map fun l => c.fld .DMA_REQ_PTR l

/-- The extent page that a reader at an offset needs next: the first at or after it that the window does not hold. -/
def Ring.nextBack (g : Ring) (off : Nat) : Option (PageRef × Nat) :=
  g.pages.zipIdx.find? fun e => e.1.drive.isSome && !e.1.win && decide (off < g.endOf e.2 e.1)

/-- Window copies that every reader has passed are given up (R235). -/
def Ring.dropPassed (g : Ring) (readers : List Nat) : Ring :=
  { g with pages := g.pages.zipIdx.map fun e =>
      if e.1.drive.isSome && readers.all fun o => decide (g.endOf e.2 e.1 ≤ o) then { e.1 with win := false } else e.1 }

/-- SPILL_READ_COMPLETE (R235): an extent page that a reader needs next is read back into the window. -/
def State.readBack (s : State) (slot r : Nat) : State :=
  let c := s.chip
  let x := c.region r
  let l := c.readers r
  let x := if x.idle = [] then x.setRing 0 ((x.ringOf 0).dropPassed l) else x
  let g := x.ringOf 0
  if !c.spillRuns slot || !x.valid || x.spill != slot + 1 then s
  else match l.findSome? g.nextBack, x.idle with
    | some (p, i), n :: _ =>
      let b := kGet [] c.stor.drive (p.drive.getD 0)
      let s := (s.on fun c => c.quadCross x.quad 65536 true).storeWrite (storeAddr x.quad n 0) b
      s.on fun c => c.setRegion r (x.setRing 0 (g.setPage i { p with no := n, win := true }))
    | _, _ => s

def execSpillReadComplete (slot r : Nat) (s : State) : Host.Outcome State Fault Refusal :=
  onState (fun s => s.core fun s => s.readBack slot r) s

/-- A drive is no longer usable (R237, R272): copying stops, its extents are lost, READY clears. -/
def Chip.spillLeave (c : Chip) (slot : Nat) : Chip :=
  let c := c.setB .STOR_SPILL_STAT_READY slot false
  let c := c.setSpil slot { c.spilS slot with prepared := none, stopped := true }
  let c : Chip := (c.regions.filter fun e => e.2.spill == slot + 1).foldl (fun c e => c.loseExtent e.1) c
  c.setStor { c.stor with drive := c.stor.drive.filter fun e => e.1 / 2 ^ 40 != slot }

/-- A drive faults, is removed, or Fened stalls (R237). -/
def Chip.spillStop (c : Chip) (slot : Nat) : Chip :=
  if (c.spilS slot).prepared.isNone then c
  else
    let c := (c.setB .STOR_SPILL_STAT_FAULT slot true).setB .STOR_SPILL_STAT_FAULT_SEEN slot true
    (c.report (0x7010 + slot) 0x406 slot).spillLeave slot

def execSpillIo (slot : Nat) (why : SpillFault) (s : State) : Host.Outcome State Fault Refusal :=
  let _ := why
  onChipS (fun c => c.core fun c => c.spillStop slot) s

/-! ### STOR_CMD (R238) -/

/-- The STATE record (R239): OLDEST and NEWEST are the times of the first and the last frame of a ring; of a delay line's path
rings, the least and the greatest. -/
def Chip.regionState (c : Chip) (r : Nat) : Nat :=
  let x := c.region r
  let frames := x.rings.map fun e => e.2.recs.filter Rec.isFrame
  let oldest := (frames.filterMap fun l => l.head?.map fun y => y.time).foldl
    (fun a t => match a with | none => some t | some u => some (min t u)) none
  let newest := (frames.filterMap fun l => l.getLast?.map fun y => y.time).foldl max 0
  let used := if x.kind = 1 then c.floorOf r else x.inUse.length
  let driven := (x.rings.map fun e => e.2.pages.countP fun p => p.drive.isSome).sum
  used + x.state * 2 ^ 24 + packTime (oldest.getD 0) * 2 ^ 64 + packTime newest * 2 ^ 192 +
    ofInt 64 x.shift * 2 ^ 320 + driven * 2 ^ 384

def Chip.regCntRec (c : Chip) (r : Nat) : Nat := ((List.range 11).map fun k => c.regCnt r k * 2 ^ (64 * k)).sum

/-- CLEAR on COUNTERS (R239). -/
def Chip.regClear (c : Chip) (r : Nat) : Chip :=
  c.setStor { c.stor with cnt := c.stor.cnt.filter fun e => e.1 / 16 != r }

/-- A page put among pages in the order of their base times. -/
def insertPage (p : Nat × Nat) : List (Nat × Nat) → List (Nat × Nat)
  | [] => [p]
  | q :: l => if p.2 < q.2 then p :: q :: l else q :: insertPage p l

/-- The pages of a region, oldest first: those of its ring in the ring's order, those of path rings by base time; then its
idle ones. -/
def Region.map (x : Region) : List (Nat × Nat) :=
  let of_ (g : Ring) : List (Nat × Nat) := (g.pages.filter fun p => p.win).map fun p => (p.no, p.base)
  let used := if x.kind = 0 then (x.rings.flatMap fun e => of_ e.2).foldl (fun l p => insertPage p l) []
    else x.rings.flatMap fun e => of_ e.2
  used ++ x.idle.map fun n => (n, 0)

/-- READ on PAGEMAP (R239). -/
def Chip.pageMap (c : Chip) (r k : Nat) : Option (Nat × Nat) :=
  let x := c.region r
  ((x.map)[k]?).map fun e => (storeAddr x.quad e.1 0, packTime e.2)

def Chip.storWin (c : Chip) (d : Nat) : Nat × Chip := (rOK, c.setWindow .STOR_DATA_DATA d)

/-- The operation that a table and an operation code name (R238). -/
def Chip.storOp (c : Chip) (table op : Nat) : Chip :=
  let r := c.fld .STOR_INDEX_INDEX 0
  let d := c.window .STOR_DATA_DATA
  let y : Nat × Chip := match table, op with
    | 0, 0 => c.storWin (c.regionRec r)
    | 0, 1 => c.regionWrite r d
    | 0, 2 => c.regionDelete r
    | 1, 0 => c.storWin (c.region r).holdRec
    | 1, 1 => c.holdWrite r d
    | 2, 0 => c.storWin (c.region r).recordRec
    | 2, 1 => c.recordWrite r d
    | 3, 0 => c.storWin (c.regionState r)
    | 4, 0 => c.storWin (c.regCntRec r)
    | 4, 3 => (rOK, c.regClear r)
    | 5, 0 => if r < 1024 then c.storWin (c.cursor r).word else (rParam, c)
    | 5, 4 =>
      let (code, c) := c.replayStart r d
      (code, if code = rOK then c.setWindow .STOR_DATA_DATA (c.cursor r).word else c)
    | 5, 5 => c.replayStop r
    | 6, 0 =>
      match c.pageMap r (bits d 31 0) with
      | some (a, t) => c.storWin (bits d 31 0 + a * 2 ^ 64 + t * 2 ^ 128)
      | none => (rParam, c)
    | _, _ => (rParam, c)
  y.2.setF .STOR_STATUS_RESULT 0 y.1

/-- A write of STOR_CMD (R238): the fields, and with START the operation, which runs whole within its step. -/
def Chip.wrStorCmd (c : Chip) (data : Nat) : Chip :=
  let c := (c.setF .STOR_CMD_TABLE 0 (bits data 23 20)).setF .STOR_CMD_OP 0 (bits data 19 16)
  if data.testBit 31 then c.storOp (bits data 23 20) (bits data 19 16) else c

/-- A write of STOR_CMD by a path. -/
def Chip.storCmd (c : Chip) (src : Src) (data : Nat) : Chip :=
  c.gated src .STOR 0xC00008 fun c => c.wrStorCmd data

/-- A STOR_CMD word for a table and an operation, START set. -/
def storWord (table op : Nat) : Nat := 2 ^ 31 + table * 2 ^ 20 + op * 2 ^ 16

/-- STOR_REGION_WRITE (R221, R222). -/
def execStorRegionWrite (src : Src) (_data : Nat) (s : State) : Host.Outcome State Fault Refusal :=
  onChip (fun c => c.storCmd src (storWord 0 1)) s

/-- STOR_REGION_DELETE (R222). -/
def execStorRegionDelete (src : Src) (_data : Nat) (s : State) : Host.Outcome State Fault Refusal :=
  onChip (fun c => c.storCmd src (storWord 0 2)) s

/-- STOR_HOLD_WRITE (R223). -/
def execStorHoldWrite (src : Src) (_data : Nat) (s : State) : Host.Outcome State Fault Refusal :=
  onChip (fun c => c.storCmd src (storWord 1 1)) s

/-- STOR_RECORD_WRITE (R229). -/
def execStorRecordWrite (src : Src) (_data : Nat) (s : State) : Host.Outcome State Fault Refusal :=
  onChip (fun c => c.storCmd src (storWord 2 1)) s

/-- STOR_COUNTERS_CLEAR (R239). -/
def execStorCountersClear (src : Src) (_data : Nat) (s : State) : Host.Outcome State Fault Refusal :=
  onChip (fun c => c.storCmd src (storWord 4 3)) s

/-- STOR_REPLAY_START (R233). -/
def execStorReplayStart (src : Src) (_data : Nat) (s : State) : Host.Outcome State Fault Refusal :=
  onChip (fun c => c.storCmd src (storWord 5 4)) s

/-- STOR_REPLAY_STOP (R234). -/
def execStorReplayStop (src : Src) (_data : Nat) (s : State) : Host.Outcome State Fault Refusal :=
  onChip (fun c => c.storCmd src (storWord 5 5)) s

/-- STOR_READ (R238): READ of the table that the command word names. -/
def execStorRead (src : Src) (data : Nat) (s : State) : Host.Outcome State Fault Refusal :=
  onChip (fun c => c.storCmd src (storWord (bits data 23 20) 0)) s

end Sys2Proof.Machine
end

