-- ==== Sys2Proof/Machine/Time.lean ====
section
/-!
DEFINITION. Machine/Time.lean: the time counters and their voter, steps and loads, PPS, the PTP sources with their
cross-check, and the servo (03_timebase.md).
-/
namespace Sys2Proof.Machine

/-! ### Access -/

def Chip.src (c : Chip) (s : Nat) : SrcS := kGet SrcS.init c.time.srcs s
def Chip.setSrc (c : Chip) (s : Nat) (x : SrcS) : Chip :=
  c.setTime { c.time with srcs := kPut SrcS.init c.time.srcs s x }

/-- A TIME write dropped whole (R81, R346). -/
def Chip.timeBad (c : Chip) (source off : Nat) : Chip := c.report source 0x104 off

/-- Fened steers the time (R78). -/
def Chip.steers (c : Chip) : Bool := c.fenedRuns && !c.claimed 1

/-! ### clockClass (R77) -/

/-- The class that master ports advertise in the present state (R77): 248 while the time is suspect or not valid (R61). -/
def Chip.classNow (c : Chip) : Nat :=
  if c.is .TIME_STATUS_SUSPECT 0 || !c.is .TIME_STATUS_VALID 0 then 248
  else match c.fld .TIME_STATUS_SERVO_STATE 0 with
    | 2 => c.time.upClass
    | 3 => if c.is .TIME_STATUS_HOLD_SPEC_OUT 0 then 52 else if c.time.upClass = 6 then 7 else c.time.upClass
    | _ => 248

/-- Fened updates the class while it runs (R77). -/
def Chip.noteClass (c : Chip) : Chip :=
  if c.fenedRuns then c.setTime { c.time with clockClass := c.classNow } else c

/-! ### Rate (R52, R77, R81) -/

/-- 16 s in units of 2^-16 ns. -/
def holdWindow : Nat := 16 * secT

/-- Where the time wraps, in units of 2^-16 ns (R59). -/
def wrapT : Nat := 2 ^ 48 * secT

/-- How long ago an instant was, across the wrap of the seconds (R59). -/
def Chip.age (c : Chip) (t : Nat) : Nat := (c.now + wrapT - t % wrapT) % wrapT

/-- An instant moved with the time, across the wrap of the seconds (R59). -/
def moveT (t : Nat) (d : Int) : Nat := (((t : Int) + d) % (wrapT : Int)).toNat

/-- TIME_INCR takes a value, which the mean of R77 remembers. -/
def Chip.setIncr (c : Chip) (v : Nat) : Chip :=
  let c := (c.setF .TIME_INCR_NS 0 (v / 2 ^ 32)).setF .TIME_INCR_FRAC 0 (v % 2 ^ 32)
  let older := c.time.incrs.filter fun e => decide (c.age e.2 < holdWindow)
  let last := (c.time.incrs.filter fun e => !decide (c.age e.2 < holdWindow)).take 1
  c.setTime { c.time with incrs := (v, c.now) :: (older ++ last) }

/-- The mean increment of the last 16 s, cut to 2^-32 ns (R77). -/
def Chip.meanIncr (c : Chip) : Nat :=
  let r := c.time.incrs.foldl (fun (a : Nat × Nat × Nat) e =>
    let st := min holdWindow (c.age e.2)
    if st ≤ a.2.2 then a else (a.1 + e.1 * (st - a.2.2), a.2.1 + (st - a.2.2), st)) (0, 0, 0)
  if r.2.1 = 0 then c.incr else r.1 / r.2.1

/-- An increment within 6.3968 ns to 6.4032 ns (R81). -/
def incrOk (v : Nat) : Bool := decide (63968 * 2 ^ 32 ≤ v * 10000) && decide (v * 10000 ≤ 64032 * 2 ^ 32)

/-- The least and the greatest increment (R81). -/
def incrLow : Nat := ceilDiv (63968 * 2 ^ 32) 10000
def incrHigh : Nat := 64032 * 2 ^ 32 / 10000

/-! ### Steps and loads (R60, R104, R123, R157, R202, R232) -/

/-- All three counters go to a value at one reference edge, d later, and everything that a step or load moves goes with
them. -/
def State.timeMove (s : State) (v : Nat) (d : Int) : State :=
  let t0 := s.chip.now
  let c := s.chip.setRaw v
  let t1 := c.now
  let c := c.setTime { c.time with incrs := c.time.incrs.map fun e => (e.1, moveT e.2 d),
                                   ppsEdge := c.time.ppsEdge.map fun t => moveT t d,
                                   ppsAt := moveT c.time.ppsAt d }
  let c := (((c.planeStep t0 t1 d).metersJump d).count 16 .TIME_EVT_CNT_STEPS 0)
  let c := c.setBrkwS { c.brkw with stepAt := some t1 }
  let c := if d < 0 then c.releasesBack else c
  ((s.withChip c).stepMarkers t1).on fun c => c.event 0x0020 (toLE 12 (ofInt 96 d))

/-- A step by TIME_ADJ_OFS (R60). The seconds wrap (R59). -/
def State.timeStep (s : State) : State :=
  let ofs := asInt 64 (s.chip.fld .TIME_ADJ_OFS_OFS 0)
  s.timeMove ((((s.chip.raw : Int) + ofs * 65536) % (timeWrap : Int)).toNat) ofs

/-- The 96-bit value of TIME_LOAD and TIME_LOAD_HI. -/
def Chip.loadValue (c : Chip) : Nat := c.fld .TIME_LOAD_LOAD 0 + c.fld .TIME_LOAD_HI_LOAD_HI 0 * 2 ^ 64

/-- A load, or its rejection (R9, R60). -/
def State.timeLoad (s : State) : State :=
  if timeOk s.chip.loadValue then
    s.timeMove (unpackTime s.chip.loadValue * 65536) ((unpackTime s.chip.loadValue : Int) - s.chip.now)
  else s.on fun c => c.timeBad 0x1000 0x50038

/-- The action held for the first edge takes effect, with the values as they stand at that edge (R60). -/
def State.heldAction (s : State) : State :=
  if !s.chip.ticking then s
  else match s.chip.time.held with
    | none => s
    | some h =>
      let s := s.on fun c => c.setTime { c.time with held := none }
      match h with
      | .step => s.timeStep
      | .load => s.timeLoad

/-- A step or load is asked for (R60): done at an edge, held while none arrives, dropped while one is pending. -/
def State.timeAsk (s : State) (h : HeldCmd) : State :=
  if s.chip.time.held.isSome then s.on fun c => c.timeBad 0x1000 0x50038
  else if h = .load && !timeOk s.chip.loadValue then s.on fun c => c.timeBad 0x1000 0x50038
  else (s.on fun c => c.setTime { c.time with held := some h }).heldAction

/-- A write of TIME_CMD (R56, R60, R61, R81). -/
def State.wrTimeCmd (s : State) (data : Nat) : State :=
  match bits data 3 0 with
  | 0 => s
  | 1 => s.timeAsk .step
  | 2 => s.timeAsk .load
  | 4 => s.on fun c => (c.setB .TIME_STATUS_SUSPECT 0 false).noteClass
  | 8 => s.on fun c => (c.setB .TIME_STATUS_VALID 0 true).noteClass
  | _ => s.on fun c => c.timeBad 0x1000 0x50038

/-- The gate of a register write whose effect may reach the store. -/
def State.gated (s : State) (src : Src) (b : Block) (off : Nat) (f : State → State) : State :=
  let c := s.chip.dropHalves src
  if !c.reaches src b then s.withChip c
  else if !c.mayWrite b then s.withChip (c.unclaimedWrite off)
  else f (s.withChip c)

/-- A TIME_CMD row: the write of TIME_CMD with the row's bit set and the written word's other bits. -/
def timeCmdRow (src : Src) (bit_ data : Nat) (s : State) : Host.Outcome State Fault Refusal :=
  onStateS (fun s => s.gated src .TIME 0x50038 fun s => s.wrTimeCmd (data ||| bit_)) s

/-- TIME_CMD_STEP (R60). -/
def execTimeCmdStep (src : Src) (data : Nat) (s : State) : Host.Outcome State Fault Refusal := timeCmdRow src 1 data s

/-- TIME_CMD_LOAD (R60). -/
def execTimeCmdLoad (src : Src) (data : Nat) (s : State) : Host.Outcome State Fault Refusal := timeCmdRow src 2 data s

/-- CLEAR_SUSPECT (R56). -/
def execClearSuspect (src : Src) (data : Nat) (s : State) : Host.Outcome State Fault Refusal := timeCmdRow src 4 data s

/-- SET_VALID (R61). -/
def execSetValid (src : Src) (data : Nat) (s : State) : Host.Outcome State Fault Refusal := timeCmdRow src 8 data s

/-! ### Servo states (R77) -/

/-- The servo's state changes: it is reported, and what its entry brings takes place (R56, R61, R77). -/
def Chip.setServo (c : Chip) (st : Nat) : Chip :=
  let old := c.fld .TIME_STATUS_SERVO_STATE 0
  if old = st then c
  else
    let c := (c.setF .TIME_STATUS_SERVO_STATE 0 st).setTime { c.time with lockRun := 0 }
    let c := if old = 3 then c.setB .TIME_STATUS_HOLD_SPEC_OUT 0 false else c
    let c := if st = 2 then (c.setB .TIME_STATUS_VALID 0 true).setB .TIME_STATUS_SUSPECT 0 false else c
    let c := if st = 3 then (c.count 16 .TIME_EVT_CNT_HOLDOVERS 0).setIncr c.meanIncr else c
    (c.event 0x0021 (toLE 1 old ++ toLE 1 st ++ toLE 1 (c.fld .TIME_STATUS_SERVO_SRC 0))).noteClass

/-! ### Reference and voter (R53-R56) -/

/-- REF_LOSS (R53): the counters stop, REF_OK and TIME_VALID clear, and the loss is reported with the held time. -/
def Chip.refLoss (c : Chip) : Chip :=
  if !c.time.running || !c.time.refOn || c.inReset then c
  else
    let c := c.setTime { c.time with refOn := false }
    let c := (c.setB .TIME_STATUS_REF_OK 0 false).setB .TIME_STATUS_VALID 0 false
    let c := c.report 0x1000 0x101 (packTime c.now % 2 ^ 64)
    if 2 ≤ c.fld .TIME_STATUS_SERVO_STATE 0 then c.setServo 1 else c

def execRefLoss (s : State) : Host.Outcome State Fault Refusal := onChipS Chip.refLoss s

/-- REF_RETURN (R53, R60, R384): the counters resume from the held value, a standby in its decision window judges anew, and a
held step or load takes effect. -/
def State.refReturn (s : State) : State :=
  if !s.chip.time.running || s.chip.time.refOn || s.chip.inReset then s
  else (s.on fun c => ((c.setTime { c.time with refOn := true }).setB .TIME_STATUS_REF_OK 0 true).judgeWindow).heldAction

def execRefReturn (s : State) : Host.Outcome State Fault Refusal := onStateS State.refReturn s

/-- TIME_CTR_RELOAD (R55): counter k alone read `value` at an edge; it is reloaded from the voted time. -/
def Chip.ctrReload (c : Chip) (k value : Nat) : Chip :=
  if !c.ticking || 3 ≤ k || value % timeWrap = c.raw then c
  else
    let c := (c.setRaw c.raw).count 32 .TIME_VOTE_CNT_RELOADS 0
    ((c.setB .TIME_STATUS_RELOAD_SEEN 0 true).setF .TIME_STATUS_LAST_BAD 0 k).report 0x1000 0x102 k

def execTimeCtrReload (k value : Nat) (s : State) : Host.Outcome State Fault Refusal :=
  onChip (fun c => c.ctrReload k value) s

/-- How far a value lies from the prediction, either way round the wrap of the seconds (R56, R59). -/
def farFrom (pred v : Nat) : Nat :=
  let d := (v + timeWrap - pred % timeWrap) % timeWrap
  min d (timeWrap - d)

/-- The counter nearest the prediction, the lower number on a tie (R56). -/
def nearest (pred c0 c1 c2 : Nat) : Nat :=
  if farFrom pred c0 ≤ farFrom pred c1 ∧ farFrom pred c0 ≤ farFrom pred c2 then 0
  else if farFrom pred c1 ≤ farFrom pred c2 then 1
  else 2

/-- TIME_VOTE_SPLIT (R56): the three counters read three different values at an edge. -/
def Chip.voteSplit (c : Chip) (c0 c1 c2 : Nat) : Chip :=
  if !c.ticking || c0 = c1 || c1 = c2 || c0 = c2 then c
  else
    let k := nearest (c.raw + c.incr) c0 c1 c2
    let c := (c.setRaw (if k = 0 then c0 else if k = 1 then c1 else c2)).count 32 .TIME_VOTE_CNT_SPLITS 0
    let c := ((c.setB .TIME_STATUS_SUSPECT 0 true).setB .TIME_STATUS_SPLIT_SEEN 0 true).setF .TIME_STATUS_LAST_BAD 0 3
    (c.report 0x1000 0x103 k).noteClass

def execTimeVoteSplit (c0 c1 c2 : Nat) (s : State) : Host.Outcome State Fault Refusal :=
  onChipS (fun c => c.voteSplit (c0 % timeWrap) (c1 % timeWrap) (c2 % timeWrap)) s

/-! ### Sources and the cross-check (R71-R76) -/

/-- The sources that take part: enabled, valid, not excluded, not being confirmed (R72, R76). -/
def Chip.takesPart (c : Chip) (s : Nat) : Bool :=
  c.is .TIME_SRC_ENABLE s && c.is .TIME_SRC_SRC_VALID s && !c.is .TIME_SRC_EXCLUDED s && !c.is .TIME_SRC_CONFIRMING s

/-- Those sources in the order of R72: by priority, then by number. -/
def Chip.srcOrder (c : Chip) : List Nat :=
  (List.range 16).flatMap fun pr => (List.range 9).filter fun s =>
    c.takesPart s && c.fld .TIME_SRC_PRIORITY s == pr

/-- The last offset of a source. -/
def Chip.srcOffset (c : Chip) (s : Nat) : Int := asInt 64 (c.fld .TIME_SRC_OFFSET s)
def Chip.srcMpd (c : Chip) (s : Nat) : Int := asInt 64 (c.fld .TIME_SRC_MPD s)

/-- The offsets that a stepped or excluded source is weighed against: those of the check set without it; of the servo
source, if it is another and the check set holds no other (R74, R76). -/
def Chip.checkOffsets (c : Chip) (s : Nat) : List Int :=
  let order := c.srcOrder.take 5
  let set := (order.drop 1).filter fun x => x != s
  (if set = [] then order.filter fun x => x != s else set).map c.srcOffset

/-- Twice the median: with an even number, the sum of the middle two (R74). -/
def median2 (l : List Int) : Option Int :=
  let t := sortInt l
  let n := t.length
  if n = 0 then none
  else if n % 2 = 1 then some (2 * t.getD (n / 2) 0)
  else some (t.getD (n / 2 - 1) 0 + t.getD (n / 2) 0)

/-- Nanoseconds of a field in units of 2^-16 ns, as an integer. -/
def Chip.nsOf (c : Chip) (f : Fld) : Int := (nsT (c.fld f 0) : Nat)

/-- The offset of a source lies further from the median than CHECK_TOL_NS: its distance, or none when it does not or
there is nothing to weigh against. -/
def Chip.offMedian (c : Chip) (s : Nat) : Option (Bool × Int) :=
  (median2 (c.checkOffsets s)).map fun m =>
    let d := 2 * c.srcOffset s - m
    (decide (2 * c.nsOf .TIME_CHECK_CFG_CHECK_TOL_NS < (d.natAbs : Int)), d / 2)

/-- The servo source of R72 shown in TIME_STATUS; its upstream class is the one advertised. PPS_IN has no upstream
grandmaster: DESIGN CHOICE, the class of the last servo instance stays (notes/assumptions/166.md). -/
def Chip.pickSource (c : Chip) : Chip :=
  match c.srcOrder.head? with
  | none => c.setF .TIME_STATUS_SERVO_SRC 0 15
  | some s =>
    let c := c.setF .TIME_STATUS_SERVO_SRC 0 s
    match kFind c.time.inst s with
    | some x => c.setTime { c.time with upClass := x.gmClass }
    | none => c

/-- CROSS_CHECK (R74, R76): a stepped source is excluded, accepted, or confirmed in holdover. -/
def Chip.crossCheck (c : Chip) (s : Nat) : Chip :=
  match c.offMedian s with
  | some (true, d) =>
    let c := ((c.setB .TIME_SRC_EXCLUDED s true).setB .TIME_SRC_EXCL_SEEN s true).setB .TIME_SRC_CONFIRMING s false
    let c := (c.count 16 .TIME_EVT_CNT_EXCLUSIONS 0).event 0x0022 (toLE 1 s ++ toLE 8 (ofInt 64 d))
    c.pickSource
  | some (false, _) => c.setB .TIME_SRC_CONFIRMING s false
  | none => (c.setB .TIME_SRC_CONFIRMING s true).setServo 3

/-- A valid source appears: the confirmations in progress become cross-checks (R76). -/
def Chip.newValid (c : Chip) (s : Nat) : Chip :=
  (List.range 8).foldl (fun c k => if k != s && c.is .TIME_SRC_CONFIRMING k && c.takesPart s then c.crossCheck k else c) c

/-- A source may have begun to take part, which it did not before if `was` is false (R76). -/
def Chip.appears (c : Chip) (s : Nat) (was : Bool) : Chip :=
  if was || !c.takesPart s || !c.steers then c else c.newValid s

/-- A source becomes valid, or stays so. -/
def Chip.validSrc (c : Chip) (s : Nat) : Chip := (c.setB .TIME_SRC_SRC_VALID s true).appears s (c.takesPart s)

/-- The source takes part in the cross-check: the servo source and the next four do (R72). -/
def Chip.checked (c : Chip) (s : Nat) : Bool := (c.srcOrder.take 5).contains s || c.is .TIME_SRC_CONFIRMING s

/-- An offset sample goes to the servo; the filtered offset that follows is a free value. -/
def Chip.applySample (c : Chip) (s : Nat) : Chip :=
  let (v, c) := c.freshInt
  c.setSrc s { c.src s with filtOffset := some v, unused := true, suspected := false }

/-- The offset that follows from the last Sync with the delay and asymmetry in force (R71, R74). -/
def Chip.newOffset (c : Chip) (s p : Nat) : Chip :=
  c.setF .TIME_SRC_OFFSET s (ofInt 64 ((c.src s).diff - (c.srcMpd s + asInt 64 (c.fld .TIME_PORT_ASYM_ASYM p))))

/-- The port is the slave port of the instance (R72). -/
def Chip.slaveOf (c : Chip) (i p : Nat) : Bool :=
  match kFind c.time.inst i with
  | some x => x.slavePort == p && decide (i < 8) && c.fld .TIME_PORT_CFG_INST p == i
  | none => false

/-- SYNC_RECEIVED (R71, R73): `offset` is arrival time less origin time, in units of 2^-16 ns. -/
def Chip.syncRx (c : Chip) (i p : Nat) (offset : Int) : Chip :=
  if !c.fenedRuns || !c.slaveOf i p then c
  else
    let c := (c.setSrc i { c.src i with diff := offset }).newOffset i p
    let c := c.validSrc i
    let step : Int := c.nsOf .TIME_CHECK_CFG_DELAY_STEP_NS
    match (c.src i).filtOffset with
    | some f =>
      if step < ((c.srcOffset i - f).natAbs : Int) then c.setSrc i { c.src i with suspected := true, unused := false }
      else c.applySample i
    | none => c.applySample i

def execSyncReceived (inst p : Nat) (offset : Int) (s : State) : Host.Outcome State Fault Refusal :=
  onChipS (fun c => c.core fun c => c.syncRx inst p offset) s

/-- A delay filter with a new exchange (R71, R73): a first one fills it, and so does a delay step. -/
def nextFilter (filter : List Int) (delay step : Int) : List Int :=
  if filter = [] ∨ step < ((delay - trimmed filter).natAbs : Int) then List.replicate 8 delay
  else (delay :: filter).take 8

/-- The mean link delay of one exchange on a port of a peer-to-peer instance is filtered (R68, R71). -/
def Chip.linkExchange (c : Chip) (i p : Nat) (delay : Int) : Chip :=
  match kFind c.time.inst i with
  | some x =>
    if !x.peer || c.fld .TIME_PORT_CFG_INST p != i then c
    else
      let f := nextFilter (kGet [] x.links p) delay (c.nsOf .TIME_CHECK_CFG_DELAY_STEP_NS)
      c.setTime { c.time with inst := kInsert c.time.inst i { x with links := kInsert x.links p f } }
  | none => c

/-- A delay exchange of a source, on its slave port (R71, R73, R74, R76). -/
def Chip.srcExchange (c : Chip) (i p : Nat) (delay : Int) : Chip :=
  if !c.slaveOf i p then c
  else
    let x := c.src i
    let step : Int := c.nsOf .TIME_CHECK_CFG_DELAY_STEP_NS
    let load (c : Chip) : Chip :=
      (c.setSrc i { c.src i with filter := List.replicate 8 delay }).setF .TIME_SRC_MPD i (ofInt 64 delay)
    let resume (c : Chip) : Chip := if x.suspected then c.applySample i else c
    if x.filter = [] then resume ((load c).newOffset i p)
    else if step < ((delay - c.srcMpd i).natAbs : Int) then
      let was := c.is .TIME_SRC_CONFIRMING i
      let before := if was then x.before else c.srcMpd i
      let c := c.setSrc i { x with before := before, stepSize := delay - before, suspected := false, unused := true }
      let c := (load c).newOffset i p
      if !c.steers || !c.checked i then c
      else if was && decide (((delay - before).natAbs : Int) ≤ step) then c.setB .TIME_SRC_CONFIRMING i false
      else c.crossCheck i
    else
      let filter := (delay :: x.filter).take 8
      let c := (c.setSrc i { x with filter := filter }).setF .TIME_SRC_MPD i (ofInt 64 (trimmed filter))
      let back := decide (((delay - x.before).natAbs : Int) ≤ step)
      resume (if back && c.steers then c.setB .TIME_SRC_CONFIRMING i false else c)

/-- DELAY_EXCHANGE (R68, R71, R73, R74, R76): `delay` is the mean path or link delay of one exchange, in 2^-16 ns. -/
def Chip.delayExchange (c : Chip) (i p : Nat) (delay : Int) : Chip :=
  if !c.fenedRuns then c else (c.linkExchange i p delay).srcExchange i p delay

def execDelayExchange (inst p : Nat) (delay : Int) (s : State) : Host.Outcome State Fault Refusal :=
  onChipS (fun c => c.core fun c => c.delayExchange inst p delay) s

/-- SUSPECTED_STEP_TIMEOUT (R73): two delay-request intervals have passed; the samples apply again. -/
def execSuspectedStepTimeout (src : Nat) (s : State) : Host.Outcome State Fault Refusal :=
  onChip (fun c => c.core fun c => if c.fenedRuns && (c.src src).suspected then c.applySample src else c) s

/-- A source becomes invalid (R63, R72). -/
def Chip.invalidSrc (c : Chip) (s : Nat) : Chip :=
  (c.setB .TIME_SRC_SRC_VALID s false).setSrc s { c.src s with unused := false }

/-- SYNC_TIMEOUT (R72): three Sync intervals without a Sync. -/
def execSyncTimeout (src : Nat) (s : State) : Host.Outcome State Fault Refusal :=
  onChip (fun c => c.core fun c => if c.fenedRuns && decide (src < 8) then c.invalidSrc src else c) s

/-- A source other than s takes part, against which s can be checked (R76). -/
def Chip.hasOther (c : Chip) (s : Nat) : Bool := (List.range 9).any fun k => k != s && c.takesPart k

/-- The confirmations in progress that another source can check become cross-checks (R76). -/
def Chip.checkConfirming (c : Chip) : Chip :=
  (List.range 8).foldl (fun c k => if c.is .TIME_SRC_CONFIRMING k && c.hasOther k then c.crossCheck k else c) c

/-- CONFIRM_EXPIRY (R76): the new delay is accepted and the servo resumes on the source; with a second source, the
cross-check runs instead. -/
def Chip.confirmEnd (c : Chip) (s : Nat) : Chip :=
  if !c.steers || !c.is .TIME_SRC_CONFIRMING s then c
  else if c.hasOther s then c.crossCheck s
  else
    let c := (c.setB .TIME_SRC_CONFIRMING s false).event 0x0024 (toLE 1 s ++ toLE 8 (ofInt 64 (c.src s).stepSize))
    let c := c.pickSource
    if c.takesPart s && c.fld .TIME_STATUS_SERVO_STATE 0 == 3 then c.setServo 1 else c

def execConfirmExpiry (src : Nat) (s : State) : Host.Outcome State Fault Refusal :=
  onChipS (fun c => c.core fun c => c.confirmEnd src) s

/-- A source is re-admitted (R75). -/
def Chip.readmit (c : Chip) (s : Nat) : Chip :=
  if !c.is .TIME_SRC_EXCLUDED s then c
  else ((c.setB .TIME_SRC_EXCLUDED s false).event 0x0023 (toLE 1 s)).appears s false

/-- READMIT_EXPIRY (R75): the offset has stayed within CHECK_TOL_NS of the median for READMIT_S. -/
def execReadmitExpiry (src : Nat) (s : State) : Host.Outcome State Fault Refusal :=
  onChip (fun c => c.core fun c =>
    if c.steers && (match c.offMedian src with | some (out, _) => !out | none => false) then c.readmit src else c) s

/-! ### The servo (R60, R61, R72, R77) -/

/-- |offset| exceeds n ns. -/
def beyond (off : Int) (ns : Nat) : Bool := decide (nsT ns < off.natAbs)

/-- The servo steps for this offset (R60, R61). -/
def Chip.servoSteps (c : Chip) (off : Int) : Bool :=
  if c.is .TIME_STATUS_VALID 0 then
    c.fld .TIME_SERVO_CFG_STEP_THR 0 != 0xFFFFFFFF && beyond off (c.fld .TIME_SERVO_CFG_STEP_THR 0)
  else beyond off (c.fld .TIME_SERVO_CFG_LOCK_THR 0)

/-- The servo steps the time by the offset of its source (R60). -/
def State.servoStep (s : State) (off : Int) : State :=
  if s.chip.time.held.isSome then s
  else (s.on fun c => c.setF .TIME_ADJ_OFS_OFS 0 (ofInt 64 (-off))).timeAsk .step

/-- The servo slews (R60): the increment it writes is a free value within the range of R81. -/
def Chip.slew (c : Chip) : Chip :=
  let (v, c) := c.fresh
  c.setIncr (incrLow + v % (incrHigh - incrLow + 1))

/-- A fresh sample of the servo source is used (R60, R61, R77). -/
def State.servoSample (s : State) (k : Nat) : State :=
  let off := s.chip.srcOffset k
  let s := s.on fun c => c.setSrc k { c.src k with unused := false }
  let run := if beyond off (s.chip.fld .TIME_SERVO_CFG_LOCK_THR 0) then 0 else min 16 (s.chip.time.lockRun + 1)
  let s := if s.chip.servoSteps off then s.servoStep off else s.on Chip.slew
  s.on fun c =>
    let c := c.setTime { c.time with lockRun := run }
    if c.fld .TIME_STATUS_SERVO_STATE 0 = 1 ∧ run = 16 then c.setServo 2 else c

/-- SERVO_UPDATE (R72, R77): the source is selected, the state follows it, and a fresh sample slews or steps the time.
Nothing happens under a claim of TIME or while Fened stalls (R77, R78). -/
def State.servoUpdate (s : State) : State :=
  if !s.chip.steers then s
  else
    let s := s.on Chip.pickSource
    match s.chip.srcOrder.head? with
    | none => s.on fun c =>
      let c := c.setTime { c.time with lockRun := 0 }
      if c.fld .TIME_STATUS_SERVO_STATE 0 = 2 then c.setServo 3 else c.noteClass
    | some k =>
      let s := s.on fun c =>
        if c.fld .TIME_STATUS_SERVO_STATE 0 = 0 ∨ c.fld .TIME_STATUS_SERVO_STATE 0 = 3 then c.setServo 1 else c
      let s := if (s.chip.src k).unused then s.servoSample k else s
      s.on Chip.noteClass

def execServoUpdate (s : State) : Host.Outcome State Fault Refusal := onStateS (fun s => s.core State.servoUpdate) s

/-- HOLD_SPEC_EXPIRY (R77): HOLD_SPEC_S has passed in HOLDOVER. -/
def execHoldSpecExpiry (s : State) : Host.Outcome State Fault Refusal :=
  onChip (fun c => c.core fun c =>
    if c.fld .TIME_STATUS_SERVO_STATE 0 = 3 then (c.setB .TIME_STATUS_HOLD_SPEC_OUT 0 true).noteClass else c) s

/-! ### PPS (R63, R64) -/

/-- The offset of a capture from the nearest whole second. -/
def secondOffset (t : Int) : Int :=
  let r := t % (secT : Int)
  if 2 * r < secT then r else r - secT

/-- PPS_IN_EDGE (R63): an active edge is captured less IN_DELAY; edges 0.999 s to 1.001 s apart make the source valid. -/
def Chip.ppsEdge (c : Chip) (rising : Bool) : Chip :=
  if rising == c.is .TIME_PPS_CFG_IN_POL 0 then c
  else
    let cap := ((c.now : Int) - asInt 16 (c.fld .TIME_PPS_CFG_IN_DELAY 0) * 65536) % ((2 ^ 48 * secT : Nat) : Int)
    let v := packTime cap.toNat
    let c := (c.setF .TIME_PPS_IN_TS_TS 0 (v % 2 ^ 64)).setF .TIME_PPS_IN_HI_TS_HI 0 (v / 2 ^ 64)
    let ok := match c.time.ppsEdge with
      | some t => decide (nsT 999000000 ≤ c.age t) && decide (c.age t ≤ nsT 1001000000)
      | none => false
    let c := (c.setTime { c.time with ppsEdge := some c.now }).setB .TIME_STATUS_PPS_IN_OK 0 ok
    if !c.fenedRuns then c
    else if ok then
      let c := (c.setF .TIME_SRC_OFFSET 8 (ofInt 64 (secondOffset cap))).validSrc 8
      c.setSrc 8 { c.src 8 with unused := true }
    else c.invalidSrc 8

def execPpsInEdge (rising : Bool) (s : State) : Host.Outcome State Fault Refusal :=
  onChipS (fun c => c.core fun c => c.ppsEdge rising) s

/-- PPS_IN_TIMEOUT (R63): no edge for 1.5 s. -/
def execPpsInTimeout (s : State) : Host.Outcome State Fault Refusal :=
  onChip (fun c => c.core fun c => (c.setB .TIME_STATUS_PPS_IN_OK 0 false).invalidSrc 8) s

/-- PPS_OUT pulses in the present mode (R64, R79). -/
def Chip.ppsMay (c : Chip) : Bool :=
  c.ticking && c.sole && (c.fld .TIME_PPS_CFG_OUT_MODE 0 == 1 ||
    (c.fld .TIME_PPS_CFG_OUT_MODE 0 == 2 && c.is .TIME_STATUS_VALID 0))

/-- The voted time up to the next edge, in units of 2^-16 ns. -/
def Chip.nextEdge (c : Chip) : Nat := c.now + c.incr / 65536 + 1

/-- The next instant that is a whole second plus OUT_OFS, from the present edge on (R64). -/
def Chip.ppsNext (c : Chip) : Nat :=
  c.now + ((asInt 16 (c.fld .TIME_PPS_CFG_OUT_OFS 0) * 65536 - c.now) % (secT : Int)).toNat

/-- PPS_OUT_PULSE (R64): the active edge at a whole second plus OUT_OFS, before the next reference edge. At any other time
there is none (notes/assumptions/67.md). -/
def Chip.ppsPulse (c : Chip) : Chip :=
  if c.ppsMay && decide (c.ppsNext < c.nextEdge) then
    (c.setTime { c.time with ppsAt := c.ppsNext % wrapT }).setPps true
  else c

def execPpsOutPulse (s : State) : Host.Outcome State Fault Refusal := onChip (fun c => c.core Chip.ppsPulse) s

/-- PPS_OUT_PULSE_END (R64): WIDTH_US after the active edge, and not before. -/
def Chip.ppsEnd (c : Chip) : Chip :=
  if nsT (1000 * c.fld .TIME_PPS_CFG_WIDTH_US 0) < (c.nextEdge + wrapT - c.time.ppsAt) % wrapT then c.setPps false else c

def execPpsOutPulseEnd (s : State) : Host.Outcome State Fault Refusal := onChip (fun c => c.core Chip.ppsEnd) s

/-! ### PTP messages (R59, R67, R72, R77, R79) -/

/-- Where the origin timestamp and the correction field lie after a PTP header's start (IEEE 1588-2019). -/
def ptpCorrection : Nat := 8
def ptpOrigin : Nat := 34

/-- The launch time written into a Sync: seconds and nanoseconds as its origin, the fraction as its correction (R67). -/
def putOrigin (b : Bytes) (t : Nat) : Bytes :=
  match ptpPlace b [319] with
  | none => b
  | some (o, _) =>
    let b := splice b (o + ptpOrigin) (toBE 6 (t / secT) ++ toBE 4 (t % secT / 65536))
    splice b (o + ptpCorrection) (toBE 8 (t % 65536))

/-- The turnaround time added to the correction field of a Pdelay_Resp that leaves at t (R67). -/
def putTurn (b : Bytes) (t2 t : Nat) : Bytes :=
  match ptpPlace b [319] with
  | none => b
  | some (o, sum) => correctPtp b o sum ((t : Int) - t2)

/-- What Fened fills into an Announce (R59, R77): the UTC offset, the leap flags and the clockClass (IEEE 1588-2019). -/
def Chip.putAnnounce (c : Chip) (b : Bytes) : Bytes :=
  match ptpPlace b [320] with
  | none => b
  | some (o, _) =>
    let b := splice b (o + 7) (toBE 1 (beNat (slice b (o + 7) 1) / 4 * 4 + bit c.time.leap61 + 2 * bit c.time.leap59))
    splice (splice b (o + 44) (toBE 2 c.time.utcOffset)) (o + 48) (toBE 1 c.time.clockClass)

/-- The ports that a PORTS map names. -/
def portsOf (cfg : Bytes) : List Nat := (List.range 256).filter fun k => (leNat (slice cfg 16 32)).testBit k

/-- The ports of an instance leave it. -/
def Chip.ptpLeave (c : Chip) (i : Nat) : Chip :=
  (List.range 256).foldl (fun c k => if c.fld .TIME_PORT_CFG_INST k = i then c.setF .TIME_PORT_CFG_INST k 15 else c) c

/-- An instance takes a configuration in place of the old one; what it had learnt goes (R338). -/
def Chip.ptpSet (c : Chip) (i : Nat) (p : Bytes) : Chip :=
  let cfg := toLE 1 i ++ slice p 1 11 ++ toLE 4 0 ++ slice p 16 32
  let c := (portsOf p).foldl (fun c k => c.setF .TIME_PORT_CFG_INST k i) (c.ptpLeave i)
  let c := c.invalidSrc i
  c.setTime { c.time with inst := kInsert c.time.inst i ⟨cfg, 0, 0, 0xFF, 248, [], []⟩ }

/-- An instance is deleted. -/
def Chip.ptpDrop (c : Chip) (i : Nat) : Chip :=
  let c := (c.ptpLeave i).invalidSrc i
  c.setTime { c.time with inst := kErase c.time.inst i }

/-- ROLE of an instance: 0 AUTO, 1 MASTER_ONLY, 2 SLAVE_ONLY (R338). -/
def PtpInst.role (x : PtpInst) : Nat := leNat (slice x.cfg 7 1)

/-- The state of a port of an instance (R338): ROLE keeps it MASTER, or from being it; else it is what the best master
algorithm gave it last, and LISTENING before that. -/
def PtpInst.stateOf (x : PtpInst) (p : Nat) : Nat :=
  let st := kGet 1 x.portState p
  if x.role = 1 then 2 else if x.role = 2 ∧ st = 2 then 1 else st

/-- An AUTO port that has heard no master becomes one at its Announce interval: the announce receipt timeout of IEEE
1588-2019, PRESUMED (notes/assumptions/167.md). -/
def Chip.becomeMaster (c : Chip) (i p : Nat) : Chip :=
  match kFind c.time.inst i with
  | some x =>
    if x.role = 0 ∧ x.stateOf p = 1 ∧ c.fld .TIME_PORT_CFG_INST p = i then
      c.setTime { c.time with inst := kInsert c.time.inst i { x with portState := kInsert x.portState p 2 } }
    else c
  | none => c

/-- The instance originates this message on this port, which TIME_PORT_CFG.INST gives it (R66): Sync, Announce and
Delay_Resp on a port in the master state, as sole actions (R79); Delay_Req on its slave port; peer messages on any port of
a peer-to-peer profile (R67, R71). -/
def Chip.sends (c : Chip) (i p : Nat) (m : PtpMsg) : Bool :=
  match kFind c.time.inst i with
  | none => false
  | some x =>
    c.fld .TIME_PORT_CFG_INST p == i && match m with
      | .sync => x.stateOf p == 2 && c.sole
      | .announce => x.stateOf p == 2 && c.sole
      | .delayResp => x.stateOf p == 2 && c.sole && !x.peer
      | .delayReq => x.slavePort == p && !x.peer
      | .pdelayReq => x.peer
      | .pdelayResp _ => x.peer

/-- A message as it is written for the launch time t (R59, R67, R77). -/
def Chip.ptpFill (c : Chip) (m : PtpMsg) (b : Bytes) (t : Nat) : Bytes :=
  match m with
  | .sync => putOrigin b t
  | .pdelayResp t2 => putTurn b t2 t
  | .announce => c.putAnnounce b
  | _ => b

/-- The messageType of a message: those of event messages as R68 gives them, of the others as IEEE 1588-2019 does. -/
def msgCode : PtpMsg → Nat
  | .sync => 0
  | .delayReq => 1
  | .pdelayReq => 2
  | .pdelayResp _ => 3
  | .delayResp => 9
  | .announce => 11

/-- The length of a message in bytes (IEEE 1588-2019): PRESUMED (notes/assumptions/180.md). -/
def msgLength : PtpMsg → Nat
  | .sync => 44
  | .delayReq => 44
  | .announce => 64
  | _ => 54

/-- A message of an instance (R65, R338): version 2, its type, its length, the instance's domain, and no two-step flag; the
rest is that of w. -/
def PtpInst.body (x : PtpInst) (m : PtpMsg) (w : Bytes) : Bytes :=
  let b := (w ++ List.replicate (msgLength m) 0).take (msgLength m)
  let old (k : Nat) : Nat := beNat (slice b k 1)
  splice b 0 (toBE 1 (old 0 / 16 * 16 + msgCode m) ++ toBE 1 (old 1 / 16 * 16 + 2) ++ toBE 2 (msgLength m) ++ slice x.cfg 2 1 ++
    slice b 5 1 ++ toBE 1 (old 6 / 4 * 4 + old 6 % 2))

/-- The frame of a message (R65, R338): behind a VLAN tag if the instance has a VID, over Ethernet with Ethertype 0x88F7, or
over UDP and IPv4 or IPv6 to port 319 for an event message and 320 for another; addresses and what else the headers hold
are those of w. -/
def PtpInst.frame (x : PtpInst) (m : PtpMsg) (w : Bytes) : Bytes :=
  let free (at_ n : Nat) : Bytes := ((w.drop (64 + at_)) ++ List.replicate n 0).take n
  let vid := leNat (slice x.cfg 10 2)
  let tag := if vid = 0 then [] else toBE 2 0x8100 ++ toBE 2 (beNat (free 12 2) / 4096 * 4096 + vid % 4096)
  let body := x.body m w
  let udp := free 16 2 ++ toBE 2 (if msgCode m ≤ 3 then 319 else 320) ++ toBE 2 (8 + msgLength m) ++ free 18 2 ++ body
  let rest := match leNat (slice x.cfg 3 1) with
    | 0 => toBE 2 0x88F7 ++ body
    | 1 => toBE 2 0x0800 ++ toBE 1 0x45 ++ free 20 1 ++ toBE 2 (28 + msgLength m) ++ free 21 5 ++ toBE 1 17 ++ free 26 10 ++ udp
    | _ => toBE 2 0x86DD ++ toBE 1 (6 * 16 + beNat (free 20 1) % 16) ++ free 21 3 ++ toBE 2 (8 + msgLength m) ++ toBE 1 17 ++
        free 26 33 ++ udp
  let b := free 0 12 ++ tag ++ rest
  b ++ List.replicate (60 - b.length) 0

/-- A message goes into a timed Berth of the port with a launch time that Fened chooses (R67), over the bridge if the port is
die B's (R24); its content beyond what the instance gives it and R67 fills in, and the launch time, are free values. A port
without a timed Berth originates nothing: DESIGN CHOICE (notes/assumptions/168.md). -/
def Chip.ptpSend (c : Chip) (i p : Nat) (m : PtpMsg) (y : Cross) : Chip :=
  if !c.sends i p m then c
  else match (c.berthsOf p).filter c.bTimed, kFind c.time.inst i with
    | b :: _, some x =>
      let (n, c) := c.fresh
      let (v, c) := c.fresh
      let t := c.now + v
      let bytes := c.ptpFill m (x.frame m (Config.ptpMessage n)) t
      let f : Frame := ⟨bytes, some (bytes.length + 4), false, c.now, none, none, none, true, none⟩
      let (ok, c) := c.moveTo 0 (quadOfPort p) f.size y
      if ok then ((c.enqueue b f (some t)).2.2).noteShare (quadOfPort p) else c
    | _, _ => c

/-- PTP_INTERVAL (R65, R67). -/
def Chip.ptpInterval (c : Chip) (i p : Nat) (m : PtpSend) : Chip :=
  if !c.fenedRuns then c
  else
    let c := match m.msg with
      | .announce => c.becomeMaster i p
      | _ => c
    c.ptpSend i p m.msg m.cross

def execPtpInterval (inst p : Nat) (msg : PtpSend) (s : State) : Host.Outcome State Fault Refusal :=
  onChip (fun c => c.core fun c => c.ptpInterval inst p msg) s

/-- ANNOUNCE_RECEIVED (R59, R72, R77): UTC offset and leap flags never change the counters. They are those of the last
Announce of any instance: DESIGN CHOICE (notes/assumptions/169.md). -/
def Chip.announce (c : Chip) (i p : Nat) (a : Announce) : Chip :=
  match kFind c.time.inst i with
  | none => c
  | some x =>
    if !c.fenedRuns || c.fld .TIME_PORT_CFG_INST p != i then c
    else
      let x := { x with portState := kInsert x.portState p a.portState }
      let isSlave := x.stateOf p == 3
      let c := if x.slavePort = p && !isSlave then c.invalidSrc i else c
      let y : PtpInst := { x with gmId := a.gmId, stepsRemoved := a.stepsRemoved, gmClass := a.gmClass,
                                  slavePort := if isSlave then p else if x.slavePort = p then 0xFF else x.slavePort }
      let c := c.setTime { c.time with utcOffset := a.utcOffset, leap59 := a.leap59, leap61 := a.leap61,
                                       inst := kInsert c.time.inst i y }
      let c := if c.fld .TIME_STATUS_SERVO_SRC 0 = i then c.setTime { c.time with upClass := a.gmClass } else c
      c.noteClass

def execAnnounceReceived (inst p : Nat) (a : Announce) (s : State) : Host.Outcome State Fault Refusal :=
  onChip (fun c => c.core fun c => c.announce inst p a) s

/-! ### TIME registers (R64, R66, R81) -/

/-- A TIME write of a register with ranges: applied, or dropped whole (R81). -/
def Chip.timeWrite (c : Chip) (ok : Bool) (source off i : Nat) (r : Reg) (data : Nat) : Chip :=
  if ok then c.writeFields (regFields .TIME r) i data else c.timeBad source off

/-- TIME_INCR. -/
def Chip.wrTimeIncr (c : Chip) (data : Nat) : Chip :=
  if incrOk (data % 2 ^ 40) then c.setIncr (data % 2 ^ 40) else c.timeBad 0x1000 0x50018

/-- The ranges of TIME_SERVO_CFG, TIME_CHECK_CFG and TIME_PPS_CFG (R81). -/
def servoCfgOk (data : Nat) : Bool := bits data 31 24 != 0 && bits data 15 0 != 0

def checkCfgOk (data : Nat) : Bool :=
  decide (1 ≤ bits data 63 48) && decide (bits data 63 48 ≤ 600) && bits data 47 32 != 0 &&
    decide (10 ≤ bits data 31 16) && decide (1 ≤ bits data 15 0) && decide (bits data 15 0 ≤ 1000)

def ppsCfgOk (data : Nat) : Bool :=
  bits data 63 62 != 3 && decide (1 ≤ bits data 59 40) && decide (bits data 59 40 ≤ 500000)

/-- TIME_PPS_CFG: the level of PPS_OUT follows the polarity, and mode OFF holds it inactive (R64). -/
def Chip.wrPpsCfg (c : Chip) (data : Nat) : Chip :=
  if !ppsCfgOk data then c.timeBad 0x1000 0x50070
  else
    let l0 := c.ppsLevel
    let c := c.writeFields (regFields .TIME .TIME_PPS_CFG) 0 data
    let c := if bits data 63 62 = 0 then c.setTime { c.time with ppsOut := false } else c
    if c.ppsLevel = l0 then c else c.emit (.ppsOut c.ppsLevel)

/-- TIME_PORT_CFG: INST is 0-7 or none (R66). -/
def portCfgOk (data : Nat) : Bool := decide (bits data 29 26 ≤ 7) || bits data 29 26 == 15

end Sys2Proof.Machine
end

