-- ==== Sys2Proof/Machine/Dma.lean ====
section
/-!
DEFINITION. Machine/Dma.lean: descriptors, channels, FRAME mode and request lines (11_dma_engine.md).
-/
namespace Sys2Proof.Machine

/-! ### Requests to the host (R240, R252, R277) -/

/-- The bytes of the next request from an address: at most `lim`, not across a 4 KiB boundary (R277). -/
def chunkLen (addr lim rest : Nat) : Nat := min rest (min lim (4096 - addr % 4096))

/-- Writes in ascending order of address, split at Max_Payload_Size (R253, R277). The first argument bounds them. -/
def Chip.hostWritesN (ro : Bool) (c : Chip) : Nat → Nat → Bytes → Chip
  | 0, _, _ => c
  | n + 1, addr, b =>
    if b = [] then c
    else
      let k := max 1 (chunkLen addr (128 * 2 ^ c.host.cfg.maxPayload) b.length)
      Chip.hostWritesN ro (c.emit (.hostWrite addr ro (b.take k))) n (addr + k) (b.drop k)

/-- The data writes of a descriptor: they carry Relaxed Ordering when it hints so and Device Control enables it (R252). -/
def Chip.hostWrites (c : Chip) (d : DmaCur) (addr : Nat) (b : Bytes) : Chip :=
  c.hostWritesN (d.roHint && c.host.cfg.relaxed) (b.length + 1) addr b

/-- Bytes of any length written to the store, page by page. The first argument bounds the pages. -/
def State.storeSpan (s : State) : Nat → Nat → Bytes → State
  | 0, _, _ => s
  | n + 1, a, b =>
    if b = [] then s
    else
      let k := 65536 - a % 65536
      State.storeSpan (s.storeWrite a (b.take k)) n (a + k) (b.drop k)

/-- Bytes written to the store. -/
def State.storeBytes (s : State) (a : Nat) (b : Bytes) : State := s.storeSpan (b.length / 65536 + 2) a b

/-! ### Channels -/

def Chip.ringSize (c : Chip) (ch : Nat) : Nat := 2 ^ c.fld .DMA_CH_CFG_SIZE_LOG2 ch
def Chip.ringBase (c : Chip) (ch : Nat) : Nat := c.fld .DMA_CH_RING_BASE_BASE ch * 4096
def Chip.dHead (c : Chip) (ch : Nat) : Nat := c.fld .DMA_CH_HEAD_HEAD ch
def Chip.readsOf (c : Chip) (ch : Nat) : List OutRead := c.host.reads.filter fun r => r.ch == ch

/-- A dropped DMA write (R290): of a channel's register, and of another. -/
def Chip.dmaBad (c : Chip) (inst off : Nat) : Chip := c.report (0x9000 + inst) 0x506 off
def chOff (ch : Nat) : Nat := 0x31000 + 0x100 * ch

/-- The 32 bytes of a writeback (R279). -/
def DmaCur.writeback (d : DmaCur) : Bytes :=
  toLE 8 (d.word 4) ++ toLE 8 (d.word 5) ++ toLE 8 (d.word 6) ++
    toLE 8 (2 ^ 63 + d.status * 2 ^ 48 + d.moved % 2 ^ 32)

/-- The source that a writeback raises: 24 + k after each frame of class k, 8 + channel when IRQ asks (R278, R286). -/
def Chip.wbSource (c : Chip) (ch : Nat) (d : DmaCur) : Option Nat :=
  if d.kind = 4 ∧ 0 < d.moved then some (24 + c.fld .DMA_CH_CFG_RX_CLASS ch)
  else if d.kind ≠ 4 ∧ (d.word 0).testBit 4 then some (8 + ch)
  else none

/-- A channel reaches STOPPED, or STOPPING while something of it is outstanding; source 8 + channel (R283). -/
def Chip.dmaHalt (c : Chip) (ch cause idx : Nat) : Chip :=
  let st := if c.readsOf ch = [] then 3 else 2
  (((c.setF .DMA_CH_STATUS_STATE ch st).setF .DMA_CH_STATUS_CAUSE ch cause).setF .DMA_CH_STATUS_STOP_INDEX ch
    idx).raise (8 + ch)

/-- A writeback goes out (R279, R281): DONE moves, the descriptor counts, its interrupt follows, and an error stops the
channel (R283). -/
def Chip.sendWb (c : Chip) (ch idx : Nat) (b : Bytes) (src : Option Nat) (status : Nat) : Chip :=
  let c := c.emit (.hostWrite (c.ringBase ch + 64 * idx + 32) false b)
  let c := c.setF .DMA_CH_HEAD_DONE ch ((idx + 1) % c.ringSize ch)
  let ok := status == 0 || status == 10
  let c := if ok then c.count 32 .DMA_CH_CNT_DESC_OK ch else c.count 32 .DMA_CH_CNT_DESC_ERR ch
  let c := match src with
    | some s => c.raise s
    | none => c
  if ok then c else c.dmaHalt ch status idx

/-- A STOPPING channel whose descriptor is complete holds its writeback; one with nothing outstanding is STOPPED (R283). -/
def Chip.dmaSettle (c : Chip) (ch : Nat) : Chip :=
  if c.dState ch ≠ 2 then c
  else
    let x := c.dmaCh ch
    let c := match x.cur with
      | some d =>
        if d.phase = 2 then
          (c.setDmaCh ch { x with cur := none, held := some ⟨d.idx, d.writeback, c.wbSource ch d, d.status, txBerth d.words⟩ }).setB
            .DMA_CH_STATUS_WB_HELD ch true
        else c
      | none => c
    if c.readsOf ch = [] && (c.dmaCh ch).cur.isNone then c.setF .DMA_CH_STATUS_STATE ch 3 else c

/-- The current descriptor needs no host request but its writeback (R283). -/
def DmaCur.finishes (d : DmaCur) : Bool :=
  d.phase == 1 || d.phase == 2 || d.phase == 0 && ((d.kind == 0 || d.kind == 3) && (d.issued == d.len || d.status != 0))

/-- Reads of a channel that no descriptor waits for any more. -/
def OutRead.orphan (r : OutRead) (ch : Nat) : OutRead :=
  if r.ch ≠ ch then r else { r with purpose := if r.purpose = 1 ∨ r.purpose = 5 then 5 else 4 }

/-- What a channel had outstanding lands without it (R250). -/
def Chip.orphan (c : Chip) (ch : Nat) : Chip := c.setHost { c.host with reads := c.host.reads.map fun r => r.orphan ch }

/-- A channel stops for a cause other than its descriptor's status (R283): a descriptor that needs more requests is left
unfinished, and HEAD goes back to it (R284). -/
def Chip.dmaStop (c : Chip) (ch cause : Nat) : Chip :=
  if c.dState ch ≠ 1 then c
  else
    let x := c.dmaCh ch
    match x.cur with
    | none => ((c.setDmaCh ch { x with fetched := [] }).orphan ch).dmaHalt ch cause (c.dHead ch)
    | some d =>
      if d.finishes then
        (((c.setDmaCh ch { x with fetched := [] }).dmaHalt ch cause d.idx).setF .DMA_CH_STATUS_STATE ch 2).dmaSettle ch
      else
        (((c.setDmaCh ch { x with fetched := [], cur := none }).orphan ch).setF .DMA_CH_HEAD_HEAD ch d.idx).dmaHalt ch
          cause d.idx

/-- Every running channel stops (R250, R259, R266, R267). -/
def Chip.dmaStopAll (c : Chip) (cause : Nat) : Chip := (List.range 16).foldl (fun c ch => c.dmaStop ch cause) c

/-! ### Issue (R276, R277) -/

/-- The next request of a channel, if it has one: a fetch of up to eight descriptors, or the next read of its data. -/
def Chip.issueOne (c : Chip) (ch : Nat) : Option Chip :=
  if c.dState ch ≠ 1 || !c.hostIssues || decide (1024 ≤ c.host.reads.length) then none
  else
    let x := c.dmaCh ch
    let lim := 128 * 2 ^ c.host.cfg.maxReadReq
    let head := c.dHead ch
    let wait := c.waitingSlots ch
    if x.fetched = [] && decide (0 < wait) && !((c.readsOf ch).any fun r => r.purpose == 0) then
      let n := min (min 8 wait) (c.ringSize ch - head)
      let addr := c.ringBase ch + 64 * head
      some (c.hostRead ch 0 0 addr (chunkLen addr lim (64 * n)))
    else match x.cur with
      | none => none
      | some d =>
        if (d.kind = 0 ∨ d.kind = 3) ∧ d.phase = 0 ∧ d.status = 0 ∧ d.issued < d.len then
          let n := chunkLen (d.src + d.issued) lim (d.len - d.issued)
          let c := c.hostRead ch (if d.kind = 0 then 1 else 3) (if d.kind = 0 then d.dst + d.issued else d.issued)
            (d.src + d.issued) n
          some (c.setCur ch (some { d with issued := d.issued + n }))
        else if d.phase = 3 then some (c.flushRead ch d)
        else none

/-- One request of the first channel, from the one whose turn is next, that has any (R277). -/
def Chip.pumpTurn (c : Chip) : Option Chip :=
  (List.range 16).findSome? fun k =>
    let ch := (c.dma.turn + k) % 16
    (c.issueOne ch).map fun (c : Chip) => { c with dma := { c.dma with turn := (ch + 1) % 16 } }

/-- Requests are issued round-robin until none is left or 1,024 are outstanding (R277). -/
def Chip.pumpN : Nat → Chip → Chip
  | 0, c => c
  | n + 1, c => match c.pumpTurn with
    | some c => Chip.pumpN n c
    | none => c

def Chip.pump (c : Chip) : Chip := ((List.range 16).foldl (fun c ch => c.dmaSettle ch) c).pumpN 1024

/-! ### Registers (R276, R283, R284, R286, R290) -/

/-- START (R284): a held writeback first, then the channel runs from HEAD. -/
def Chip.dmaStart (c : Chip) (ch : Nat) : Chip :=
  if !c.hostIssues || (c.dState ch != 0 && c.dState ch != 3) then c
  else
    let x := c.dmaCh ch
    match x.held with
    | none => (c.setF .DMA_CH_STATUS_STATE ch 1).pump
    | some w =>
      let c := (c.setDmaCh ch { x with held := none }).setB .DMA_CH_STATUS_WB_HELD ch false
      let c := c.sendWb ch w.idx w.bytes w.source w.status
      if w.status = 0 ∨ w.status = 10 then (c.setF .DMA_CH_STATUS_STATE ch 1).pump else c

/-- RESET (R284). -/
def Chip.dmaReset (c : Chip) (ch : Nat) : Chip :=
  let c := (c.orphan ch).setDmaCh ch DmaCh.init
  ((((c.setF .DMA_CH_STATUS_STATE ch 0).setB .DMA_CH_STATUS_WB_HELD ch false).setF .DMA_CH_HEAD_HEAD ch 0).setF
    .DMA_CH_HEAD_DONE ch 0).setF .DMA_CH_TAIL_TAIL ch 0

/-- A write of DMA_CH_CMD (R290). -/
def Chip.wrDmaCmd (c : Chip) (ch data : Nat) : Chip :=
  match bits data 2 0 with
  | 0 => c
  | 1 => c.dmaStart ch
  | 2 => c.dmaStop ch 12
  | 4 => c.dmaReset ch
  | _ => c.dmaBad ch (chOff ch + 0xC)

/-- A write of DMA_CH_TAIL (R276). -/
def Chip.wrDmaTail (c : Chip) (ch data : Nat) : Chip :=
  let n := c.ringSize ch
  let v := bits data 15 0
  let old := c.fld .DMA_CH_TAIL_TAIL ch
  let done := c.fld .DMA_CH_HEAD_DONE ch
  if n ≤ v ∨ (done + 2 * n - 1 - old % n) % n < (v + n - old % n) % n then c.dmaBad ch (chOff ch + 0x10)
  else (c.setF .DMA_CH_TAIL_TAIL ch v).pump

/-- A write of DMA_CH_CFG is admitted (R284, R286, R288, R290). -/
def Chip.dmaCfgOk (c : Chip) (ch data : Nat) : Bool :=
  let others := (List.range 16).filter fun k => k != ch
  (c.dState ch == 0 || c.dState ch == 3) && decide (3 ≤ bits data 4 0) && decide (bits data 4 0 ≤ 16) &&
    !(data.testBit 13 && others.any fun k => c.is .DMA_CH_CFG_RX_EN k && c.fld .DMA_CH_CFG_RX_CLASS k == bits data 12 9) &&
    !(data.testBit 22 && others.any fun k => c.is .DMA_CH_CFG_REQ_EN k && c.fld .DMA_CH_CFG_REQ_LINE k == bits data 21 16)

def Chip.wrDmaCfg (c : Chip) (ch data : Nat) : Chip :=
  if c.dmaCfgOk ch data then c.writeFields (regFields .DMA .DMA_CH_CFG) ch data else c.dmaBad ch (chOff ch + 8)

/-- A write of DMA_CH_RING_BASE: only in IDLE or STOPPED. -/
def Chip.wrDmaBase (c : Chip) (ch data : Nat) : Chip :=
  if c.dState ch = 0 ∨ c.dState ch = 3 then c.writeFields (regFields .DMA .DMA_CH_RING_BASE) ch data
  else c.dmaBad ch (chOff ch)

/-- Whole 64-byte lines stored beyond PTR, in bytes (R288). -/
def Chip.lineAvail (c : Chip) (r : Nat) : Nat :=
  let g := (c.region (c.fld .DMA_REQ_REGION r)).ringOf 0
  if c.is .DMA_REQ_EN r then (g.wr - c.fld .DMA_REQ_PTR r) / 64 * 64 else 0

/-- The line is asserted (R288). -/
def Chip.lineAsserted (c : Chip) (r : Nat) : Bool :=
  c.is .DMA_REQ_EN r && decide (64 * c.fld .DMA_REQ_WM r ≤ c.lineAvail r)

/-- A write of DMA_REQ is admitted (R288, R290). -/
def Chip.reqOk (c : Chip) (r data : Nat) : Bool :=
  let x := c.region (bits data 48 32)
  let rises := data.testBit 63 && !c.is .DMA_REQ_EN r
  decide (1 ≤ bits data 30 24) && decide (bits data 30 24 ≤ 64) && bits data 23 0 != 0 &&
    !(c.is .DMA_REQ_EN r && bits data 48 32 != c.fld .DMA_REQ_REGION r) &&
    !(rises && !(x.valid && (x.kind == 2 || x.kind == 3)))

def Chip.wrDmaReq (c : Chip) (r data : Nat) : Chip :=
  if !c.reqOk r data then c.dmaBad 0x10 (0x34000 + 0x20 * r)
  else
    let rises := data.testBit 63 && !c.is .DMA_REQ_EN r
    let c := c.writeFields (regFields .DMA .DMA_REQ_00) r data
    if rises then c.setF .DMA_REQ_PTR r ((c.region (bits data 48 32)).ringOf 0).rd else c

/-- A row that writes a DMA register of channel ch. -/
def dmaRow (src : Src) (ch off : Nat) (f : Chip → Chip) (s : State) : Host.Outcome State Fault Refusal :=
  onChip (fun c => c.gated src .DMA off fun c => if ch < 16 then f c else c) s

/-- DMA_START (R284). -/
def execDmaStart (src : Src) (ch data : Nat) (s : State) : Host.Outcome State Fault Refusal :=
  dmaRow src ch (chOff ch + 0xC) (fun c => c.wrDmaCmd ch (data ||| 1)) s

/-- DMA_STOP (R283). -/
def execDmaStop (src : Src) (ch data : Nat) (s : State) : Host.Outcome State Fault Refusal :=
  dmaRow src ch (chOff ch + 0xC) (fun c => c.wrDmaCmd ch (data ||| 2)) s

/-- DMA_RESET (R284). -/
def execDmaReset (src : Src) (ch data : Nat) (s : State) : Host.Outcome State Fault Refusal :=
  dmaRow src ch (chOff ch + 0xC) (fun c => c.wrDmaCmd ch (data ||| 4)) s

/-- DMA_TAIL_WRITE (R276). -/
def execDmaTailWrite (src : Src) (ch data : Nat) (s : State) : Host.Outcome State Fault Refusal :=
  dmaRow src ch (chOff ch + 0x10) (fun c => c.wrDmaTail ch data) s

/-- DMA_CH_CFG_WRITE (R284, R286). -/
def execDmaChCfgWrite (src : Src) (ch data : Nat) (s : State) : Host.Outcome State Fault Refusal :=
  dmaRow src ch (chOff ch + 8) (fun c => c.wrDmaCfg ch data) s

/-- DMA_REQ_ENABLE (R288): the write of DMA_REQ with EN set. -/
def execDmaReqEnable (src : Src) (r data : Nat) (s : State) : Host.Outcome State Fault Refusal :=
  onChip (fun c => c.gated src .DMA (0x34000 + 0x20 * r) fun c =>
    if r < 64 then c.wrDmaReq r (data % 2 ^ 63 + 2 ^ 63) else c) s

/-! ### Fetch (R276) -/

/-- The eight words of a descriptor. -/
def descWords (b : Bytes) : List Nat := (List.range 8).map fun k => leNat (slice b (8 * k) 8)

/-- Fetched descriptors arrive, from HEAD on. -/
def Chip.fetchArrived (c : Chip) (ch : Nat) (b : Bytes) : Chip :=
  let n := min (b.length / 64) (min 8 (c.waitingSlots ch))
  let l := (List.range n).map fun k => ((c.dHead ch + k) % c.ringSize ch, descWords (slice b (64 * k) 64))
  c.setDmaCh ch { c.dmaCh ch with fetched := l }

/-- The read of a channel's fetch that is outstanding. -/
def Chip.fetchRead (c : Chip) (ch : Nat) : Option OutRead := (c.readsOf ch).find? fun r => r.purpose == 0

/-- A read is no longer outstanding. -/
def Chip.dropRead (c : Chip) (tag : Nat) : Chip :=
  c.setHost { c.host with reads := c.host.reads.filter fun r => r.tag != tag }

/-- DESCRIPTOR_FETCHED (R276): the fetch of a running channel is completed with these bytes. -/
def Chip.descFetched (c : Chip) (ch : Nat) (b : Bytes) : Chip :=
  match c.fetchRead ch with
  | none => c
  | some r => ((c.dropRead r.tag).fetchArrived ch (b.take r.len)).pump

def execDescriptorFetched (ch : Nat) (bytes : Bytes) (s : State) : Host.Outcome State Fault Refusal :=
  onChip (fun c => c.core fun c => c.descFetched ch bytes) s

/-! ### Execution (R280, R281, R285) -/

/-- The addresses that a descriptor uses (R280): SRC is ignored with REQ = 1 (R278). -/
def DmaCur.used (d : DmaCur) : List Nat :=
  (if d.kind < 4 ∧ !d.req then [d.src] else []) ++ (if d.kind < 3 ∨ d.kind = 4 then [d.dst] else [])

/-- Host and store ranges run past their ends, or those of an S2S descriptor overlap (R280). -/
def DmaCur.outOfRange (d : DmaCur) : Bool :=
  let host (a : Nat) : Bool := decide (2 ^ 64 < a + d.len)
  let store (a : Nat) : Bool := decide (2 ^ 38 < a + d.len)
  match d.kind with
  | 0 => (!d.req && host d.src) || store d.dst
  | 1 => (!d.req && store d.src) || host d.dst
  | 2 => (!d.req && (store d.src || (decide (d.src < d.dst + d.len) && decide (d.dst < d.src + d.len)))) || store d.dst
  | 3 => !d.req && host d.src
  | 4 => host d.dst
  | _ => false

/-- The PARAM causes of a descriptor on channel ch (R280, R286). -/
def Chip.descParam (c : Chip) (ch : Nat) (d : DmaCur) : Bool :=
  decide (4 < d.kind) || (c.is .DMA_CH_CFG_RX_EN ch && d.kind != 4) ||
    (d.req && !(d.kind == 1 && c.is .DMA_CH_CFG_REQ_EN ch && c.is .DMA_REQ_EN (c.fld .DMA_CH_CFG_REQ_LINE ch))) ||
    (d.kind == 3 && (!c.bValid (bits (d.word 0) 31 16) || decide (d.frameLen < 60) || decide (9724 < d.frameLen) ||
      decide (d.len < d.frameLen) || !timeOk d.launch))

/-- The status of a descriptor's checks, in their order: 0 when all pass (R280). -/
def Chip.descCheck (c : Chip) (ch : Nat) (d : DmaCur) : Nat :=
  if (d.len :: d.used).any fun a => a % 64 != 0 then 1
  else if d.len = 0 then 2
  else if d.outOfRange then 3
  else if c.descParam ch d then 4
  else if (d.kind = 0 ∨ d.kind = 2) ∧ !c.is .DMA_CTRL_STORE_WR_EN 0 then 5
  else 0

/-- Bytes moved are counted. -/
def Chip.movedBytes (c : Chip) (ch n : Nat) : Chip := c.countN 64 .DMA_CH_CNT_BYTES ch n

/-- The lines of the store from an address on, until one cannot be corrected (R216, R280). The first argument bounds them. -/
def State.goodLines (s : State) : Nat → Nat → Bytes × State
  | 0, _ => ([], s)
  | n + 1, a =>
    let (ok, c) := s.chip.eccLine a
    let s := s.withChip c
    if !ok then ([], s)
    else
      let (b, s) := State.goodLines s n (a + 64)
      (memRead s.mem a 64 ++ b, s)

/-- The data of an S2H or S2S descriptor that names its source (R24, R277, R280): what can be read is moved. -/
def State.moveData (s : State) (ch : Nat) (d : DmaCur) : State :=
  let (b, s) := s.goodLines (d.len / 64) d.src
  let n := b.length
  let s := s.on fun c => c.storeCross d.src n false
  let s := if d.kind = 2 then (s.on fun c => c.storeCross d.dst n true).storeBytes d.dst b
    else s.on fun c => c.hostWrites d d.dst b
  s.on fun c => ((c.movedBytes ch n).dataDone ch { d with moved := n, status := if n = d.len then 0 else 9 }).pump

/-- A descriptor that passed its checks starts (R280, R281). -/
def State.descRun (s : State) (ch : Nat) (d : DmaCur) : State :=
  if (d.kind = 1 ∧ !d.req) ∨ d.kind = 2 then s.moveData ch d
  else s.on fun c => (c.setCur ch (some d)).pump

/-- DESCRIPTOR_EXECUTE (R276, R280): after the previous writeback, the next descriptor starts. -/
def State.descExecute (s : State) (ch : Nat) : State :=
  let c := s.chip
  let x := c.dmaCh ch
  match x.cur, x.fetched with
  | none, (idx, ws) :: rest =>
    if c.dState ch ≠ 1 || !c.hostIssues then s
    else
      let d : DmaCur := ⟨idx, ws, 0, 0, [], 0, 0⟩
      let k := c.fld .DMA_CH_CFG_RX_CLASS ch
      let was := c.starved k ch
      let c := (c.setDmaCh ch { x with fetched := rest }).setF .DMA_CH_HEAD_HEAD ch ((idx + 1) % c.ringSize ch)
      let st := c.descCheck ch d
      if st = 0 then (s.withChip c).descRun ch d
      else
        let c := (c.report (0x9000 + ch) (if st = 1 then 0x505 else 0x506) idx).setCur ch
          (some { d with phase := 2, status := st })
        s.withChip (if c.is .DMA_CH_CFG_RX_EN ch then c.classStarved k ch was else c).pump
  | _, _ => s

def execDescriptorExecute (ch : Nat) (s : State) : Host.Outcome State Fault Refusal :=
  onState (fun s => s.core fun s => s.descExecute ch) s

/-- DESCRIPTOR_COMPLETE (R281): the writeback of a completed descriptor. -/
def Chip.descComplete (c : Chip) (ch : Nat) : Chip :=
  match (c.dmaCh ch).cur with
  | none => c
  | some d =>
    if d.phase ≠ 2 || c.dState ch ≠ 1 || !c.hostIssues then c
    else ((c.setCur ch none).sendWb ch d.idx d.writeback (c.wbSource ch d) d.status).pump

def execDescriptorComplete (ch : Nat) (s : State) : Host.Outcome State Fault Refusal :=
  onChip (fun c => c.core fun c => c.descComplete ch) s

/-- FRAME_TX_ACCEPT (R285): the frame read in full enters its Berth, over the die bridge where that lies on die B (R24), or
is discarded there and the descriptor ends DROPPED; so it does, DESIGN CHOICE, when the bridge loses the frame
(notes/assumptions/164.md). -/
def Chip.frameTx (c : Chip) (ch : Nat) (d : DmaCur) (x : Cross) : Chip :=
  let all : Bytes := d.buf.flatMap fun e => e.2
  let b := bits (d.word 0) 31 16
  let f : Frame := ⟨all.take d.frameLen, some (d.frameLen + 4), false, c.now, none, none, none, false, none⟩
  let l := if (d.word 0).testBit 7 then some (unpackTime d.launch) else none
  let q := quadOfPort (c.bPort b)
  let done (ok : Bool) (c : Chip) : Chip := c.setCur ch (some { d with phase := 2, status := if ok then 0 else 10 })
  let (crossed, c) := c.moveTo 0 q f.size x
  if !crossed then done false c
  else
    let (ok, _, c) := c.enqueue b f l
    done ok (c.noteShare q)

/-- After data or an error arrived for the current descriptor: it completes once nothing of it is outstanding. -/
def Chip.dataArrived (c : Chip) (ch : Nat) (x : Cross) : Chip :=
  match (c.dmaCh ch).cur with
  | none => c
  | some d =>
    if d.phase ≠ 0 || ((c.readsOf ch).any fun r => r.purpose == 1 || r.purpose == 3) then c
    else if d.status ≠ 0 then c.setCur ch (some { d with phase := 2 })
    else if d.moved < d.len then c
    else if d.kind = 3 then c.frameTx ch d x
    else if d.kind = 0 then c.setCur ch (some { d with phase := 2 })
    else c

/-- RX_CLASS_DELIVERY (R286, R287): the frame at the head of the class queue, once whole, goes to the buffer of the
channel's FRAME_RX descriptor, or is discarded when it is longer. -/
def Chip.rxDeliver (c : Chip) (ch : Nat) : Chip :=
  let k := c.fld .DMA_CH_CFG_RX_CLASS ch
  match (c.dmaCh ch).cur, c.cls k with
  | some d, i :: rest =>
    if d.kind ≠ 4 || d.phase ≠ 0 || !c.is .DMA_CH_CFG_RX_EN ch || c.dState ch ≠ 1 || !c.hostIssues || i.f.rx.isSome then c
    else
      let n := i.f.bytes.length
      let was := c.starved k ch
      let c := c.setCls k rest
      if d.len < n then c.count 64 .DMA_RX_CNT_RX_TOO_LONG k
      else
        let ts := packTime i.f.ts
        let user := (match i.f.handle with | some h => h % 65536 + 2 ^ 31 | none => 0) +
          (i.f.inPort.getD 0) % 256 * 2 ^ 32 + i.reason * 2 ^ 40
        let ws := setAt (setAt (setAt d.words 4 (ts % 2 ^ 64)) 5 (ts / 2 ^ 64)) 6 user
        let c := (c.hostWrites d d.dst i.f.bytes).movedBytes ch n
        let c := (c.count 64 .DMA_RX_CNT_RX_FRAMES k).dataDone ch { d with words := ws, moved := n }
        (c.classStarved k ch was).pump
  | _, _ => c

def execRxClassDelivery (ch : Nat) (s : State) : Host.Outcome State Fault Refusal :=
  onChip (fun c => c.core fun c => c.rxDeliver ch) s

/-! ### Request lines (R288, R289) -/

/-- The lines of one burst, read through the region's ring, until one cannot be corrected (R216, R288). -/
def State.burstLines (s : State) (r ptr : Nat) : Nat → Nat → Bytes × State
  | 0, _ => ([], s)
  | n + 1, off =>
    let x := s.chip.region r
    let (b, ok, s) := s.ringGet x.quad (x.ringOf 0) (ptr + off) 64
    if !ok then ([], s)
    else
      let (rest, s) := State.burstLines s r ptr n (off + 64)
      (b ++ rest, s)

/-- REQUEST_BURST (R288): one burst of the channel that the line serves, while the line is asserted; bytes that lie on the
drive alone are read back first (R235). -/
def State.requestBurst (s : State) (l : Nat) : State :=
  let c := s.chip
  match c.lineChannel l with
  | none => s
  | some ch =>
    match (c.dmaCh ch).cur with
    | none => s
    | some d =>
      if !d.req || d.kind ≠ 1 || d.phase ≠ 0 || c.dState ch ≠ 1 || !c.hostIssues || !c.lineAsserted l then s
      else
        let ptr := c.fld .DMA_REQ_PTR l
        let r := c.fld .DMA_REQ_REGION l
        let n := min (64 * c.fld .DMA_REQ_BURST l) (min (d.len - d.moved) (c.lineAvail l))
        if !((c.region r).ringOf 0).inWindow ptr n then s
        else
          let (b, s) := s.burstLines r ptr (n / 64) 0
          let m := b.length
          let e := { d with moved := d.moved + m, status := if m = n then 0 else 9 }
          s.on fun c =>
            let c := (c.quadCross (c.region r).quad m false).hostWrites d (d.dst + d.moved) b
            let c := (c.setF .DMA_REQ_PTR l (ptr + m)).movedBytes ch m
            if m ≠ n ∨ e.moved = d.len then (c.dataDone ch e).pump else c.setCur ch (some e)

def execRequestBurst (r : Nat) (s : State) : Host.Outcome State Fault Refusal :=
  onState (fun s => s.core fun s => if r < 64 then s.requestBurst r else s) s

end Sys2Proof.Machine
end

