-- ==== Sys2Proof/Machine/Claims.lean ====
section
/-!
DEFINITION. Machine/Claims.lean: expert claims and their end (R314-R318), DIGEST records (R365), and the closing and
opening of the mailbox (R265, R302).
-/
namespace Sys2Proof.Machine

def Chip.setMbx (c : Chip) (m : MbxS) : Chip := { c with mbx := m }

/-! ### DIGEST records (R365) -/

/-- The block that a function covers (R313). -/
def funcBlock : Nat → Block
  | 0 => .CORE
  | 1 => .TIME
  | 2 => .PORT
  | 3 => .TIDE
  | 4 => .SCHD
  | 5 => .STRM
  | 6 => .BRKW
  | 7 => .STOR
  | 8 => .SPIL
  | 9 => .DUO
  | _ => .PWR

/-- A field can be written and holds what is written. -/
def FieldDesc.writable (f : FieldDesc) : Bool := f.acc == .rw || f.acc == .rws

/-- The bytes of a function's writable registers in the order of their BAR0 offsets. -/
def Chip.funcBytes (c : Chip) (f : Nat) : Bytes :=
  let ds := (funcBlock f).regs.filter fun d => d.fields.any FieldDesc.writable
  let value (d : RegDesc) (i : Nat) : Nat := if d.reg = .TIDE_ADMIN_ENTRY then c.adminEntry i else c.regRaw d i
  let all := ds.flatMap fun d => (List.range d.count).map fun i => (d.off i, toLE (d.width / 8) (value d i))
  (all.mergeSort fun a b => a.1 ≤ b.1).flatMap fun e => e.2

/-- A function's DIGEST record is written, unless the last is less than a second old: then it stays due. -/
def Chip.digestFlush (c : Chip) (f : Nat) : Chip :=
  match kFind c.mbx.digestDue f with
  | none => c
  | some cause =>
    let wait := match kFind c.mbx.digestAt f with
      | some t => decide (c.now < t + secT) && decide (t ≤ c.now)
      | none => false
    if !c.fenedRuns || wait then c
    else
      let c := c.setMbx { c.mbx with digestAt := kInsert c.mbx.digestAt f c.now, digestDue := kErase c.mbx.digestDue f }
      c.submit 3 1 2 (toLE 1 f ++ toLE 1 cause ++ (Config.sha256 (c.funcBytes f) ++ List.replicate 32 0).take 32) false

/-- The configuration of a function has changed: 0 by a command, 1 by a release, 2 at an activation. -/
def Chip.digest (c : Chip) (f cause : Nat) : Chip :=
  (c.setMbx { c.mbx with digestDue := kInsert c.mbx.digestDue f cause }).digestFlush f

/-- Digests that are due are written once their second has passed. -/
def Chip.digestTick (c : Chip) : Chip := c.mbx.digestDue.foldl (fun c e => c.digestFlush e.1) c

/-! ### The check at a release (R317, R318) -/

/-- A Berth that an egress list of a valid handle names wrongly (R94). -/
def Chip.badBerth (c : Chip) : Option Nat :=
  let l := (c.strm.handles.filter fun e => e.2.valid).flatMap fun e => c.egress e.1
  (l.find? fun w => !(c.is .SCHD_BERTH_CFG_VALID (poolBerth w) &&
    c.fld .SCHD_BERTH_CFG_PORT (poolBerth w) == poolPort w)).map poolBerth

/-- A valid handle whose egress list breaks a rule of its own chapter (R94, R97, R200, R223). -/
def Chip.badList (c : Chip) : Bool :=
  c.strm.handles.any fun e => e.2.valid && c.listCode e.1 (c.egress e.1) != rOK

/-- A port whose INST and its instance's PORTS disagree (R66, R338). -/
def Chip.badPtpPort (c : Chip) : Option Nat :=
  (List.range 256).find? fun p =>
    let i := c.fld .TIME_PORT_CFG_INST p
    let owners := (c.time.inst.filter fun e => (leNat (slice e.2.cfg 16 32)).testBit p).map fun e => e.1
    owners != (if i = 15 then [] else [i])

/-- An instance in ALIGN whose preconditions fail (R200). -/
def Chip.badAlign (c : Chip) : Bool :=
  c.brkw.inst.any fun e => e.2.cfg.mode == modeAlign && c.cfgCode e.1 e.2.cfg e.2.paths != rOK

/-- A quadrant whose store charge exceeds what it can assign (R26). -/
def Chip.badCharge (c : Chip) : Bool :=
  quads.any fun q => decide (chargeLimit < c.quadCharge q c.handlePeak fun _ x => x)

/-- The BAR0 offset of the first register of a function that is inconsistent; a record of an indirect table is named
by its block's data window. Rules within one register hold at every write, so only those that span registers can be
broken. -/
def Chip.firstBad (c : Chip) (f : Nat) : Option Nat :=
  match f with
  | 1 => c.badPtpPort.map fun p => 0x53000 + 4 * p
  | 4 => c.badBerth.map fun b => 0x800000 + 0x20 * b
  | 5 => if c.badList then some 0xA00040 else none
  | 6 => if c.badAlign then some 0xB00040 else none
  | 7 => if c.badCharge then some 0xC00100 else none
  | _ => none

/-- What Fened resumes after a claim: of TIME, the servo in ACQUIRING (R78), and the cross-check of a confirmed source that
another source, come meanwhile, can check (R76). -/
def Chip.resumeFn (c : Chip) (f : Nat) : Chip :=
  if f = 1 then c.checkConfirming.setServo 1 else c

/-- Fened checks a function whose claim has ended, and resumes it (R317, R318): INVALID follows the outcome, which is
queued as CLAIM_RELEASED with its cause: 0 PERST_N, 1 hot reset, 2 function-level reset, 3 D3cold, 4 link-down, 5
RELEASE. The answer is the first bad offset. -/
def Chip.checkFn (c : Chip) (f cause : Nat) : Option Nat × Chip :=
  let bad := c.firstBad f
  let c := c.setBitF .MBX_CLAIM_INVALID 0 f bad.isSome
  let c := match bad with
    | some off => c.report 0xB001 0x50A off
    | none => c
  let c := (c.resumeFn f).digest f 1
  (bad, c.event 0x0003 (toLE 1 f ++ toLE 1 (bit bad.isNone) ++ toLE 4 (bad.getD 0) ++ toLE 1 cause))

/-- A claim ends (R317): Fened checks the function, at once or as soon as it runs. -/
def Chip.endClaim (c : Chip) (f cause : Nat) : Option Nat × Chip :=
  let c := c.setBitF .MBX_CLAIM_CLAIMED 0 f false
  if c.fenedRuns then c.checkFn f cause
  else (none, c.setMbx { c.mbx with checks := c.mbx.checks ++ [(f, cause)] })

/-- Every claim ends at a host reset or link-down (R265, R317). -/
def Chip.endClaims (c : Chip) (cause : Nat) : Chip :=
  (List.range 11).foldl (fun c f => if c.claimed f then (c.endClaim f cause).2 else c) c

/-- Fened runs again: it makes the checks that it owes, and its events go out. -/
def Chip.resumed (c : Chip) : Chip :=
  if !c.fenedRuns then c
  else (c.mbx.checks.foldl (fun c e => (c.checkFn e.1 e.2).2) (c.setMbx { c.mbx with checks := [] })).payEvents

/-! ### Closing and opening (R265, R302, R310) -/

/-- The mailbox closes: slots free, their buffers zero, the event queue empty. A command that was accepted and waits, for
a copy or for the peer, runs on without a slot (R265). -/
def Chip.closeMailbox (c : Chip) : Chip :=
  let was := c
  let c := c.mapHeld (HeldAcc.closed was)
  let c : Chip := { c with duo := { c.duo with asked := c.duo.asked.map fun _ => 8 } }
  let c := c.setMbx { c.mbx with isOpen := false, slots := List.replicate 8 Slot.init, order := [], ring := [] }
  (c.setF .MBX_EVT_WR_WR 0 0).setF .MBX_EVT_RD_RD 0 0

/-- The event that comes first when the mailbox reopens; of several, the oldest (R302). It is logged (R365). -/
def Chip.firstEvent (c : Chip) (code : Nat) (data : Bytes) : Chip :=
  let e : Evt := ⟨code, packTime c.now, data⟩
  let c := c.evtRecord e
  let c := match c.mbx.firstEvt with
    | none => c.setMbx { c.mbx with firstEvt := some e }
    | some _ => c.setMbx { c.mbx with heldEvts := c.mbx.heldEvts ++ [e] }
  c.wakeCause .HOST_WAKE_CFG_EVT_EN

/-- The mailbox opens, and the events kept enter the ring (R302, R310). -/
def Chip.openMailbox (c : Chip) : Chip :=
  if c.mbx.isOpen then c else (c.setMbx { c.mbx with isOpen := true }).payEvents

end Sys2Proof.Machine
end

