-- ==== Sys2Proof/Machine/Host.lean ====
section
/-!
DEFINITION. Machine/Host.lean: the PCI Express host endpoint (10_pcie_endpoint_and_spill_ports.md): resets, link, power
states, configuration space, MSI-X, the store aperture and completions.
-/
namespace Sys2Proof.Machine

/-- The change that a row of the host link makes: none in RST_N or before the always-on domain is ready (R400, R401). -/
def Chip.link0 (c : Chip) (f : Chip → Chip) : Chip := if c.inReset || !c.pwr.aonReady then c else f c

/-! ### Resets (R262-R266) -/

/-- Host-facing fields that a host reset clears (R12, R262): every field of HOST, MBX and DMA but the RWS ones and those
that show what no host reset touches (the link, the firmware, the INVALID bits). -/
def hostCleared : List Nat :=
  let ds := (regsHOST ++ regsMBX ++ regsDMA).filter fun d =>
    !([Reg.HOST_STATUS, .MBX_STATUS, .MBX_FW_VER, .MBX_CLAIM].contains d.reg)
  ds.flatMap fun d => (d.fields.filter fun f => f.acc != .rws).map fun f => f.fld.code

/-- Those fields at their reset values. -/
def Chip.clearFields (c : Chip) : Chip :=
  { c with regs := c.regs.filter fun e => !hostCleared.contains (e.1 % 1024) }

/-- Frames queued in the receive classes at a host reset are discarded (R287). -/
def Chip.clearClasses (c : Chip) : Chip :=
  let c := c.dma.cls.foldl (fun c e => c.countN 64 .DMA_RX_CNT_RX_NO_RING e.1 e.2.length) c
  { c with dma := DmaS.init }

/-- Configuration space at reset, its sticky fields aside (R262). -/
def Config0.hostReset (x : Config0) : Config0 :=
  { Config0.init with pmeEn := x.pmeEn, pmeStatus := x.pmeStatus, aerUncorr := x.aerUncorr, aerCorr := x.aerCorr,
                      aerLog := x.aerLog }

/-- The host-facing state at reset (R262): the fields, configuration space, the MSI-X table, the DMA engine. -/
def Chip.resetHost (c : Chip) : Chip :=
  let c := c.clearFields.clearClasses
  let c := c.setF .HOST_STATUS_DSTATE 0 0
  let c := c.setHost { c.host with ready := false, cfg := c.host.cfg.hostReset, msix := [], pba := [], inL1 := false,
                                   turnedOff := false, lost := false }
  { c with hostPath := PathS.init }

/-- Reads that cannot complete any more, because the link reset ended them (R262). -/
def Chip.forgetReads (c : Chip) : Chip := c.setHost { c.host with reads := [], quar := [] }

/-- The part of HOST_CNT.RESETS at bit lo raised by one; it saturates at 0xFFFF (R268). -/
def Chip.countReset (c : Chip) (lo : Nat) : Chip :=
  let v := c.fld .HOST_CNT_RESETS 0
  if bits v (lo + 15) lo = 0xFFFF then c else c.setF .HOST_CNT_RESETS 0 (v + 2 ^ lo)

/-- A host reset of a kind: 0 PERST_N, 1 hot reset, 2 function-level reset, 3 D3cold (R262, R265, R302). The events that
it queues find the function in its reset state, and in D3cold wake the host (R260). -/
def Chip.hostReset (c : Chip) (kind : Nat) : Chip :=
  (c.closeMailbox.resetHost.firstEvent 0x0010 (toLE 1 kind)).endClaims kind

/-- The link's live fields at their values while it is down. -/
def Chip.linkOff (c : Chip) : Chip :=
  ((c.setF .HOST_STATUS_LINK_UP 0 0).setF .HOST_STATUS_SPEED 0 0).setF .HOST_STATUS_WIDTH 0 0

/-- PERST_N_ASSERT (R259, R262): after PME_Turn_Off the function enters D3cold. -/
def Chip.perstAssert (c : Chip) : Chip :=
  if c.host.perst then c
  else
    let cold := c.host.turnedOff
    let c := c.linkOff.countReset (if cold then 0 else 48)
    let c := c.forgetReads
    (c.setHost { c.host with perst := true, d3cold := cold }).hostReset (if cold then 3 else 0)

/-- A PERST_N row: in RST_N, and until the always-on domain is ready, only the level counts, which step 4 of R401 meets. -/
def Chip.perstRow (c : Chip) (low : Bool) (f : Chip → Chip) : Chip :=
  if c.inReset || !c.pwr.aonReady then c.setHost { c.host with perst := low } else f c

def execPerstNAssert (s : State) : Host.Outcome State Fault Refusal := onChipS (fun c => c.perstRow true Chip.perstAssert) s

/-- PERST_N_RELEASE (R260, R263). -/
def Chip.perstRelease (c : Chip) : Chip :=
  if !c.host.perst then c
  else
    let low := c.host.wake
    let c := c.setHost { c.host with perst := false, d3cold := false, wake := false }
    if low then c.emit (.wakeN false) else c

def execPerstNRelease (s : State) : Host.Outcome State Fault Refusal := onChip (fun c => c.perstRow false Chip.perstRelease) s

/-- HOST_LINK_UP (R263, R266): after a link loss the function presents its reset state. -/
def Chip.hostLinkUp (c : Chip) (speed width : Nat) : Chip :=
  if c.host.perst || c.is .HOST_STATUS_LINK_UP 0 then c
  else
    let c := if c.host.lost then c.resetHost else c.setHost { c.host with turnedOff := false }
    ((((c.setF .HOST_STATUS_LINK_UP 0 1).setF .HOST_STATUS_SPEED 0 speed).setF .HOST_STATUS_WIDTH 0 width)).payPme

def execHostLinkUp (speed width : Nat) (s : State) : Host.Outcome State Fault Refusal :=
  onChip (fun c => c.link0 fun c => c.hostLinkUp speed width) s

/-- The function serves requests and the mailbox is open (R263, R264). A function whose link is lost becomes ready only
after its reset at link-up (R262, R266). -/
def Chip.becomeReady (c : Chip) : Chip :=
  if c.host.perst || c.host.ready || c.host.lost then c else (c.setHost { c.host with ready := true }).openMailbox

/-- FUNCTION_READY (R263). -/
def execFunctionReady (s : State) : Host.Outcome State Fault Refusal := onChip (fun c => c.core Chip.becomeReady) s

/-- HOT_RESET (R262). -/
def Chip.hotReset (c : Chip) : Chip :=
  if c.host.perst then c else ((c.linkOff.countReset 32).forgetReads).hostReset 1

def execHotReset (s : State) : Host.Outcome State Fault Refusal := onChipS (fun c => c.link0 Chip.hotReset) s

/-- Configuration requests are served (R263, R264, R267). -/
def Chip.cfgServed (c : Chip) : Bool := c.live && c.host.ready && c.is .HOST_STATUS_LINK_UP 0

/-- A configuration write row. A request that the endpoint does not serve changes nothing: it is completed with
Configuration Request Retry Status, where there is a link to carry that. -/
def cfgRow (f : Chip → Chip) (s : State) : Host.Outcome State Fault Refusal :=
  onChipS (fun c =>
    if c.cfgServed then f c
    else if c.is .HOST_STATUS_LINK_UP 0 && !c.inReset then c.emit .configRetry
    else c) s

/-- INITIATE_FLR (R264): the tags of outstanding reads are quarantined. -/
def Chip.initiateFlr (c : Chip) : Chip :=
  if !c.host.ready then c
  else
    let quar := c.host.reads.foldl (fun m r => kInsert m r.tag true) c.host.quar
    ((c.setHost { c.host with reads := [], quar := quar }).countReset 16).hostReset 2

def execInitiateFlr (s : State) : Host.Outcome State Fault Refusal := cfgRow Chip.initiateFlr s

/-- FLR_COMPLETE (R264). -/
def execFlrComplete (s : State) : Host.Outcome State Fault Refusal := onChip (fun c => c.core Chip.becomeReady) s

/-- Nothing of a STOPPING channel is outstanding once its reads are forgotten (R262): a descriptor that waits for one of
them is left unfinished (R283, R284). -/
def Chip.dmaForsake (c : Chip) (ch : Nat) : Chip :=
  match (c.dmaCh ch).cur with
  | some d =>
    if c.dState ch = 2 ∧ d.phase ≠ 2 then ((c.setCur ch none).setF .DMA_CH_HEAD_HEAD ch d.idx).dmaSettle ch
    else c.dmaSettle ch
  | none => c.dmaSettle ch

/-- HOST_LINK_DOWN (R265, R266): channels halt, the mailbox closes, claims end, reads are forgotten. -/
def Chip.hostLinkDown (c : Chip) : Chip :=
  if !c.is .HOST_STATUS_LINK_UP 0 then c
  else
    let c := ((c.linkOff.dmaStopAll 15).setB .HOST_STATUS_LINK_DOWN_SEEN 0 true).count 64 .HOST_CNT_LINK_DOWNS 0
    let c := c.forgetReads
    let c := c.setHost { c.host with ready := false, inL1 := false, lost := true }
    let c := (List.range 16).foldl (fun c ch => c.dmaForsake ch) c
    let c := c.closeMailbox.firstEvent 0x0011 (toLE 12 (packTime c.now))
    c.endClaims 4

def execHostLinkDown (s : State) : Host.Outcome State Fault Refusal := onChipS (fun c => c.link0 Chip.hostLinkDown) s

/-! ### Bus mastering, power and configuration space (R241-R245, R250, R255, R259) -/

def Chip.setCfg (c : Chip) (x : Config0) : Chip := c.setHost { c.host with cfg := x }

/-- The message of each pending, unmasked vector goes out (R248, R250). -/
def Chip.sendPending (c : Chip) : Chip :=
  c.host.pba.foldl (fun c e => if (kGet MsixEntry.init c.host.msix e.1).masked then c else c.sendVector e.1) c

/-- Bus Master Enable changes (R250). -/
def Chip.setBme (c : Chip) (on : Bool) : Chip :=
  if on == c.host.cfg.busMaster then c
  else
    let c := c.setCfg { c.host.cfg with busMaster := on }
    if on then c.sendPending else c.dmaStopAll 13

/-- BUS_MASTER_ENABLE_CLEAR (R250). -/
def execBusMasterEnableClear (s : State) : Host.Outcome State Fault Refusal := cfgRow (fun c => c.setBme false) s

/-- BUS_MASTER_ENABLE_SET (R250). -/
def execBusMasterEnableSet (s : State) : Host.Outcome State Fault Refusal := cfgRow (fun c => c.setBme true) s

/-- The function's power state changes (R259); encodings 1 and 2 name states that it does not support. -/
def Chip.setDstate (c : Chip) (d : Nat) : Chip :=
  if d = c.host.cfg.dstate then c
  else if d = 3 then
    let c := ((c.setCfg { c.host.cfg with dstate := 3 }).setF .HOST_STATUS_DSTATE 0 3).dmaStopAll 14
    c.setMbx { c.mbx with isOpen := false }
  else if d = 0 then
    ((c.setCfg { c.host.cfg with dstate := 0 }).setF .HOST_STATUS_DSTATE 0 0).openMailbox.sendPending
  else c

/-- A write of PM Control/Status (R243, R259): PowerState, PME_En, and PME_Status, which a 1 clears. -/
def Chip.wrPmcsr (c : Chip) (data : Nat) : Chip :=
  let x := c.host.cfg
  (c.setCfg { x with pmeEn := data.testBit 8, pmeStatus := x.pmeStatus && !data.testBit 15 }).setDstate (bits data 1 0)

/-- PM_CONTROL_WRITE (R259). -/
def execPmControlWrite (data : Nat) (s : State) : Host.Outcome State Fault Refusal := cfgRow (fun c => c.wrPmcsr data) s

/-- A BAR Size write (R245). -/
def Chip.wrBarSize (c : Chip) (data : Nat) : Chip :=
  let v := bits data 13 8
  let x := c.host.cfg
  if x.memEn || decide (v < 10) || decide (18 < v) then c
  else c.setCfg { x with barSize := v, bar2 := x.bar2 / 2 ^ (v + 20) * 2 ^ (v + 20) }

/-- RESIZABLE_BAR_WRITE (R245). -/
def execResizableBarWrite (data : Nat) (s : State) : Host.Outcome State Fault Refusal := cfgRow (fun c => c.wrBarSize data) s

/-- The Completion Timeout Values that R255 lists. -/
def ctoListed : List Nat := [0, 1, 2, 5, 6, 9, 10, 13, 14]

/-- A BAR with one of its halves written; the bits below its size read as zero. -/
def barWrite (old hiHalf data size : Nat) : Nat :=
  (if hiHalf = 1 then old % 2 ^ 32 + data * 2 ^ 32 else old / 2 ^ 32 * 2 ^ 32 + data) / 2 ^ size * 2 ^ size

/-- A double word of configuration space is written (R241-R245, R248, R255, R259, R261, R262, R264). An encoding of
Max_Payload_Size or Max_Read_Request_Size beyond those that R240 gives is ignored, as R255 ignores those of the timeout
(notes/assumptions/181.md). -/
def Chip.cfgWrite32 (c : Chip) (off d : Nat) : Chip :=
  let x := c.host.cfg
  if off = 0x04 then
    (c.setCfg { x with memEn := d.testBit 1, parityEn := d.testBit 6, serrEn := d.testBit 8,
                       intDisable := d.testBit 10 }).setBme (d.testBit 2)
  else if off = 0x10 then c.setCfg { x with bar0 := barWrite x.bar0 0 d 24 }
  else if off = 0x14 then c.setCfg { x with bar0 := barWrite x.bar0 1 d 24 }
  else if off = 0x18 then c.setCfg { x with bar2 := barWrite x.bar2 0 d (x.barSize + 20) }
  else if off = 0x1C then c.setCfg { x with bar2 := barWrite x.bar2 1 d (x.barSize + 20) }
  else if off = 0x3C then c.setCfg { x with intLine := bits d 7 0 }
  else if off = 0x44 then c.wrPmcsr d
  else if off = 0x58 then
    let size (v most old : Nat) : Nat := if most < v then old else v
    let c := c.setCfg { x with relaxed := d.testBit 4, maxPayload := size (bits d 7 5) 2 x.maxPayload,
                               noSnoop := d.testBit 11, maxReadReq := size (bits d 14 12) 5 x.maxReadReq }
    if d.testBit 15 then c.initiateFlr else c
  else if off = 0x60 then c.setCfg { x with aspmL1 := d.testBit 1 }
  else if off = 0x78 then (if ctoListed.contains (bits d 3 0) then c.setCfg { x with cto := bits d 3 0 } else c)
  else if off = 0xB0 then
    (c.setCfg { x with msixEn := d.testBit 31, msixMask := d.testBit 30 }).sendPending
  else if off = 0x104 then c.setCfg { x with aerUncorr := x.aerUncorr - (x.aerUncorr &&& d) }
  else if off = 0x110 then c.setCfg { x with aerCorr := x.aerCorr - (x.aerCorr &&& d) }
  else if off = 0x150 then c.wrBarSize d
  else c

/-- CONFIG_SPACE_WRITE (R241). -/
def execConfigSpaceWrite (off data : Nat) (s : State) : Host.Outcome State Fault Refusal :=
  cfgRow (fun c => c.cfgWrite32 off data) s

/-- PME_TURN_OFF (R259): the endpoint's PME_TO_Ack goes out and the link moves to L2, where it carries nothing. In a freeze
the endpoint issues nothing and the link stays in L0 (R267; notes/assumptions/182.md). -/
def Chip.pmeTurnOff (c : Chip) : Chip :=
  if c.is .HOST_STATUS_LINK_UP 0 && !c.frozen then
    ((c.setHost { c.host with turnedOff := true }).emit (.pcieMessage 1)).linkOff
  else c

def execPmeTurnOff (s : State) : Host.Outcome State Fault Refusal := onChip (fun c => c.link0 Chip.pmeTurnOff) s

/-- ASPM_L1_ENTRY (R261). -/
def Chip.l1Entry (c : Chip) : Chip :=
  if c.host.cfg.aspmL1 && c.is .HOST_STATUS_LINK_UP 0 then c.setHost { c.host with inL1 := true } else c

def execAspmL1Entry (s : State) : Host.Outcome State Fault Refusal := onChip (fun c => c.core Chip.l1Entry) s

/-- ASPM_L1_EXIT (R261). -/
def execAspmL1Exit (s : State) : Host.Outcome State Fault Refusal :=
  onChip (fun c => c.core fun c => c.setHost { c.host with inL1 := false }) s

/-- A vector's mask bit and the rest of its entry are written (R248). -/
def Chip.setMsix (c : Chip) (v : Nat) (e : MsixEntry) : Chip :=
  let c := c.setHost { c.host with msix := kPut MsixEntry.init c.host.msix v e }
  if !e.masked && kGet false c.host.pba v then c.sendVector v else c

/-- MSIX_VECTOR_UNMASK (R248): a write of the entry's vector control with the mask bit clear. -/
def execMsixVectorUnmask (v : Nat) (s : State) : Host.Outcome State Fault Refusal :=
  onChip (fun c =>
    let c := c.dropHalves .host
    if v < 2048 && c.hostServed then c.setMsix v { kGet MsixEntry.init c.host.msix v with masked := false } else c) s

/-- AER status bits set: uncorrectable and correctable. With the first uncorrectable one, the header log takes the header of
the packet, a free value (R243). -/
def Chip.aer (c : Chip) (unc cor : Nat) : Chip :=
  let x := c.host.cfg
  let y := { x with aerUncorr := x.aerUncorr ||| unc, aerCorr := x.aerCorr ||| cor }
  if unc ≠ 0 ∧ x.aerUncorr = 0 then
    let (v, c) := c.fresh
    c.setCfg { y with aerLog := v % 2 ^ 128 }
  else c.setCfg y

/-! ### What configuration space reads as (R241-R243) -/

/-- The first double word of a structure of the capability list: its ID and the place of the next (R242). -/
def capWord (id next upper : Nat) : Nat := id + next * 2 ^ 8 + upper * 2 ^ 16

/-- The first double word of a structure of the extended list; its version follows the PCI Express base (R242). -/
def extWord (id version next : Nat) : Nat := id + version * 2 ^ 16 + next * 2 ^ 20

/-- A double word of configuration space as the host reads it: the fields of R241 to R243, with 0 in the bits that follow
the PCI Express base alone (notes/assumptions/145.md). -/
def Chip.cfgWord (c : Chip) (off : Nat) : Nat :=
  let x := c.host.cfg
  match off with
  | 0x00 => 0x1DA7 + 0x5120 * 2 ^ 16
  | 0x04 => bit x.memEn * 2 + bit x.busMaster * 4 + bit x.parityEn * 2 ^ 6 + bit x.serrEn * 2 ^ 8 +
      bit x.intDisable * 2 ^ 10 + 2 ^ 20
  | 0x08 => 0xB0 + 0x028000 * 2 ^ 8
  | 0x10 => x.bar0 % 2 ^ 32 + 4
  | 0x14 => x.bar0 / 2 ^ 32
  | 0x18 => x.bar2 % 2 ^ 32 + 12
  | 0x1C => x.bar2 / 2 ^ 32
  | 0x2C => 0x1DA7 + (if c.ident.half then 0x2560 else 0x5120) * 2 ^ 16
  | 0x34 => 0x40
  | 0x3C => x.intLine
  | 0x40 => capWord 0x01 0x50 (3 + 2 ^ 14 + 2 ^ 15)
  | 0x44 => x.dstate + 2 ^ 3 + bit x.pmeEn * 2 ^ 8 + bit x.pmeStatus * 2 ^ 15
  | 0x50 => capWord 0x10 0xB0 2
  | 0x54 => 2 + 2 ^ 15 + 2 ^ 28
  | 0x58 => bit x.relaxed * 2 ^ 4 + x.maxPayload * 2 ^ 5 + bit x.noSnoop * 2 ^ 11 + x.maxReadReq * 2 ^ 12
  | 0x5C => 6 + 16 * 2 ^ 4 + 2 * 2 ^ 10 + 3 * 2 ^ 15
  | 0x60 => bit x.aspmL1 * 2 + c.fld .HOST_STATUS_SPEED 0 * 2 ^ 16 + c.fld .HOST_STATUS_WIDTH 0 * 2 ^ 20
  | 0x74 => 0xF + 2 ^ 16 + 2 ^ 17
  | 0x78 => x.cto
  | 0xB0 => capWord 0x11 0 (2047 + bit x.msixMask * 2 ^ 14 + bit x.msixEn * 2 ^ 15)
  | 0xB4 => 0x20000
  | 0xB8 => 0x28000
  | 0x100 => extWord 0x0001 2 0x148
  | 0x104 => x.aerUncorr
  | 0x110 => x.aerCorr
  | 0x11C => x.aerLog % 2 ^ 32
  | 0x120 => x.aerLog / 2 ^ 32 % 2 ^ 32
  | 0x124 => x.aerLog / 2 ^ 64 % 2 ^ 32
  | 0x128 => x.aerLog / 2 ^ 96 % 2 ^ 32
  | 0x148 => extWord 0x0015 1 0x158
  | 0x14C => 0x007FC000
  | 0x150 => 2 + 2 ^ 5 + x.barSize * 2 ^ 8
  | 0x158 => extWord 0x0003 1 0x168
  | 0x15C => c.ident.serial % 2 ^ 32
  | 0x160 => c.ident.serial / 2 ^ 32
  | 0x168 => extWord 0x0019 1 0x1A0
  | 0x1A0 => extWord 0x0025 1 0x1B0
  | 0x1B0 => extWord 0x0026 1 0x200
  | 0x200 => extWord 0x002A 1 0x240
  | 0x240 => extWord 0x0031 1 0x280
  | 0x280 => extWord 0x0027 1 0
  | _ => 0

/-! ### The store aperture (R244-R247, R251, R254) -/

/-- The store address of a place in BAR2/3 (R246). -/
def Chip.aperAddr (c : Chip) (x : Nat) : Nat :=
  let size := 2 ^ (c.host.cfg.barSize + 20)
  c.fld .HOST_APER_BASE_APER_BASE 0 * 2 ^ 30 / size * size + x

/-- A request lies inside BAR2/3. -/
def Chip.inAper (c : Chip) (off len : Nat) : Bool := decide (off + len ≤ 2 ^ (c.host.cfg.barSize + 20))

/-- The bytes of an aperture read that is served: poisoned (2) where a line could not be corrected (R247). -/
def State.aperData (s : State) (off len : Nat) : State :=
  let a := s.chip.aperAddr off
  let (ok, c) := (s.chip.storeCross a len false).eccRead a len
  let b := memRead s.mem a len
  let s := s.withChip c
  if ok then s.on fun c => c.emit (.readBytes 0 b)
  else s.on fun c => ((c.count 64 .HOST_CNT_APER_POISON 0).emit (.readBytes 2 b)).raise 3

/-- APERTURE_READ (R247, R251, R254, R267): unsupported request (1) or completer abort (3) where no read is served; a read
waits for the posted writes before it. -/
def State.aperRead (s : State) (off len : Nat) : State :=
  let c := s.chip
  if c.frozen then s.on fun c => c.emit (.readBytes 3 [])
  else if !c.hostServed || !c.inAper off len then s.on fun c => c.emit (.readBytes 1 [])
  else match c.hostWriteHeld with
    | some p => s.on fun c => c.holdAcc p (.aper off len)
    | none => s.aperData off len

def execApertureRead (off len : Nat) (s : State) : Host.Outcome State Fault Refusal :=
  onState (fun s => if s.chip.inReset || !s.chip.is .HOST_STATUS_LINK_UP 0 then s else s.aperRead off len) s

/-- A run of bytes is written line by line; a part of a line is a read, merge and write (R247), and a line that cannot be
corrected for the merge stays as it is. -/
def State.aperLines (s : State) : Nat → Nat → Bytes → State
  | 0, _, _ => s
  | n + 1, a, b =>
    if b = [] then s
    else
      let k := 64 - a % 64
      let part := b.take k
      let s := if part.length = 64 then s.storeWrite a part
        else
          let (ok, c) := s.chip.eccLine (a / 64 * 64)
          let s := s.withChip c
          if ok then s.storeWrite a part else s
      State.aperLines s n (a + k) (b.drop k)

/-- APERTURE_WRITE (R247): dropped where it is not served, counted where WRITE_EN is 0; poisoned data are not written. -/
def State.aperWrite (s : State) (off : Nat) (b : Bytes) (poisoned : Bool) : State :=
  let c := s.chip
  if !c.hostServed || !c.inAper off b.length then s
  else if !c.is .HOST_APER_CTRL_WRITE_EN 0 then s.on fun c => c.count 64 .HOST_CNT_APER_WDROP 0
  else if poisoned then s.on fun c => c.aer (2 ^ 12) 0
  else
    let a := c.aperAddr off
    (s.on fun c => c.storeCross a b.length true).aperLines (b.length / 64 + 2) a b

def execApertureWrite (off : Nat) (bytes : Bytes) (poisoned : Bool) (s : State) : Host.Outcome State Fault Refusal :=
  onState (fun s => s.core fun s => s.aperWrite off bytes poisoned) s

/-- A write of HOST_APER_BASE (R246). -/
def Chip.wrAperBase (c : Chip) (data : Nat) : Chip := c.writeFields (regFields .HOST .HOST_APER_BASE) 0 data

/-- HOST_APER_BASE_WRITE (R246). -/
def execHostAperBaseWrite (src : Src) (data : Nat) (s : State) : Host.Outcome State Fault Refusal :=
  onChip (fun c => c.gated src .HOST 8 fun c => c.wrAperBase data) s

/-- A BAR0 access is wider than 8 bytes or crosses an 8-byte boundary (R244). -/
def badAccess (off len : Nat) : Bool := decide (8 < len) || decide (8 < off % 8 + len)

/-- BAR_ACCESS_ERROR (R244): a bad read is an unsupported request; a bad write is dropped and counted. -/
def Chip.barError (c : Chip) (write : Bool) (off len : Nat) : Chip :=
  if !badAccess off len then c
  else
    let c := c.dropHalves .host
    if !c.hostServed then (if write then c else c.emit (.readData .host (if c.frozen then 3 else 1) len 0))
    else if write then c.count 64 .HOST_CNT_BAD_ACCESS 0
    else c.emit (.readData .host 1 len 0)

def execBarAccessError (write : Bool) (off len : Nat) (s : State) : Host.Outcome State Fault Refusal :=
  onChip (fun c => if c.inReset || !c.is .HOST_STATUS_LINK_UP 0 then c else c.barError write off len) s

/-! ### Completions (R250, R255-R258, R264) -/

/-- A completion event of the host endpoint: its counter, its report and source 3 (R249, R256-R258, R264). -/
def Chip.cplEvent (c : Chip) (f : Fld) (kind tag : Nat) : Chip := ((c.count 64 f 0).report 0x8000 kind tag).raise 3

/-- A completion whose tag waits for none (R257, R264): quarantined by a function-level reset, or unexpected. -/
def Chip.strayCpl (c : Chip) (tag : Nat) : Chip :=
  if kFind c.host.quar tag = some true then c.cplEvent .HOST_CNT_QUAR_CPL 0x504 tag
  else (c.aer (2 ^ 16) (2 ^ 13)).cplEvent .HOST_CNT_UNEXP_CPL 0x502 tag

/-- The current descriptor of a channel takes a status, if it has none yet. -/
def Chip.failCur (c : Chip) (ch st : Nat) : Chip :=
  match (c.dmaCh ch).cur with
  | some d => if d.status = 0 then c.setCur ch (some { d with status := st }) else c
  | none => c

/-- A read of the current descriptor failed (R256, R258): a fetch that fails stops the channel (R283). -/
def Chip.readFailed (c : Chip) (r : OutRead) (st : Nat) : Chip :=
  if r.purpose = 0 then c.dmaStop r.ch st
  else if r.purpose = 4 ∨ r.purpose = 5 then c
  else
    let c := c.failCur r.ch st
    match r.purpose, (c.dmaCh r.ch).cur with
    | 2, some d => c.setCur r.ch (some { d with phase := 2 })
    | _, _ => c

/-- Bytes b arrive for a read, after those it has got (R250, R256, R280, R285). -/
def State.readData (s : State) (r : OutRead) (b : Bytes) : State :=
  let at_ := r.target + r.got.length
  let land (s : State) : State :=
    (s.on fun c => c.storeCross at_ b.length true).storeBytes at_ b
  match r.purpose with
  | 1 =>
    (land s).on fun c => match (c.dmaCh r.ch).cur with
      | some d => (c.setCur r.ch (some { d with moved := d.moved + b.length })).movedBytes r.ch b.length
      | none => c
  | 3 => s.on fun c => match (c.dmaCh r.ch).cur with
      | some d => (c.setCur r.ch (some { d with moved := d.moved + b.length, buf := kInsert d.buf at_ b })).movedBytes
          r.ch b.length
      | none => c
  | 5 => land s
  | _ => s

/-- A read is completed in full, with these bytes in all: a fetch has its descriptors, a flush read ends its descriptor
(R276, R281). -/
def Chip.readFull (c : Chip) (r : OutRead) (all : Bytes) : Chip :=
  match r.purpose with
  | 0 => c.fetchArrived r.ch all
  | 2 => match (c.dmaCh r.ch).cur with
    | some d => c.setCur r.ch (some { d with phase := 2 })
    | none => c
  | _ => c

/-- A read that has part of its bytes stays outstanding for the rest (R256). -/
def Chip.readPart (c : Chip) (r : OutRead) (all : Bytes) : Chip :=
  c.setHost { c.host with reads := c.host.reads.map fun y => if y.tag == r.tag then { y with got := all } else y }

/-- The good data of a completion (R250, R256): its read is completed in full, or waits for the rest. -/
def State.readDone (s : State) (r : OutRead) (b : Bytes) : State :=
  let b := b.take (r.len - r.got.length)
  let all := r.got ++ b
  let s := s.readData r b
  if all.length < r.len then s.on fun c => c.readPart r all
  else s.on fun c => (c.dropRead r.tag).readFull r all

/-- COMPLETION_RECEIVED (R250, R256-R258, R264). A completion with an error status ends its read; after a poisoned one, the
rest of the read is still accepted. -/
def State.completion (s : State) (tag : Nat) (x : Completion) : State :=
  match s.chip.host.reads.find? fun r => r.tag == tag with
  | none => s.on fun c => c.strayCpl tag
  | some r =>
    let s := if x.status ≠ 0 then
        s.on fun c => ((c.dropRead tag).cplEvent .HOST_CNT_CPL_ERRORS 0x503 tag).readFailed r 7
      else if x.poisoned then
        let all := r.got ++ x.bytes
        s.on fun c =>
          let c := if all.length < r.len then c.readPart r all else c.dropRead tag
          ((c.aer (2 ^ 12) 0).cplEvent .HOST_CNT_CPL_ERRORS 0x503 tag).readFailed r 8
      else s.readDone r x.bytes
    s.on fun c => (c.dataArrived r.ch x.cross).pump

def execCompletionReceived (tag : Nat) (cpl : Completion) (s : State) : Host.Outcome State Fault Refusal :=
  onState (fun s => s.core fun s => s.completion tag cpl) s

/-- A range of the store takes free values: its content is undefined (R256). The first argument bounds the bytes. -/
def State.scramble (s : State) : Nat → Nat → State
  | 0, _ => s
  | n + 1, a =>
    let (v, c) := s.chip.fresh
    State.scramble ((s.withChip c).storeWrite a [BitVec.ofNat 8 v]) n (a + 1)

/-- COMPLETION_TIMEOUT (R256): the tag is quarantined, the descriptor ends CPL_TIMEOUT, and its whole target range is
undefined. -/
def State.cplTimeout (s : State) (tag : Nat) : State :=
  match s.chip.host.reads.find? fun r => r.tag == tag with
  | none => s
  | some r =>
    let s := s.on fun c =>
      let c := (c.dropRead tag).setHost { (c.dropRead tag).host with quar := kInsert c.host.quar tag false }
      ((c.aer (2 ^ 14) 0).cplEvent .HOST_CNT_CPL_TIMEOUTS 0x501 tag).readFailed r 6
    let s := match r.purpose, (s.chip.dmaCh r.ch).cur with
      | 1, some d => s.scramble d.len d.dst
      | _, _ => s
    s.on fun c => (c.dataArrived r.ch ⟨0, false⟩).pump

def execCompletionTimeout (tag : Nat) (s : State) : Host.Outcome State Fault Refusal :=
  onState (fun s => s.core fun s => s.cplTimeout tag) s

/-- TAG_QUARANTINE_END (R256, R264). -/
def execTagQuarantineEnd (tag : Nat) (s : State) : Host.Outcome State Fault Refusal :=
  onChip (fun c => c.link0 fun c => (c.setHost { c.host with quar := kErase c.host.quar tag }).pump) s

/-! ### Registers of the HOST block (R268) -/

/-- A write of HOST_VEC_MAP (R249, R268): sources 6 and 7 have none. -/
def Chip.wrVecMap (c : Chip) (s data : Nat) : Chip :=
  if s = 6 ∨ s = 7 then c else c.writeFields (regFields .HOST .HOST_VEC_MAP) s data

/-- A write of HOST_STATUS: LINK_DOWN_SEEN, of type RWS, takes the value written (R11, R268). -/
def Chip.wrHostStatus (c : Chip) (data : Nat) : Chip := c.setB .HOST_STATUS_LINK_DOWN_SEEN 0 (data.testBit 19)

end Sys2Proof.Machine
end

