-- ==== Sys2Proof/Machine/Slots.lean ====
section
/-!
DEFINITION. Machine/Slots.lean: the spill slots SP0 and SP1, their pins and the attention button (R269-R274).
-/
namespace Sys2Proof.Machine

def spilOff (s : Nat) : Nat := 0xD00000 + 0x100 * s

/-! ### Pins -/

/-- A control bit of a slot takes a value, and its pin follows (R270): 0 power, 1 PERST, 2 power indicator, 3 attention
indicator. -/
def Chip.setPin (c : Chip) (f : Fld) (s pin v : Nat) : Chip :=
  if c.fld f s = v then c else (c.setF f s v).emit (.slotPin s pin v)

/-- Slot power, and the reference clock that is on with it (R270). -/
def Chip.slotPower (c : Chip) (s : Nat) (on : Bool) : Chip :=
  if c.is .SPIL_SLOT_CTRL_PWR_ON s == on then c
  else (c.setPin .SPIL_SLOT_CTRL_PWR_ON s 0 (bit on)).emit (.slotPin s 4 (bit on))
def Chip.slotPerst (c : Chip) (s : Nat) (released : Bool) : Chip := c.setPin .SPIL_SLOT_CTRL_PERST_REL s 1 (bit released)
def Chip.powerInd (c : Chip) (s v : Nat) : Chip := c.setPin .SPIL_SLOT_CTRL_PWR_IND s 2 v
def Chip.attnInd (c : Chip) (s v : Nat) : Chip := c.setPin .SPIL_SLOT_CTRL_ATTN_IND s 3 v

def Chip.powered (c : Chip) (s : Nat) : Bool := c.is .SPIL_SLOT_CTRL_PWR_ON s

/-- A sticky status bit of a slot is set (R249, R260, R274). -/
def Chip.slotSticky (c : Chip) (s : Nat) (f : Fld) : Chip :=
  ((c.setB f s true).raise (4 + s)).wakeCause .HOST_WAKE_CFG_SLOT_EN

/-- The state of a slot's link (R274). -/
def Chip.slotLink (c : Chip) (s : Nat) (up : Bool) (speed width : Nat) : Chip :=
  let was := c.is .SPIL_SLOT_STATUS_LINK_UP s
  let c := ((c.setB .SPIL_SLOT_STATUS_LINK_UP s up).setF .SPIL_SLOT_STATUS_SPEED s (if up then speed else 0)).setF
    .SPIL_SLOT_STATUS_WIDTH s (if up then width else 0)
  if was == up then c else c.slotSticky s .SPIL_SLOT_STATUS_LINK_CHG

/-- PERST asserted and power off; the link is gone with it (R271, R272). -/
def Chip.slotOff (c : Chip) (s : Nat) : Chip := ((c.slotPerst s false).slotPower s false).slotLink s false 0 0

/-- The attention indicator where nothing else drives it: blinking while an operator locates the slot, on after a power
fault or a failed power-up, off otherwise (R273). -/
def Chip.attnRest (c : Chip) (s : Nat) : Chip :=
  let x := c.spilS s
  c.attnInd s (if x.locating then 2 else if c.is .SPIL_SLOT_STATUS_PWR_FAULT_SEEN s || x.upFailed then 1 else 3)

/-- Fened runs the slots (R272, R315). -/
def Chip.runsSlots (c : Chip) : Bool := c.fenedRuns && !c.claimed 8

def Chip.setButton (c : Chip) (s : Nat) (b : Option Button) : Chip := c.setSpil s { c.spilS s with button := b }

/-- The power indicator shows whether the slot is usable (R273), unless the host driver runs it. It blinks through a
sequence: one that a second press may cancel returns to the new value. -/
def Chip.indRest (c : Chip) (s v : Nat) : Chip :=
  if c.claimed 8 then c
  else match (c.spilS s).button with
    | none => c.powerInd s v
    | some (.armed _) => c.setButton s (some (.armed v))
    | some _ => c

/-! ### Presence and power faults (R271) -/

/-- The presence of a slot's drive begins or ends (R271). -/
def Chip.presence (c : Chip) (s : Nat) : Chip :=
  let is := (c.spilS s).drive.isSome
  if c.is .SPIL_SLOT_STATUS_PRESENT s == is then c
  else
    let c := c.setB .SPIL_SLOT_STATUS_PRESENT s is
    let c := if is then c.count 64 .SPIL_CNT_INSERTIONS s
      else
        let c := (c.setButton s none).indRest s 3
        if c.powered s then ((c.slotOff s).count 64 .SPIL_CNT_REMOVALS s).spillStop s else c
    c.slotSticky s .SPIL_SLOT_STATUS_PRES_CHG

/-- The level of SPx_PWRFLT_N (R271, R274): where it is low, a powered slot goes off. -/
def Chip.powerFault (c : Chip) (s : Nat) : Chip :=
  let low := (c.spilS s).faultLow
  let c := c.setB .SPIL_SLOT_STATUS_PWR_FAULT s low
  if !low || !c.powered s then c
  else
    let c := (((c.slotOff s).setButton s none).indRest s 3).attnInd s 1
    ((c.count 64 .SPIL_CNT_PWR_FAULTS s).slotSticky s .SPIL_SLOT_STATUS_PWR_FAULT_SEEN).spillStop s

/-- The slot hardware follows its input pins (R270, R271, R274). -/
def Chip.followPins (c : Chip) (s : Nat) : Chip :=
  ((c.setB .SPIL_SLOT_STATUS_BTN s (c.spilS s).btnLow).powerFault s).presence s

/-- The slot hardware of slot s runs: it follows its pins. -/
def Chip.slotRuns (c : Chip) (s : Nat) : Bool := c.live && decide (s < 2) && c.domainOn 45

/-- Both slots follow their pins, after a time in which they did not run. -/
def Chip.slotsFollow (c : Chip) : Chip := [0, 1].foldl (fun c k => if c.slotRuns k then c.followPins k else c) c

/-- A slot row: slots 0 and 1 of the domain PD_SPILL (R404). -/
def slotRow (s : Nat) (f : Chip → Chip) (x : State) : Host.Outcome State Fault Refusal :=
  onChipS (fun c => if c.slotRuns s then f c else c) x

/-- A row that changes an input pin of a slot: the level holds whatever the device does, and the slot hardware follows it
where it runs. -/
def slotPinRow (s : Nat) (g : SpilS → SpilS) (f : Chip → Chip) (x : State) : Host.Outcome State Fault Refusal :=
  onChipS (fun c =>
    if 2 ≤ s then c
    else
      let c := c.setSpil s (g (c.spilS s))
      if c.slotRuns s then f (c.followPins s) else c) x

/-- SLOT_PRESENCE_CHANGE (R271). -/
def execSlotPresenceChange (slot : Nat) (drive : Option DriveInfo) (s : State) : Host.Outcome State Fault Refusal :=
  slotPinRow slot (fun x => { x with drive := drive }) id s

/-- SLOT_POWER_FAULT (R271, R274). -/
def execSlotPowerFault (pin : SlotPin) (s : State) : Host.Outcome State Fault Refusal :=
  slotPinRow pin.slot (fun x => { x with faultLow := pin.low }) id s

/-! ### The attention button (R272, R273) -/

/-- A running button sequence is cancelled: the power indicator returns to what it showed before a press (R272, R341). -/
def Chip.cancelButton (c : Chip) (s : Nat) : Chip :=
  match (c.spilS s).button with
  | some (.armed v) => (c.setButton s none).powerInd s v
  | _ => c.setButton s none

/-- ATTENTION_BUTTON_PRESS (R272): a press starts the sequence of a slot, or cancels it. -/
def Chip.press (c : Chip) (s : Nat) : Chip :=
  let pressed (c : Chip) : Chip := (c.count 64 .SPIL_CNT_BTN_PRESSES s).slotSticky s .SPIL_SLOT_STATUS_BTN_PRESSED
  if !c.runsSlots then pressed c
  else match (c.spilS s).button with
    | none => ((pressed c).setButton s (some (.armed (c.fld .SPIL_SLOT_CTRL_PWR_IND s)))).powerInd s 2
    | some (.armed _) => c.cancelButton s
    | some .shutdown => c
    | some .powering => c

def execAttentionButtonPress (pin : SlotPin) (s : State) : Host.Outcome State Fault Refusal :=
  slotPinRow pin.slot (fun x => { x with btnLow := pin.low }) (fun c => if pin.low then c.press pin.slot else c) s

/-- Step 3: copying stops and the drive is told to shut down. -/
def Chip.shutdownStart (c : Chip) (s : Nat) : Chip :=
  ((c.spillLeave s).setButton s (some .shutdown)).emit (.drive s 4 0)

/-- Step 4: the slot goes off. -/
def Chip.shutdownEnd (c : Chip) (s : Nat) : Chip := (((c.setButton s none).slotOff s).powerInd s 3)

/-- Step 3': power on and PERST released. -/
def Chip.powerUp (c : Chip) (s : Nat) : Chip := ((c.setButton s (some .powering)).slotPower s true).slotPerst s true

/-- Step 4' without a link: power off, the attention indicator on (R273). -/
def Chip.powerUpFails (c : Chip) (s : Nat) : Chip :=
  let c := ((c.setButton s none).slotOff s).powerInd s 3
  (c.setSpil s { c.spilS s with upFailed := true }).attnInd s 1

/-- Step 4': the link is up. -/
def Chip.powerUpEnds (c : Chip) (s : Nat) : Chip := (c.setButton s none).powerInd s 1

/-- NVME_SHUTDOWN_COMPLETE (R272), or the 1 s of step 4 has passed: the slot goes off, where Fened still runs it (R315). -/
def Chip.shutdownDone (c : Chip) (s : Nat) : Chip :=
  match (c.spilS s).button with
  | some .shutdown => if c.runsSlots then c.shutdownEnd s else c.setButton s none
  | _ => c

/-- BUTTON_SEQUENCE_TIMEOUT (R272): a power-up ends here where the drive's link does not train, and where a live power fault
keeps the slot off (R274; notes/assumptions/165.md). A shutdown ends here where the drive has not ended it within its 1 s. -/
def Chip.buttonTimeout (c : Chip) (s : Nat) : Chip :=
  match (c.spilS s).button with
  | some (.armed v) =>
    if !c.runsSlots then c.setButton s none
    else if c.powered s then c.shutdownStart s
    else match (c.spilS s).drive with
      | some d =>
        if c.is .SPIL_SLOT_STATUS_PWR_FAULT s then c.powerUpFails s
        else if d.trains then c.powerUp s else (c.powerUp s).powerUpFails s
      | none => (c.setButton s none).powerInd s v
  | some .shutdown => c.shutdownDone s
  | _ => c

def execButtonSequenceTimeout (slot : Nat) (s : State) : Host.Outcome State Fault Refusal :=
  slotRow slot (fun c => c.buttonTimeout slot) s

def execNvmeShutdownComplete (slot : Nat) (s : State) : Host.Outcome State Fault Refusal :=
  slotRow slot (fun c => c.shutdownDone slot) s

/-- SPILL_LINK_CHANGE (R271, R272). -/
def Chip.spillLink (c : Chip) (s : Nat) (up : Bool) (speed width : Nat) : Chip :=
  let was := c.is .SPIL_SLOT_STATUS_LINK_UP s
  if up then
    if was || !c.powered s || !c.is .SPIL_SLOT_CTRL_PERST_REL s then c
    else
      let c := c.slotLink s true speed width
      if (c.spilS s).button != some .powering then c.indRest s 1
      else if c.runsSlots then c.powerUpEnds s
      else c.setButton s none
  else if !was then c
  else
    let c := c.slotLink s false 0 0
    if c.powered s then ((c.indRest s 3).count 64 .SPIL_CNT_LINK_DOWNS s).spillStop s else c

def execSpillLinkChange (slot : Nat) (up : Bool) (speed width : Nat) (s : State) : Host.Outcome State Fault Refusal :=
  slotRow slot (fun c => c.spillLink slot up speed width) s

/-- SPILL_CPL_TIMEOUT (R269): a drive read was not completed in 50 ms. -/
def execSpillCplTimeout (slot : Nat) (s : State) : Host.Outcome State Fault Refusal :=
  slotRow slot (fun c => c.count 64 .SPIL_CNT_CPL_TIMEOUTS slot) s

/-! ### Registers (R274) -/

/-- A dropped write of the SPIL block (R274). -/
def Chip.spilBad (c : Chip) (s off : Nat) : Chip := c.report (0xA000 + s) 0x507 off

/-- A write of SPIL_SLOT_CTRL (R274): a slot that loses its power loses its drive. -/
def Chip.wrSlotCtrl (c : Chip) (s data : Nat) : Chip :=
  let on := data.testBit 0
  if bits data 7 6 = 0 || bits data 5 4 = 0 ||
      (on && (!c.is .SPIL_SLOT_STATUS_PRESENT s || c.is .SPIL_SLOT_STATUS_PWR_FAULT s)) then c.spilBad s (spilOff s + 4)
  else
    let off := c.powered s && !on
    let c := (((c.powerInd s (bits data 7 6)).attnInd s (bits data 5 4)).slotPerst s (data.testBit 1)).slotPower s on
    if off then (c.slotLink s false 0 0).spillStop s else c

/-- A write of SPIL_SLOT_STATUS: the sticky bits, and the attention indicator that follows PWR_FAULT_SEEN while Fened
runs the slot (R273, R274). -/
def Chip.wrSlotStatus (c : Chip) (s data : Nat) : Chip :=
  let c := c.writeFields (regFields .SPIL .SPIL_SLOT_STATUS) s data
  if !data.testBit 22 then c
  else
    let c := c.setSpil s { c.spilS s with upFailed := false }
    if c.runsSlots then c.attnRest s else c

end Sys2Proof.Machine
end

