-- ==== Sys2Proof/Machine/Domains.lean ====
section
/-!
DEFINITION. Machine/Domains.lean: the memory stacks (R402, R406), the die bridge's failures (R407) and the switched power
domains (R404, R405).
-/
namespace Sys2Proof.Machine

def Chip.setPwr (c : Chip) (x : PwrS) : Chip := { c with pwr := x }

/-! ### Memory stacks (R402, R406) -/

/-- A stack's state changes; a failure is kept in FAIL_SEEN (R409). -/
def Chip.setMem (c : Chip) (m st : Nat) : Chip :=
  let v := c.fld .PWR_MEM_STATUS_STATE 0
  let c := c.setF .PWR_MEM_STATUS_STATE 0 (v - c.memState m * 4 ^ m + st * 4 ^ m)
  if st = 3 then c.setBitF .PWR_MEM_STATUS_FAIL_SEEN 0 m true else c

/-- Domain d is on and ready, or not. -/
def Chip.setOn (c : Chip) (d : Nat) (b : Bool) : Chip := c.setBitF .PWR_DOMAIN_STATUS_ON 0 d b

/-- Domain d is requested (R404). -/
def Chip.requested (c : Chip) (d : Nat) : Bool := c.bitF .PWR_DOMAIN_CTRL_REQ 0 d

/-- A stack begins to train; a stack that had failed is retrained (R406). -/
def Chip.trainStack (c : Chip) (m : Nat) : Chip :=
  let c := c.setMem m 1
  if c.pwr.stackFailed.testBit m then c.count 64 .PWR_CNT_MEM_RETRAINS 0 else c

/-- Regions have pages in stack m. -/
def Chip.stackPages (c : Chip) (m : Nat) : Bool :=
  c.regions.any fun e => e.2.pages.any fun n => stackOf (storeAddr e.2.quad n 0) == m

/-- A stack has failed: its condition stays live until it is retrained (R355, R402, R406). -/
def Chip.stackFails (c : Chip) (m : Nat) (auto : Bool) : Chip :=
  let tried := c.pwr.autoRetrained - (c.pwr.autoRetrained &&& 2 ^ m)
  let p : PwrS := { c.pwr with stackFailed := c.pwr.stackFailed ||| 2 ^ m,
                               stackHeld := if c.stackPages m then c.pwr.stackHeld ||| 2 ^ m else c.pwr.stackHeld,
                               autoRetrained := if auto then tried else c.pwr.autoRetrained ||| 2 ^ m }
  (((c.setMem m 3).setOn (32 + m) false).setPwr p).report (0x7000 + m) 0x408 m

/-- Every stack has ended its training. -/
def Chip.memTrained (c : Chip) : Bool := (List.range 8).all fun m => c.memState m != 1

/-- MEMORY_TRAINING_DONE (R402, R406): after the retraining of a stack that held region pages, when it failed or since,
every line of it reads as uncorrectable until it is written. -/
def Chip.trained (c : Chip) (m : Nat) (ok : Bool) : Chip :=
  if 8 ≤ m ∨ c.memState m ≠ 1 then c
  else
    let lost := c.pwr.stackFailed.testBit m && (c.pwr.stackHeld.testBit m || c.stackPages m)
    let c := if ok then
        let c := (c.setMem m 2).setOn (32 + m) true
        let c := c.setPwr { c.pwr with stackFailed := c.pwr.stackFailed - (c.pwr.stackFailed &&& 2 ^ m),
                                       stackHeld := c.pwr.stackHeld - (c.pwr.stackHeld &&& 2 ^ m) }
        (if lost then c.setStor { c.stor with stale := kInsert c.stor.stale m [] } else c).judgeWindow
      else c.stackFails m false
    if c.memTrained then c.firstMilestone 2 else c

def execMemoryTrainingDone (m : Nat) (ok : Bool) (s : State) : Host.Outcome State Fault Refusal :=
  onChipS (fun c => c.core fun c => c.trained m ok) s

/-- STORE_STACK_FAIL (R347, R406): a stack in service stops answering. -/
def execStoreStackFail (m : Nat) (s : State) : Host.Outcome State Fault Refusal :=
  onChipS (fun c => c.core fun c => if m < 8 ∧ c.memState m = 2 then c.stackFails m true else c) s

/-- STACK_AUTO_RETRAIN (R406): once after a failure in service, unless the host has claimed PWR (R315). -/
def Chip.autoRetrain (c : Chip) (m : Nat) : Chip :=
  if 8 ≤ m || c.memState m != 3 || c.pwr.autoRetrained.testBit m || !c.requested (32 + m) || !c.fenedRuns || c.claimed 10 then c
  else (c.setPwr { c.pwr with autoRetrained := c.pwr.autoRetrained ||| 2 ^ m }).trainStack m

def execStackAutoRetrain (m : Nat) (s : State) : Host.Outcome State Fault Refusal :=
  onChip (fun c => c.core fun c => c.autoRetrain m) s

/-! ### The die bridge (R405, R407) -/

/-- BRIDGE_DOWN (R347, R407): not while the bridge is stopped on purpose (R405). -/
def Chip.bridgeFails (c : Chip) (d : Nat) : Chip :=
  if 2 ≤ d || c.bridgeStopped d then c
  else (c.setPwr { c.pwr with bridgeDown := c.pwr.bridgeDown ||| 2 ^ d }).report (0x010 + d) 0x009 d

def execBridgeDown (d : Nat) (s : State) : Host.Outcome State Fault Refusal :=
  onChipS (fun c => c.core fun c => c.bridgeFails d) s

/-- BRIDGE_RETRAIN (R407). -/
def Chip.bridgeRetrain (c : Chip) (d : Nat) (ok : Bool) : Chip :=
  if !c.pwr.bridgeDown.testBit d then c
  else
    let c := c.count 64 .PWR_CNT_BRIDGE_RETRAINS 0
    if ok then (c.setPwr { c.pwr with bridgeDown := c.pwr.bridgeDown - (c.pwr.bridgeDown &&& 2 ^ d) }).judgeWindow else c

def execBridgeRetrain (d : Nat) (ok : Bool) (s : State) : Host.Outcome State Fault Refusal :=
  onChipS (fun c => c.core fun c => c.bridgeRetrain d ok) s

/-! ### Domains (R404, R405) -/

/-- A domain may be requested: the groups without an engine have none (R404). -/
def Chip.hasDomain (c : Chip) (d : Nat) : Bool := decide (d < 47) && (decide (32 ≤ d) || c.populated d)

/-- A domain is on, or on its way. -/
def Chip.powered? (c : Chip) (d : Nat) : Bool := c.requested d || c.domainOn d

/-- Why a quadrant stays on (R404). -/
def Chip.quadBusy (c : Chip) (q : Nat) : Bool :=
  q == 0 || (q == 2 && c.powered? 43) ||
  ((List.range 8).any fun k => c.powered? (8 * q + k)) || ([0, 1].any fun k => c.powered? (32 + 2 * q + k)) ||
  (c.strm.handles.any fun e => e.2.valid && e.2.homeQ == q) ||
  (c.assigned.any fun b => quadOfPort (c.bPort b) == q)

/-- Why domain d is not switched off (R343, R404): 0 it is, else a result code. -/
def Chip.offCode (c : Chip) (d : Nat) : Nat :=
  if !c.hasDomain d ∨ d = 44 ∨ d = 46 then rParam
  else if d < 32 then
    (if c.is .PORT_GRP_CFG_ENGINE_EN d || (d == 31 && c.is .DUO_CFG_ENABLE 0) then rInUse else rOK)
  else if d < 40 then
    (if c.memState (d - 32) ≠ 3 ∧ c.stackPages (d - 32) = true then rInUse else rOK)
  else if d < 44 then (if c.quadBusy (d - 40) then rInUse else rOK)
  else if c.powered 0 || c.powered 1 || c.regions.any fun e => e.2.spill != 0 then rInUse
  else rOK

/-- The instances of a register that quadrant q holds: a block of the device's 256 ports, 32 groups or 4 quadrants. -/
def RegDesc.ofQuad (d : RegDesc) (q : Nat) : List Nat :=
  if d.count % 4 ≠ 0 ∨ 4096 < d.count then [] else (List.range (d.count / 4)).map fun k => d.count / 4 * q + k

/-- The registers that a quadrant loses with its power (R405). -/
def quadRegs : List RegDesc :=
  (Block.regs .PORT ++ Block.regs .TIDE ++ Block.regs .CORE) ++
    (Block.regs .STRM).filter fun d => d.count == 256 && d.reg != .STRM_PORT_CFG

/-- A quadrant loses its state (R405). -/
def Chip.loseQuad (c : Chip) (q : Nat) : Chip :=
  let keys := quadRegs.flatMap fun d => d.fields.flatMap fun f => (d.ofQuad q).map fun i => f.fld.key i
  let inQ (p : Nat) : Bool := quadOfPort p == q
  let x := c.plane
  let plane : PlaneS := { x with ports := x.ports.filter fun (e : Nat × PortS) => !inQ e.1,
                                 tide := x.tide.filter fun (e : Nat × TideS) => !inQ e.1,
                                 vt := x.vt.filter fun (e : Nat × Nat) => !inQ (e.1 / 8),
                                 ovh := x.ovh.filter fun (e : Nat × Nat) => !inQ e.1,
                                 quay := x.quay.filter fun (e : Nat × QuayS) => quadOf e.1 != q,
                                 eng := x.eng.filter fun (e : Nat × EngS) => quadOf e.1 != q,
                                 starting := x.starting.filter fun g => quadOf g != q }
  let strm : StrmS := { c.strm with meterQ := c.strm.meterQ.filter fun (e : Nat × MeterQ) => e.1 % 4 != q,
                                    gateQ := c.strm.gateQ.filter fun (e : Nat × GateQ) => e.1 % 4 != q,
                                    cnt := c.strm.cnt.filter fun (e : Nat × Nat) => e.1 / 8 % 4 != q }
  let away (n : Nat) : Bool := (c.handle n).homeQ != q
  let brkw : BrkwS := { c.brkw with inst := c.brkw.inst.filter fun (e : Nat × Brkw) => away e.1,
                                    cnt := c.brkw.cnt.filter fun (e : Nat × Nat) => away (e.1 / 16),
                                    pathCnt := c.brkw.pathCnt.filter fun (e : Nat × Nat) => away (e.1 / 32) }
  { c with regs := c.regs.filter fun e => !keys.contains e.1, plane := plane, strm := strm, brkw := brkw,
           slack := kErase c.slack q }

/-- The replica of quadrant q is copied from quadrant 0, which always runs (R404, R405). -/
def Chip.copyQuad (c : Chip) (q : Nat) : Chip :=
  let m := c.strm.meterQ.filter fun e => e.1 % 4 == 0
  let g := c.strm.gateQ.filter fun e => e.1 % 4 == 0
  c.setStrm { c.strm with meterQ := m.foldl (fun a e => kInsert a (e.1 + q) e.2) c.strm.meterQ,
                          gateQ := g.foldl (fun a e => kInsert a (e.1 + q) e.2) c.strm.gateQ }

/-- The domains that Fened switches on at start-up: the quadrants, the stacks and the slots (R401). -/
def startDomains : List Nat := [40, 41, 42, 43, 32, 33, 34, 35, 36, 37, 38, 39, 45]

/-- A domain is switched on: it will be ready later (R404, R405); a stack begins to train (R406), and
the replica of a quadrant is copied from one that runs (R405). -/
def Chip.switchOn (c : Chip) (d : Nat) : Chip :=
  if c.requested d then c
  else
    let c := (c.setBitF .PWR_DOMAIN_CTRL_REQ 0 d true).count 64 .PWR_CNT_DOMAIN_SWITCHES 0
    if 32 ≤ d ∧ d < 40 then c.trainStack (d - 32)
    else if 40 ≤ d ∧ d < 44 ∧ c.domainOn 40 then c.setPwr { c.pwr with copying := c.pwr.copying ||| 2 ^ (d - 40) }
    else c

/-- DOMAIN_READY (R404, R405): a requested domain becomes ready. A stack is ready when it is trained (R406). -/
def Chip.domainReady (c : Chip) (d : Nat) : Chip :=
  if !c.requested d || c.domainOn d || (decide (32 ≤ d) && decide (d < 40)) then c
  else
    let c := if 40 ≤ d ∧ d < 44 then c.copyQuad (d - 40) else c
    let c := c.setOn d true
    if d = 45 then c.slotsFollow else c

/-- A domain is switched off (R404-R406): a quadrant loses its state, a stack its contents. -/
def State.switchOff (s : State) (d : Nat) : State :=
  if !s.chip.requested d then s
  else
    let c := ((s.chip.setBitF .PWR_DOMAIN_CTRL_REQ 0 d false).setOn d false).count 64 .PWR_CNT_DOMAIN_SWITCHES 0
    if d < 32 ∨ d = 45 then s.withChip c
    else if d < 40 then
      let m := d - 32
      let c := c.setMem m 0
      let c := c.setStor { c.stor with ecc := c.stor.ecc.filter fun e => stackOf e.1 != m, stale := kErase c.stor.stale m }
      { s with chip := c, mem := s.mem.filter fun e => stackOf e.1 != m }
    else s.withChip (c.loseQuad (d - 40))

/-- PWR_DOMAIN_SET of one domain (R343, R404): the result code and the state. -/
def State.domainSet (s : State) (d : Nat) (on : Bool) : Nat × State :=
  if !s.chip.hasDomain d then (rParam, s)
  else if on then (rOK, s.on fun c => c.switchOn d)
  else if s.chip.offCode d ≠ rOK then (s.chip.offCode d, s)
  else (rOK, s.switchOff d)

/-- The domains that a write of REQ asks to switch off, and on. -/
def Chip.reqOff (c : Chip) (v : Nat) : List Nat :=
  (List.range 47).filter fun d => c.hasDomain d && c.requested d && !v.testBit d
def Chip.reqOn (c : Chip) (v : Nat) : List Nat :=
  (List.range 47).filter fun d => c.hasDomain d && !c.requested d && v.testBit d

/-- A write of PWR_DOMAIN_CTRL (R404, R409): dropped whole when one of its domains may not be switched off. -/
def State.wrDomains (s : State) (data : Nat) : State :=
  let c := s.chip
  match (c.reqOff data).find? fun d => c.offCode d != rOK with
  | some d => s.on fun c => c.report (0xE000 + d) 0xE01 0x70008
  | none =>
    let s := (c.reqOff data).foldl State.switchOff s
    s.on fun c => (c.reqOn data).foldl Chip.switchOn c

def execPwrDomainCtrlWrite (src : Src) (data : Nat) (s : State) : Host.Outcome State Fault Refusal :=
  onStateS (fun s => s.gated src .PWR 0x70008 fun s => s.wrDomains data) s

end Sys2Proof.Machine
end

