-- ==== Sys2Proof/Machine/Join.lean ====
section
/-!
DEFINITION. Machine/Join.lean: what a join carries from the serving unit to the joiner (R389), the CONFIG epoch on the joiner,
and the ports of a unit that leaves (R390, R392).
-/
namespace Sys2Proof.Machine

/-- The duo link is up: port 248 is UP and records flow (R395). -/
def Chip.duoLinkUp (c : Chip) : Bool := c.link 248 == 3 && c.is .DUO_STATUS_LINK_UP 0

/-! ### Ports (R390, R392) -/

/-- PORT_CFG.ENABLE of one port at 0. -/
def Chip.portOff (c : Chip) (p : Nat) : Chip :=
  if c.is .PORT_CFG_ENABLE p then (c.setB .PORT_CFG_ENABLE p false).linkBase p else c

/-- Every PORT_CFG.ENABLE at 0. -/
def Chip.portsOff (c : Chip) : Chip := (List.range 256).foldl Chip.portOff c

/-- The same, but for port 248, which carries the duo link. -/
def Chip.portsOffBut (c : Chip) : Chip := ((List.range 256).filter fun p => p != 248).foldl Chip.portOff c

/-! ### What a join carries (R389) -/

/-- Registers through which indirect records pass. -/
def windowRegs : List Reg :=
  [.STRM_INDEX, .STRM_CMD, .STRM_DATA, .BRKW_INDEX, .BRKW_CMD, .BRKW_DATA, .STOR_INDEX, .STOR_CMD, .STOR_DATA]

/-- Registers of TIME that hold no configuration. -/
def timeState : List Reg := [.TIME_INCR, .TIME_ADJ_OFS, .TIME_LOAD, .TIME_LOAD_HI]

/-- The registers whose writable fields a join carries in its CONFIG epoch (R389), the group registers of PORT apart. -/
def joinRegs : List RegDesc :=
  ([Block.TIDE, .SCHD, .STRM, .BRKW, .STOR, .TIME, .PORT].flatMap Block.regs).filter fun d =>
    !windowRegs.contains d.reg && !timeState.contains d.reg && d.reg != .PORT_GRP_CFG

/-- The codes of the fields that a join carries. -/
def joinFields : List Nat :=
  Fld.code .CORE_STAGE_LEAD_LEAD :: (joinRegs.flatMap fun d => (d.fields.filter FieldDesc.writable).map fun f => f.fld.code)

/-- The codes of the fields of the ports' own registers. -/
def portFields : List Nat :=
  ((Block.regs .PORT).filter fun d => d.count == 256).flatMap fun d => d.fields.map fun f => f.fld.code

/-- A field that a join carries: port 248 of each unit keeps its own settings, for it carries the join. -/
def joins (key : Nat) : Bool :=
  joinFields.contains (key % 1024) && !(key / 1024 == 248 && portFields.contains (key % 1024))

/-- The fields of the group registers and the domains, which a join applies through their own rules. -/
def joinOther : List Nat := [Fld.code .PORT_GRP_CFG_ENGINE_EN, Fld.code .PORT_GRP_CFG_SPLIT, Fld.code .PWR_DOMAIN_CTRL_REQ]

/-- What the serving unit sends (R389). -/
def Chip.peerData (c : Chip) : PeerData :=
  ⟨c.regs.filter fun e => joins e.1 || joinOther.contains (e.1 % 1024), c.strm, c.plane, c.brkw, c.stor,
    c.time.inst.map fun e => (e.1, e.2.cfg)⟩

/-- What a unit right after its start would send: the domains that Fened switches on, and nothing configured (R401). -/
def PeerData.fresh : PeerData :=
  ⟨[(Fld.key .PWR_DOMAIN_CTRL_REQ 0, (startDomains.map fun d => 2 ^ d).sum)], StrmS.init, PlaneS.init, BrkwS.init, StorS.init, []⟩

/-- A field as the serving unit has it. -/
def PeerData.fld (d : PeerData) (f : Fld) (i : Nat) : Nat := (kFind d.regs (f.key i)).getD (f.resetAt i)

/-! ### The CONFIG epoch on the joiner (R389) -/

/-- What the joiner had is gone. -/
def Chip.blank (c : Chip) : Chip :=
  let c := { c with regs := c.regs.filter fun e => !joins e.1 }
  let plane := { PlaneS.init with eng := c.plane.eng, starting := c.plane.starting, nextRx := c.plane.nextRx,
                                  ports := c.plane.ports }
  { c with strm := StrmS.init, brkw := BrkwS.init, stor := { StorS.init with retired := c.stor.retired, bad := c.stor.bad },
           plane := plane }

/-- The domains follow the serving unit's, that of group 31 apart, which carries the duo link: those it has on first, then,
once the groups have followed, those it has not. -/
def Chip.joinDomainsOn (c : Chip) (d : PeerData) : Chip :=
  (List.range 47).foldl (fun c k =>
    if c.hasDomain k && (d.fld .PWR_DOMAIN_CTRL_REQ 0).testBit k then (c.switchOn k).domainReady k else c) c
def State.joinDomainsOff (s : State) (d : PeerData) : State :=
  (List.range 47).foldl (fun s k =>
    if s.chip.hasDomain k && k != 31 && !(d.fld .PWR_DOMAIN_CTRL_REQ 0).testBit k && s.chip.offCode k == rOK then
      s.switchOff k
    else s) s

/-- The group registers follow the serving unit's, those of group 31 apart (R389). -/
def Chip.joinGroups (c : Chip) (d : PeerData) : Chip :=
  (List.range 31).foldl (fun c g =>
    c.wrGrpCfg g (d.fld .PORT_GRP_CFG_ENGINE_EN g * 2 ^ 31 + d.fld .PORT_GRP_CFG_SPLIT g)) c

/-- The PTP instances follow the serving unit's (R389). -/
def Chip.joinPtp (c : Chip) (d : PeerData) : Chip :=
  let gone := c.time.inst.filter fun (e : Nat × PtpInst) => (kFind d.ptp e.1).isNone
  let c := gone.foldl (fun c (e : Nat × PtpInst) => c.ptpDrop e.1) c
  d.ptp.foldl (fun c (e : Nat × Bytes) => c.ptpSet e.1 e.2) c

/-- A region as the CONFIG epoch brings it: its record and settings, nothing stored. -/
def Region.bare (x : Region) : Region := { x with rings := [], state := 0, tUp := 0, drained := 0, shift := 0 }

/-- An instance as the CONFIG epoch brings it. -/
def Brkw.bare (x : Brkw) : Brkw := { Brkw.init with cfg := x.cfg, paths := x.paths }

/-- The CONFIG epoch on the joiner (R389): what it had is replaced. -/
def State.joinConfig (s : State) (d : PeerData) : State :=
  let s := s.on fun c =>
    let c := ((((c.portsOffBut.blank).joinDomainsOn d).joinGroups d).joinPtp d)
    let c := { c with regs := (d.regs.filter fun e => joins e.1).foldl (fun m e => kInsert m e.1 e.2) c.regs }
    let c := (List.range 256).foldl Chip.linkBase c
    let strm : StrmS := { d.strm with oldLists := [], meterQ := [], gateQ := [], cnt := c.strm.cnt }
    let brkw : BrkwS := { c.brkw with inst := d.brkw.inst.map fun (e : Nat × Brkw) => (e.1, e.2.bare) }
    let stor : StorS := { c.stor with regions := d.stor.regions.map fun (e : Nat × Region) => (e.1, e.2.bare) }
    { c with strm := strm, brkw := brkw, stor := stor }
  s.joinDomainsOff d

/-! ### Pages (R389, R390) -/

/-- Pages in use by rings. -/
def Chip.pagesInUse (c : Chip) : Nat := (c.regions.map fun e => (e.2.rings.map fun g => g.2.pages.length).sum).sum

/-- The pages in use with their bytes, in the order delay-line, history, hold, record; extents on spill drives are not
copied (R389). -/
def State.storePages (s : State) : List (Nat × Bytes) :=
  [0, 1, 2, 3].flatMap fun k => (s.chip.regions.filter fun e => e.2.kind == k).flatMap fun e => e.2.rings.flatMap fun g =>
    (g.2.pages.filter fun p => p.drive.isNone).map fun p =>
      let a := storeAddr e.2.quad p.no 0
      (a, memRead s.mem a 65536)

/-- Pages of a joiner's regions that were not copied (R390). -/
def Chip.gapPages (c : Chip) : Nat :=
  ((c.regions.map fun e => (e.2.rings.map fun g => g.2.pages.countP fun p =>
    g.2.recs.any fun r => r.gap && decide (p.start ≤ r.off) && decide (r.off < p.start + 65536)).sum)).sum

end Sys2Proof.Machine
end

