-- ==== Sys2Proof/Machine/Duo.lean ====
section
/-!
DEFINITION. Machine/Duo.lean: the duo states and what moves them (R381-R392), acknowledged emission (R375-R377), the
peer's pins (R373, R374), and the port rows that may take the duo link down (R174, R176). What the standby applies from
a step record, which runs commands, is in Machine/DuoLog.lean.
-/
namespace Sys2Proof.Machine

/-! ### Copies that wait for the log (R378, R385) -/

/-- A copy that no record will confirm any more is decided by the unit itself and waits unemitted (R385); its path has
counted it already. -/
def State.ownDecide (s : State) (x : PendCopy) : State :=
  let h := x.on.h
  let y := s.chip.inst h
  let f := { x.f with epoch := s.chip.epochMark h }
  match x.launch with
  | some l => s.release8 x.on f x.num l x.x x.bypass
  | none =>
    if y.cfg.mode = modeOff then s.step8 x.on f x.num none x.x none false
    else
      let (v, c) := s.chip.judge h x.num f.ts x.path
      let s := (s.withChip c).historySync h x.num y.seen
      match v with
      | none => s
      | some (k, j) => s.accepted x.on j k f x.x

/-- The unit has left the standby role: the copies kept become its own decisions. The log's entries stay for their 50 µs, and
copies of the numbers that they confirm are still handled by them (R378, R385). -/
def State.stopFollowing (s : State) : State :=
  let l := s.chip.duo.pend
  l.foldl State.ownDecide (s.on fun c => c.setDuo { c.duo with pend := [] })

/-! ### The end of a join (R390) -/

/-- A joiner discards every configuration and page that it has received (R390): it is as one that has joined a unit right
after its start. -/
def State.discardJoin (s : State) : State :=
  let pages := s.chip.regions.flatMap fun e => e.2.rings.flatMap fun g => g.2.pages.map fun p => storeAddr e.2.quad p.no 0
  let s := s.joinConfig PeerData.fresh
  { s with mem := s.mem.filter fun e => !pages.any fun a => decide (a ≤ e.1) && decide (e.1 < a + 65536) }

/-- A join aborts (R390). -/
def State.abortJoin (s : State) (cause : Nat) (lost : Bool) : State :=
  let ep := s.chip.fld .DUO_STATUS_JOIN_EPOCH 0
  let joiner := !s.chip.duoActive
  let s := s.on fun c =>
    let c := (c.count 64 .DUO_CNT_JOIN_ABORTS 0).setB .DUO_STATUS_ABORT_SEEN 0 true
    let c := (c.joinRecord 1 0).report 0xC000 0x603 ep
    if lost then c.report 0xC000 0x602 0 else c
  let s := if !joiner then s else (if ep < 2 then s else s.discardJoin).on Chip.portsOff
  s.on fun c =>
    let c := (c.duoQuiet.setDuo { c.duoQuiet.duo with pend := [], log := [] }).setF .DUO_STATUS_JOIN_EPOCH 0 0
    c.duoGo 0 0 cause

/-- A failure during a join (R390), a link loss or a reading other than UP (cause 1): a joiner that has finished its second
epoch waits for its decision window if it may take over with gaps (R384); till then it decides for itself what arrives, and
emits nothing. -/
def State.joinFails (s : State) (cause : Nat) : State :=
  let c := s.chip
  if c.duo.gaps.isSome then s
  else if !c.duoActive && c.is .DUO_CFG_TAKEOVER_WITH_GAPS 0 && c.fld .DUO_STATUS_JOIN_EPOCH 0 == 3 && c.ownOk then
    (s.on fun c => c.duoQuiet.setDuo { c.duoQuiet.duo with gaps := some c.gapPages }).stopFollowing
  else s.abortJoin cause (cause != 1)

/-! ### Link loss and own failure (R381, R383, R384) -/

/-- MUTED is entered from IN_STEP or JOINING (R383); a join that ends so is recorded (R394). -/
def State.muted (s : State) (cause : Nat) : State :=
  let was := s.chip.duoState
  let s := s.on fun c =>
    let c := if was = 1 then c.joinRecord 1 0 else c
    let c := (c.duoQuiet.duoGo 3 1 cause).report 0xC000 0x601 0
    (c.setDuo { c.duo with fromStep := was == 2 }).setF .DUO_STATUS_JOIN_EPOCH 0 0
  s.stopFollowing

/-- SOLO after a link loss (R383). -/
def Chip.soloAfterLoss (c : Chip) (cause : Nat) : Chip :=
  let c := c.duoQuiet
  (((c.setDuo { c.duo with unacked := [] }).duoGo 0 0 cause)).report 0xC000 0x602 0

/-- A unit is SOLO out of the duo (R392): every PORT_CFG.ENABLE at 0, and the bar of R381 ended. -/
def State.left (s : State) : State :=
  s.stopFollowing.on fun c =>
    let c := c.portsOff.duoQuiet
    ((c.setDuo { c.duo with unacked := [] }).setBar false).duoGo 0 0 0

/-- A link loss (R381, R383, R384): 2 the acknowledgement timeout, 3 port 248 down, 4 no record. A unit whose leave waits for
its epoch boundary leaves at once. -/
def State.linkLoss (s : State) (cause : Nat) : State :=
  let c := s.chip
  let st := c.duoState
  if st ≠ 1 ∧ st ≠ 2 then s
  else if c.duo.leave && c.duoActive then s.left
  else
    let c := c.count 64 .DUO_CNT_LINK_LOSSES 0
    let c := c.setDuo { c.duo with lossAt := some c.now, soleStop := c.secondary }
    let s := s.withChip c
    if st = 1 then s.joinFails cause
    else if !c.duoActive then s.muted cause
    else if !c.ownOk then s.muted cause
    else
      let r := c.reading
      let s := if r = 2 then s.on Chip.split else s
      if r < 2 || (c.fld .DUO_CFG_SPLIT_POLICY 0 == 0 && !c.secondary) then s.on fun c => c.soloAfterLoss cause
      else s.muted cause

/-- The unit's own fatal batch (5) or the stop of its own ALIVE (6) (R383). -/
def State.ownFails (s : State) (cause : Nat) : State :=
  let c := s.chip
  if c.duoState = 2 then (if c.duo.leave && c.duoActive then s.left else s.muted cause)
  else if c.duoState = 0 && c.is .DUO_CFG_ENABLE 0 then
    match c.duo.lossAt with
    | some t =>
      if c.now ≤ t + nsT (1000 * (c.fld .DUO_CFG_SILENCE_US 0 + 560)) then
        s.on fun c => (c.duoGo 3 1 cause).setDuo { (c.duoGo 3 1 cause).duo with fromStep := false }
      else s
    | none => s
  else s

/-- A freeze of this unit has ended (R383). -/
def State.duoFreezeEnd (s : State) : State :=
  let st := s.chip.duoState
  if st = 0 then s
  else if st = 1 ∨ st = 2 then s.muted 9
  else if st = 3 then s
  else s.on fun c => (c.setDuo { c.duo with fromStep := false }).duoGo 3 1 9

/-! ### Rows of the duo link and the pins -/

/-- A row of the duo engine. -/
def duoRow (f : State → State) (s : State) : Host.Outcome State Fault Refusal := onStateS (fun s => s.core f) s

/-- ACK_TIMEOUT (R377). -/
def execAckTimeout (s : State) : Host.Outcome State Fault Refusal :=
  duoRow (fun s => if s.chip.duoState = 2 && s.chip.duoActive && s.chip.duo.unacked != [] then s.linkLoss 2 else s) s

/-- RECORD_SILENCE (R383). -/
def execRecordSilence (s : State) : Host.Outcome State Fault Refusal :=
  duoRow (fun s => if s.chip.duoActive then s else s.linkLoss 4) s

/-- The reading of the peer's pins (R373), and the two bits that DUO_GET shows (R342). -/
def readingOf : PeerPins → Nat × Nat
  | .up h => (0, bit h + 2)
  | .failed h => (1, bit h)
  | .silent t => (2, 2 * bit t)

/-- PEER_PIN_CHANGE (R373, R374, R383, R384, R390). -/
def State.pinChange (s : State) (r pins : Nat) : State :=
  let c := s.chip.setDuo { s.chip.duo with pins := pins }
  if r = c.reading then s.withChip c
  else
    let c := (c.setF .DUO_STATUS_PEER_PINS 0 r).peerRecord
    let c := if s.chip.reading == 0 && c.link 248 == 3 && c.duoState != 0 then c.report 0xC000 0x602 0 else c
    let s := s.withChip c.judgeWindow
    if r ≠ 0 ∧ s.chip.duoState = 1 then s.joinFails 1 else s

def execPeerPinChange (reading : PeerPins) (s : State) : Host.Outcome State Fault Refusal :=
  duoRow (fun s => s.pinChange (readingOf reading).1 (readingOf reading).2) s

/-- DECISION_WINDOW_OPEN (R383, R384, R390). -/
def Chip.openWindow (c : Chip) : Chip :=
  if (c.duoState = 3 && c.duo.fromStep) || (c.duoState = 1 && c.duo.gaps.isSome) then
    (c.setDuo { c.duo with window := true }).judgeWindow
  else c

def execDecisionWindowOpen (s : State) : Host.Outcome State Fault Refusal := duoRow (fun s => s.on Chip.openWindow) s

/-- Frames of a list that may be emitted, and how many others there were. -/
def dropWaiting (c : Chip) {α : Type} (f : α → Frame) (l : List α) : List α × Nat :=
  let keep := l.filter fun x => !c.waits (f x)
  (keep, l.length - keep.length)

/-- The unconfirmed frames in Berths, in and on the way to Quays, handed back by them and in delay lines and hold rings
are discarded (R383): their number. -/
def Chip.dropUnconfirmed (c : Chip) : Nat × Chip :=
  let w {α : Type} (f : α → Frame) (l : List α) : List α × Nat := dropWaiting c f l
  let bs := c.plane.berths.map fun (e : Nat × BerthS) => let r := w (fun i : Item => i.f) e.2.queue; (e.1, { e.2 with queue := r.1 }, r.2)
  let qs := c.plane.quay.map fun (e : Nat × QuayS) =>
    let t := w (fun i : Staged => i.it.f) e.2.transit
    let g := w (fun i : Staged => i.it.f) e.2.staged
    (e.1, (⟨t.1, g.1⟩ : QuayS), t.2 + g.2)
  let ps := c.plane.ports.map fun (e : Nat × PortS) => let r := w (fun i : Staged => i.it.f) e.2.late; (e.1, { e.2 with late := r.1 }, r.2)
  let ring (g : Ring) : Ring × Nat := let r := w (fun i : Rec => i.f) g.recs; (g.left r.1, r.2)
  let rs := c.stor.regions.map fun (e : Nat × Region) =>
    if e.2.kind = 0 ∨ e.2.kind = 2 then
      let gs := e.2.rings.map fun (g : Nat × Ring) => (g.1, ring g.2)
      (e.1, { e.2 with rings := gs.map fun g => (g.1, g.2.1) }, (gs.map fun g => g.2.2).sum)
    else (e.1, e.2, 0)
  let n := (bs.map fun e => e.2.2).sum + (qs.map fun e => e.2.2).sum + (ps.map fun e => e.2.2).sum +
    (rs.map fun e => e.2.2).sum
  let plane : PlaneS := { c.plane with berths := bs.map fun e => (e.1, e.2.1), quay := qs.map fun e => (e.1, e.2.1),
                                       ports := ps.map fun e => (e.1, e.2.1) }
  (n, { c with plane := plane, stor := { c.stor with regions := rs.map fun e => (e.1, e.2.1) } })

/-- DECISION_WINDOW_END (R383). -/
def Chip.closeWindow (c : Chip) : Chip :=
  if c.duoState ≠ 3 || !c.duo.fromStep then c
  else
    let (n, c) := c.dropUnconfirmed
    let c := (c.countN 64 .DUO_CNT_PEND_DROPS 0 n).duoGo 3 1 10
    c.setDuo { c.duo with fromStep := false, window := false }

/-- The window ends (R383): a joiner that might have taken over with gaps aborts its join (R390). -/
def State.closeWindow (s : State) : State :=
  if s.chip.duoState = 1 && s.chip.duo.gaps.isSome then s.abortJoin 10 true else s.on Chip.closeWindow

def execDecisionWindowEnd (s : State) : Host.Outcome State Fault Refusal := duoRow State.closeWindow s

/-- TAKEOVER_COMPLETE (R383, R385): the decisions become final. -/
def Chip.takeoverDone (c : Chip) : Chip :=
  if c.duoState ≠ 4 then c
  else
    let c := (c.count 64 .DUO_CNT_TAKEOVERS 0).setB .DUO_STATUS_TAKEOVER_SEEN 0 true
    let c := (c.setDuo { c.duo with unacked := [] }).duoGo 0 0 8
    c.report 0xC000 0x602 0

def execTakeoverComplete (s : State) : Host.Outcome State Fault Refusal := duoRow (fun s => s.on Chip.takeoverDone) s

/-- SOLE_ACTION_STOP (R381). -/
def execSoleActionStop (s : State) : Host.Outcome State Fault Refusal :=
  duoRow (fun s => s.on fun c => if c.duo.soleStop then c.setBar true else c) s

/-- JOIN_ABORT (R390). -/
def execJoinAbort (s : State) : Host.Outcome State Fault Refusal :=
  duoRow (fun s => if s.chip.duoState = 1 then s.abortJoin 1 false else s) s

/-- When a copy began to wait for its log entry: at its arrival, or as it left the delay line (R205, R378). -/
def PendCopy.since (x : PendCopy) : Nat :=
  match x.launch with
  | some l => l - releaseLead
  | none => x.f.ts

/-- ORPHAN_EXPIRY (R378): the oldest copies kept are discarded. -/
def Chip.orphans (c : Chip) : Chip :=
  match c.duo.pend with
  | [] => c
  | x :: _ =>
    let keep := c.duo.pend.filter fun y => decide (x.since < y.since)
    (c.setDuo { c.duo with pend := keep }).countN 64 .DUO_CNT_ORPHANS 0 (c.duo.pend.length - keep.length)

def execOrphanExpiry (s : State) : Host.Outcome State Fault Refusal := duoRow (fun s => s.on Chip.orphans) s

/-- MISSING_EXPIRY (R378): the oldest log entry is dropped, and its numbers without a copy count. -/
def Chip.missing (c : Chip) : Chip :=
  match c.duo.log with
  | [] => c
  | r :: rest => (c.setDuo { c.duo with log := rest }).countN 64 .DUO_CNT_MISSING 0 r.left.length

def execMissingExpiry (s : State) : Host.Outcome State Fault Refusal := duoRow (fun s => s.on Chip.missing) s

/-! ### Epochs (R375-R377, R389, R391) -/

/-- The entries of a record, at most 12,288 of them runs, and the runs beyond (R376). -/
def cutRuns : Nat → List StepEntry → List StepEntry × List StepEntry
  | _, [] => ([], [])
  | n, e :: rest =>
    if isRun e then
      match n with
      | 0 => let r := cutRuns 0 rest; (r.1, e :: r.2)
      | k + 1 => let r := cutRuns k rest; (e :: r.1, r.2)
    else let r := cutRuns n rest; (e :: r.1, r.2)

/-- Frames whose runs wait for the next epoch wait with them (R376). -/
def Chip.epochNext (c : Chip) : Chip :=
  c.setF .DUO_STATUS_EPOCH 0 ((c.fld .DUO_STATUS_EPOCH 0 + 1) % 2 ^ 48)

/-- The step record of the epoch that ends goes out (R375, R376, R391, R392): runs beyond 12,288 stay behind as runs of
their own epochs. -/
def Chip.sendRecord (c : Chip) : Chip :=
  let ep := c.fld .DUO_STATUS_EPOCH 0
  let swap := c.duo.swapDue
  let last := if c.duo.leave then StepEntry.command 0xB004 (packTime c.now) [] else StepEntry.swap ep
  let (now, later) := cutRuns 12288 (c.duo.deferred ++ c.duo.entries)
  let es := now ++ (if swap then [last] else [])
  let rec_ : StepRecord := ⟨ep, if es = [] then [.empty ep] else es⟩
  let c := c.setDuo { c.duo with entries := [], deferred := later, swapDue := false,
                                 swapEpoch := if swap then some ep else c.duo.swapEpoch,
                                 unacked := if c.duoState = 2 then c.duo.unacked ++ [ep] else c.duo.unacked }
  ((c.countN 64 .DUO_CNT_RUNS_DEFERRED 0 later.length).setB .DUO_STATUS_LINK_UP 0 true).emit (.stepRecord rec_)

/-- The runs that still wait for a record go out in records of their own, at most 12,288 in each, before the direction of the
log reverses (notes/assumptions/204.md). -/
def Chip.flushRuns : Nat → Chip → Chip
  | 0, c => c
  | n + 1, c => if c.duo.deferred = [] then c else Chip.flushRuns n c.sendRecord.epochNext

/-- The roles exchange (R391). Frames of the former active unit go on waiting for the acknowledgements of their records
(R377). -/
def Chip.exchange (c : Chip) (ep : Nat) : Chip :=
  let role := if c.duoActive then 1 else 0
  let c := Chip.flushRuns c.duo.deferred.length c
  let c := (c.setDuo { c.duo with swapEpoch := none, swapAcked := false }).count 64 .DUO_CNT_SWAPS 0
  let c := c.submit 2 2 2 (toLE 8 ep ++ toLE 1 role) false
  c.duoGo 2 role 0

/-- The peer has left the duo as ACTIVE (R392): this unit is SOLO ACTIVE. -/
def State.peerLeft (s : State) : State :=
  s.stopFollowing.on fun c =>
    let c := c.duoQuiet
    (c.setDuo { c.duo with unacked := [] }).duoGo 0 0 0

/-- An epoch boundary: a swap or leave whose record is acknowledged takes place, and a join whose store copy has ended enters
IN_STEP (R389, R391, R392). A unit that becomes ACTIVE decides, and logs, what it kept unmatched. -/
def State.boundary (s : State) : State :=
  let c := s.chip
  match c.duo.swapEpoch with
  | some ep =>
    if c.duo.swapAcked && c.duoState == 2 then
      (if c.duo.leave then (if c.duoActive then s.left else s.peerLeft)
      else
        let s := s.on fun c => c.exchange ep
        if s.chip.duoActive then s.stopFollowing else s)
    else s
  | none =>
    if c.duo.caught && c.duoState == 1 then
      s.on fun c =>
        let c := ((c.count 64 .DUO_CNT_JOINS 0).joinRecord 0 0).setF .DUO_STATUS_JOIN_EPOCH 0 0
        (c.setDuo { c.duo with caught := false, unacked := [], e0 := none }).duoGo 2 (c.fld .DUO_STATUS_ROLE 0) 1
    else s

/-- The snapshot boundary E0 of a join on the serving unit (R389): its data is kept, and its records begin. -/
def Chip.snapE0 (c : Chip) : Chip :=
  (c.setDuo { c.duo with e0 := some c.peerData, entries := [], deferred := [] }).epochNext

/-- EPOCH_END (R375, R389, R391). -/
def State.epochEnd (s : State) : State :=
  let c := s.chip
  if !c.ticking || (c.duoState != 1 && c.duoState != 2) then s
  else
    let s := if !c.duoActive then s
      else s.on fun c => if c.duoState = 1 ∧ c.duo.e0 = none then c.snapE0 else c.sendRecord.epochNext
    s.boundary

def execEpochEnd (s : State) : Host.Outcome State Fault Refusal := duoRow State.epochEnd s

/-- STEP_ACK_RX (R377, R391): the frames of that epoch may leave. -/
def Chip.ackRx (c : Chip) (ep ns : Nat) : Chip :=
  if c.duoState ≠ 2 || !c.duo.unacked.contains ep then c
  else
    let c := c.setDuo { c.duo with unacked := c.duo.unacked.filter fun e => e != ep,
                                   swapAcked := c.duo.swapAcked || c.duo.swapEpoch == some ep }
    (c.setF .DUO_ACK_ACK_LAST_NS 0 (min ns (2 ^ 32 - 1))).maxF .DUO_ACK_ACK_MAX_NS 0 (min ns (2 ^ 32 - 1))

def execStepAckRx (epoch roundTrip : Nat) (s : State) : Host.Outcome State Fault Refusal :=
  duoRow (fun s => s.on fun c => c.ackRx epoch roundTrip) s

/-! ### Configuration (R371, R395) -/

/-- ENABLE is set (R371): group 31 takes SPLIT 0x00 and port 248 is enabled. -/
def Chip.duoEnable (c : Chip) : Chip :=
  let c := if c.fld .PORT_GRP_CFG_SPLIT 31 = 0 then c else c.applySplit 31 0
  (c.setB .PORT_CFG_ENABLE 248 true).linkBase 248

/-- DUO_CFG takes a value (R371, R381). -/
def Chip.applyDuoCfg (c : Chip) (data : Nat) : Chip :=
  let was := c.is .DUO_CFG_ENABLE 0
  let c := c.writeFields (regFields .DUO .DUO_CFG) 0 data
  if data.testBit 63 && !was then c.duoEnable
  else if !data.testBit 63 then (c.setBar false).setDuo { (c.setBar false).duo with lossAt := none }
  else c

/-- A write of DUO_CFG (R395, R425): outside SOLO, out of range, setting ENABLE in factory test mode or on a group 31
that is in use, it is dropped and counted. -/
def Chip.duoCfgOk (c : Chip) (data : Nat) : Bool :=
  let sets := data.testBit 63 && !c.is .DUO_CFG_ENABLE 0
  c.duoState == 0 && decide (100 ≤ bits data 45 32) && decide (bits data 45 32 ≤ 10000) &&
    !(sets && (c.is .DBG_STATUS_FTEST 0 || (c.groupPorts 31).any c.portNamed))

def Chip.wrDuoCfg (c : Chip) (data : Nat) : Chip :=
  if c.duoCfgOk data then c.applyDuoCfg data else c.count 64 .DUO_CNT_PARAM_DROPS 0

/-! ### Port rows (R164, R171, R172, R174, R176) -/

/-- A change that may take port 248 out of UP, which is then a loss of the duo link (R383). -/
def State.watchLink (s : State) (f : State → State) : State :=
  let was := s.chip.link 248
  let s := f s
  if was = 3 ∧ s.chip.link 248 ≠ 3 then s.linkLoss 3 else s

/-- A PORT row of the core. -/
def portRow (f : Chip → Chip) (s : State) : Host.Outcome State Fault Refusal :=
  onStateS (fun s => s.core fun s => s.watchLink fun s => s.on f) s

/-- LOCAL_FAULT (R176). -/
def execLocalFault (p : Nat) (lanes : List LaneState) (s : State) : Host.Outcome State Fault Refusal :=
  portRow (fun c => c.localFault p lanes) s

/-- REMOTE_FAULT (R176). -/
def execRemoteFault (p : Nat) (s : State) : Host.Outcome State Fault Refusal := portRow (fun c => c.remoteFault p) s

/-- DOWN_HOLD_EXPIRY (R176). -/
def execDownHoldExpiry (p : Nat) (s : State) : Host.Outcome State Fault Refusal :=
  portRow (fun c => if c.portValid p then c.downHoldEnd p else c) s

/-- LASER_SAMPLE (R171). -/
def execLaserSample (g : Nat) (input : Int) (s : State) : Host.Outcome State Fault Refusal :=
  portRow (fun c => c.laserSample g input) s

/-- ENGINE_TEMP_SAMPLE (R172). -/
def execEngineTempSample (g : Nat) (temp : Int) (s : State) : Host.Outcome State Fault Refusal :=
  portRow (fun c => c.tempSample g temp) s

/-- A PORT row that is a register write. -/
def portWrite (src : Src) (dark : Chip → Bool) (off : Nat) (f : Chip → Chip) (s : State) :
    Host.Outcome State Fault Refusal :=
  onStateS (fun s => s.watchLink fun s => s.on fun c => c.gatedIn src (dark c) .PORT off f) s

/-- PORT_ENABLE_WRITE (R174): the write of PORT_CFG. -/
def execPortEnableWrite (src : Src) (p data : Nat) (s : State) : Host.Outcome State Fault Refusal :=
  portWrite src (fun c => c.portDark p) (portOff p) (fun c => c.wrPortCfg p data) s

/-- ENGINE_EN_WRITE (R403): the write of PORT_GRP_CFG. -/
def execEngineEnWrite (src : Src) (g data : Nat) (s : State) : Host.Outcome State Fault Refusal :=
  portWrite src (fun c => c.groupDark g) (grpOff g) (fun c => c.wrGrpCfg g data) s

/-- SPLIT_WRITE (R164): the write of PORT_GRP_CFG. -/
def execSplitWrite (src : Src) (g data : Nat) (s : State) : Host.Outcome State Fault Refusal :=
  portWrite src (fun c => c.groupDark g) (grpOff g) (fun c => c.wrGrpCfg g data) s

end Sys2Proof.Machine
end

