-- ==== Sys2Proof/Machine/Faults.lean ====
section
/-!
DEFINITION. Machine/Faults.lean: the fault collector (R345-R358), its pins (R359, R360) and the Saffron record
(R361-R369).
-/
namespace Sys2Proof.Machine

def Chip.setFlt (c : Chip) (x : FltS) : Chip := { c with flt := x }

/-- A row of the always-on domain: it runs through a freeze (R358, R415). -/
def Chip.aon (c : Chip) (f : Chip → Chip) : Chip := if c.inReset || !c.pwr.aonReady then c else f c
def State.aon (s : State) (f : State → State) : State := if s.chip.inReset || !s.chip.pwr.aonReady then s else f s

/-! ### Messages (R345, R350, R352) -/

/-- The 128 bits of a message (R345). -/
def Msg.word (m : Msg) : Nat :=
  m.source + m.kind * 2 ^ 16 + m.cls * 2 ^ 28 + bit m.first * 2 ^ 30 + bit m.injected * 2 ^ 31 + m.rep * 2 ^ 32 +
    m.batch * 2 ^ 48 + m.addr % 2 ^ 64 * 2 ^ 64

/-- The class and the kind rank a report: a higher class first, then a lower source, then a lower kind (R349). -/
def Report.before (a b : Report) : Bool :=
  let x := kindClass a.kind
  let y := kindClass b.kind
  decide (y < x) || (x == y && (decide (a.source < b.source) || (a.source == b.source && decide (a.kind ≤ b.kind))))

/-- The counter of a class. -/
def classCnt : Nat → Fld
  | 0 => .FLT_CNT_CORRECTED
  | 1 => .FLT_CNT_CONTAINED
  | _ => .FLT_CNT_FATAL

/-- The sticky bit of a class (R369). -/
def classSeen : Nat → Fld
  | 0 => .FLT_STATUS_CORRECTED_SEEN
  | 1 => .FLT_STATUS_CONTAINED_SEEN
  | _ => .FLT_STATUS_FATAL_SEEN

/-- A lifetime total raised by one: 2 fatal, 3 contained, 4 recoveries, 5 latches, 6 freezes, 7 factory test entries, 9
laser losses, 10 activations (R365). -/
def Chip.lifeUp (c : Chip) (k : Nat) : Chip := c.setFlt { c.flt with life := setAt c.flt.life k (c.flt.life.getD k 0 + 1) }

/-- The pair of a report (R350). -/
def Chip.pairOf (c : Chip) (r : Report) : Option Pair :=
  c.flt.pairs.find? fun p => p.source == r.source && p.kind == r.kind && p.cls == kindClass r.kind

/-- A pair closes (R350): with repeats, a REPEAT_CLOSE record. -/
def Chip.closePair (c : Chip) (p : Pair) : Chip :=
  let c := c.setFlt { c.flt with pairs := c.flt.pairs.filter fun x => x != p }
  if p.rep = 0 then c else c.submit 1 2 0 (toLE 2 p.source ++ toLE 2 p.kind ++ toLE 2 p.rep) false

def Chip.closePairs (c : Chip) : Chip := c.flt.pairs.foldl Chip.closePair c

/-- A message enters the ring (R352): the number it takes. -/
def Chip.logMsg (c : Chip) (m : Msg) : Nat × Chip :=
  let n := c.fld .FLT_LOG_WR_WR 0
  let old := kFind c.flt.log (n % 4096)
  let c := c.setFlt { c.flt with log := kInsert c.flt.log (n % 4096) (n, m) }
  let c := if old.isSome then c.count 64 .FLT_CNT_LOG_OVERWRITTEN 0 else c
  (n, (c.setF .FLT_LOG_WR_WR 0 ((n + 1) % 2 ^ 32)).setB (classSeen m.cls) 0 true)

/-- A message by its number (R352). -/
def Chip.message (c : Chip) (n : Nat) : Option Msg :=
  match kFind c.flt.log (n % 4096) with
  | some (k, m) => if k = n then some m else none
  | none => none

/-- A report is logged as a new message, and a pair opens for it while one of the 256 is free (R350). -/
def Chip.newMsg (c : Chip) (r : Report) (first : Bool) (batch : Nat) : Msg × Chip :=
  let m : Msg := ⟨r.source, r.kind, kindClass r.kind, first, r.injected, 0, batch, r.addr⟩
  let (n, c) := c.logMsg m
  (m, if c.flt.pairs.length < 256 then
    c.setFlt { c.flt with pairs := c.flt.pairs ++ [⟨r.source, r.kind, m.cls, n, 0⟩] } else c)

/-- A report joins the message of its pair (R350). -/
def Chip.addRepeat (c : Chip) (p : Pair) : Chip :=
  let rep := min (p.rep + 1) 0xFFFF
  let log := match kFind c.flt.log (p.msgNo % 4096) with
    | some (k, m) => if k = p.msgNo then kInsert c.flt.log (p.msgNo % 4096) (k, { m with rep := rep }) else c.flt.log
    | none => c.flt.log
  c.setFlt { c.flt with log := log, pairs := c.flt.pairs.map fun x => if x = p then { x with rep := rep } else x }

/-- A report of a closing batch is counted in its class, and in the lifetime totals (R351, R365, R369). -/
def Chip.countReport (c : Chip) (r : Report) : Chip :=
  let k := kindClass r.kind
  let c := c.count 64 (classCnt k) 0
  let c := if k = 2 then c.lifeUp 2 else if k = 1 then c.lifeUp 3 else c
  if r.kind = 0x202 then c.lifeUp 9 else c

/-- One ranked report is counted and logged or coalesced: the message logged, if it is new (R349, R350). -/
def Chip.takeReport (c : Chip) (r : Report) (first : Bool) (batch : Nat) : Option Msg × Chip :=
  let c := c.countReport r
  match c.pairOf r with
  | some p =>
    if first then let (m, c) := (c.closePair p).newMsg r true batch; (some m, c) else (none, c.addRepeat p)
  | none => let (m, c) := c.newMsg r first batch; (some m, c)

/-! ### Pins (R359) -/

/-- The ERR pins show fault (R359). -/
def Chip.errShown (c : Chip) : Bool := !c.flt.readyOnce || c.fld .FLT_STATUS_STATE 0 != 0

/-- The ERR pins follow (R359). -/
def Chip.setErr (c : Chip) : Chip :=
  let bad := c.errShown
  let p := c.is .FLT_PINS_ERR_P 0
  let n := c.is .FLT_PINS_ERR_N 0
  let c := c.setB .FLT_STATUS_ERR_OUT 0 bad
  if p == !bad && n == bad then c
  else ((c.setB .FLT_PINS_ERR_P 0 (!bad)).setB .FLT_PINS_ERR_N 0 bad).emit (.errPins (!bad) bad)

/-- A change of the collector's state, with its STATE record: cause 0 a batch, 1 a recovery, 2 a latch, 3 CLEAR_LATCH
(R355, R365). -/
def Chip.collector (c : Chip) (st cause : Nat) : Chip :=
  let old := c.fld .FLT_STATUS_STATE 0
  ((c.setF .FLT_STATUS_STATE 0 st).submit 1 3 0 (toLE 1 old ++ toLE 1 st ++ toLE 1 cause) true).setErr

/-! ### Batches (R349-R353, R355) -/

/-- The first cause is taken, if none stands (R353). -/
def Chip.takeFirst (c : Chip) (m : Msg) : Chip :=
  if c.fld .FLT_FIRST_CAUSE_CAUSE 0 ≠ 0 then c
  else
    let t := packTime c.now
    (((c.setF .FLT_FIRST_CAUSE_CAUSE 0 (m.word % 2 ^ 64)).setF .FLT_FIRST_CAUSE_HI_CAUSE_HI 0 (m.word / 2 ^ 64)).setF
      .FLT_FIRST_TIME_TIME 0 (t % 2 ^ 64)).setF .FLT_FIRST_TIME_HI_TIME_HI 0 (t / 2 ^ 64)

/-- What the first-ranked message of a closing batch and its kinds do (R353, R355, R356, R360). -/
def Chip.batchState (c : Chip) (first : Msg) (enters fatal : Bool) : Chip :=
  let c := if enters then c.takeFirst first else c
  let c := if enters && c.fld .FLT_STATUS_STATE 0 == 0 then c.collector 1 0 else c
  let c := if enters && c.fld .FLT_STATUS_STATE 0 == 1 then c.setFlt { c.flt with quiet := true, due := false } else c
  if fatal then c.setFlt { c.flt with aliveFatal := true } else c

/-- The ranked reports of a batch are taken in order: the messages logged (R349). -/
def Chip.takeAll (c : Chip) (batch : Nat) (l : List Report) : List Msg × Chip :=
  l.zipIdx.foldl (fun (a : List Msg × Chip) r =>
    let (m, c) := a.2.takeReport r.1 (r.2 == 0) batch
    (a.1 ++ m.toList, c)) ([], c)

/-- A batch closes (R349-R353): its 64 first-ranked reports are logged, the rest are counted. True when it holds a fatal
report. -/
def Chip.closeBatch (c : Chip) : Bool × Chip :=
  if !c.flt.batchOpen || c.flt.batch = [] then (false, c)
  else
    let all := c.flt.batch.mergeSort Report.before
    let l := all.take 64
    let lost := all.length - l.length
    let n := c.flt.nextBatch
    let c := c.setFlt { c.flt with batchOpen := false, batch := [], nextBatch := (n + 1) % 2 ^ 16 }
    let enters := l.any fun r => kindEnters r.kind
    let fatal := l.any fun r => kindClass r.kind == 2
    let (ms, c) := c.takeAll n l
    let c := (all.drop 64).foldl Chip.countReport c
    let c := match ms with
      | [] => c
      | m :: _ => c.batchState m enters fatal
    let st := c.fld .FLT_STATUS_STATE 0
    let c := ms.foldl (fun c m => c.submit 1 1 0 (toLE 16 m.word ++ toLE 1 l.length ++ toLE 1 st) (m.cls == 2)) c
    let c := (c.count 64 .FLT_CNT_BATCHES 0).setF .FLT_STATUS_BATCH 0 n
    let c := if lost = 0 then c else (c.countN 64 .FLT_CNT_DROPPED 0 lost).report 0xD000 0x702 lost
    (fatal, (c.raise 2).wakeCause .HOST_WAKE_CFG_FLT_EN)

/-- FAULT_BATCH_CLOSE (R349, R383): a fatal batch is also the unit's own failure in a duo. -/
def State.closeBatch (s : State) : State :=
  let (fatal, c) := s.chip.closeBatch
  let s := s.withChip c
  if fatal && !s.chip.frozen then s.ownFails 5 else s

def execFaultBatchClose (s : State) : Host.Outcome State Fault Refusal := onStateS (fun s => s.aon State.closeBatch) s

/-- A report reaches the collector from a row of its own; a FENED_STALL is remembered in STALL_SEEN (R369). -/
def Chip.reportSeen (c : Chip) (r : Report) : Chip :=
  if r.kind = 0x50C then (c.reportR r).setB .FLT_STATUS_STALL_SEEN 0 true else c.reportR r

/-- FAULT_REPORT (R345, R347, R349): a report of a listed kind reaches the collector. -/
def execFaultReport (r : Report) (s : State) : Host.Outcome State Fault Refusal :=
  onChip (fun c => c.aon fun c => if kindListed r.kind then
    c.reportSeen { r with injected := r.injected && c.is .DBG_STATUS_FTEST 0 } else c) s

/-- PAIR_CLOSE (R350). -/
def execPairClose (source kind : Nat) (s : State) : Host.Outcome State Fault Refusal :=
  onChip (fun c => c.aon fun c =>
    match c.flt.pairs.find? fun p => p.source == source && p.kind == kind with
    | some p => c.closePair p
    | none => c) s

/-! ### Recovery (R356-R358) -/

/-- The recoveries of the last WINDOW_S seconds at `ms` of the always-on timer (R357). -/
def Chip.inWindow (c : Chip) (ms : Nat) : Nat :=
  (c.flt.history.filter fun t => decide (ms < t + 1000 * c.fld .FLT_CFG_WINDOW_S 0)).length

/-- The always-on timer now, in ms: from what it showed last, by the voted time (notes/assumptions/206.md). -/
def Chip.timerMs (c : Chip) : Nat := c.flt.timer.1 + (c.now - c.flt.timer.2) / nsT 1000000

/-- The always-on timer shows ms. -/
def State.timed (s : State) (ms : Nat) : State := s.on fun c => c.setFlt { c.flt with timer := (ms, c.now) }

/-- The collector leaves FAULT (R356, R357): a recovery, with which ALIVE resumes (R360, R384), or a latch when the window
already holds LIMIT recoveries. -/
def Chip.leaveFault (c : Chip) (ms : Nat) : Chip :=
  let inWin := c.inWindow ms
  let c := c.setFlt { c.flt with quiet := false, due := false }
  if c.fld .FLT_CFG_LIMIT 0 ≤ inWin then
    ((c.lifeUp 5).closePairs).collector 2 2
  else
    let total := satAdd 32 (c.fld .FLT_RECOVERIES_TOTAL 0) 1
    let c := c.setFlt { c.flt with history := (ms :: c.flt.history).take 1000, aliveFatal := false }
    let c := c.setF .FLT_RECOVERIES_TOTAL 0 total
    let c := ((c.lifeUp 4).closePairs).collector 0 1
    (c.submit 4 1 0 (toLE 4 total ++ toLE 2 (inWin + 1) ++ toLE 4 (c.fld .FLT_CFG_QUIET_MS 0)) true).judgeWindow

/-- The collector would leave FAULT, unless a fatal condition is still live: a batch that is open is completed first
(R356). -/
def State.mayLeave (s : State) (ms : Nat) : State :=
  let wait (s : State) : State := s.on fun c => c.setFlt { c.flt with due := true }
  if s.chip.fatalLive then wait s
  else
    let s := if s.chip.flt.batchOpen then s.closeBatch else s
    let c := s.chip
    if c.fld .FLT_STATUS_STATE 0 ≠ 1 || c.flt.quiet then s
    else if c.fatalLive then wait s
    else s.on fun c => c.leaveFault ms

/-- QUIET_PERIOD_EXPIRY (R356, R357). -/
def State.quietEnd (s : State) (ms : Nat) : State :=
  let c := s.chip
  if c.fld .FLT_STATUS_STATE 0 ≠ 1 || !c.flt.quiet then s
  else (s.on fun c => c.setFlt { c.flt with quiet := false }).mayLeave ms

def execQuietPeriodExpiry (aonMs : Nat) (s : State) : Host.Outcome State Fault Refusal :=
  onStateS (fun s => s.aon fun s => (s.timed aonMs).quietEnd aonMs) s

/-- FATAL_CONDITION_CLEAR (R356, R384). -/
def State.fatalEnd (s : State) (ms : Nat) : State :=
  let s := s.on Chip.judgeWindow
  let c := s.chip
  if c.fld .FLT_STATUS_STATE 0 ≠ 1 || !c.flt.due || c.fatalLive then s else s.mayLeave ms

def execFatalConditionClear (aonMs : Nat) (s : State) : Host.Outcome State Fault Refusal :=
  onStateS (fun s => s.aon fun s => (s.timed aonMs).fatalEnd aonMs) s

/-- CLEAR_LATCH (R298, R334, R357): LATCHED ends, and the recovery history of the window. -/
def Chip.clearLatch (c : Chip) : Chip :=
  if c.fld .FLT_STATUS_STATE 0 ≠ 2 then c
  else
    let c := c.setFlt { c.flt with history := [], aliveFatal := false, quiet := false, due := false }
    (c.collector 0 3).judgeWindow

/-! ### ALIVE (R360) -/

/-- ALIVE_EDGE (R360). -/
def Chip.aliveEdge (c : Chip) : Chip :=
  if !c.aliveRuns then c
  else
    let v := !c.is .FLT_PINS_ALIVE 0
    (c.setB .FLT_PINS_ALIVE 0 v).emit (.alive v)

def execAliveEdge (s : State) : Host.Outcome State Fault Refusal := onChip (fun c => c.aon Chip.aliveEdge) s

/-- No beat has arrived for TIMEOUT_MS (R360): ALIVE stops and the stall is reported; a stall of Fened ends spill copying
(R237), and in a duo it is the unit's own failure (R383). -/
def State.stall (s : State) : State :=
  let s := s.on fun c =>
    let c := (c.setFlt { c.flt with aliveStall := true }).setB .FLT_STATUS_STALL_SEEN 0 true
    let c := c.report 0xB001 0x50C 0
    let d := (c.spillStop 0).spillStop 1
    if c.frozen then c else d.setMbx { d.mbx with stalled := true }
  if s.chip.frozen then s else s.ownFails 6

/-- FENED_STALL (R360): not while an activation's grace runs (R325). -/
def execFenedStall (s : State) : Host.Outcome State Fault Refusal :=
  onStateS (fun s => s.aon fun s =>
    if s.chip.flt.aliveStall || (s.chip.mbx.act.isSome && !s.chip.frozen) then s else s.stall) s

/-! ### Registers (R369) -/

/-- A dropped write of FLT or SAFF (R369). -/
def Chip.fltBad (c : Chip) (off : Nat) : Chip := c.report (if off < 0x48000 then 0xD000 else 0xD001) 0x703 off

/-- The first cause is cleared (R353). -/
def Chip.clearFirst (c : Chip) : Chip :=
  (((c.setF .FLT_FIRST_CAUSE_CAUSE 0 0).setF .FLT_FIRST_CAUSE_HI_CAUSE_HI 0 0).setF .FLT_FIRST_TIME_TIME 0 0).setF
    .FLT_FIRST_TIME_HI_TIME_HI 0 0

/-- A write of FLT_CMD (R353). -/
def Chip.wrFltCmd (c : Chip) (data : Nat) : Chip := if data.testBit 0 then c.clearFirst else c

/-- FLT_CMD_CLEAR_FIRST (R353): the write of FLT_CMD with CLEAR_FIRST set. -/
def execFltCmdClearFirst (src : Src) (data : Nat) (s : State) : Host.Outcome State Fault Refusal :=
  onChip (fun c => c.aon fun c => c.gated src .FLT 0x40040 fun c => c.wrFltCmd (data ||| 1)) s

/-- FLT_CFG is in range (R343, R369). -/
def fltCfgOk (quiet limit window : Nat) : Bool :=
  decide (1 ≤ quiet) && decide (quiet ≤ 60000) && decide (1 ≤ limit) && decide (limit ≤ 1000) && decide (1 ≤ window) &&
    decide (window ≤ 86400)

def Chip.wrFltCfg (c : Chip) (data : Nat) : Chip :=
  if fltCfgOk (bits data 63 48) (bits data 41 32) (bits data 16 0) then
    c.writeFields (regFields .FLT .FLT_CFG) 0 data else c.fltBad 0x40030

def Chip.wrAliveCfg (c : Chip) (data : Nat) : Chip :=
  if 2 ≤ bits data 7 0 ∧ bits data 7 0 ≤ 100 then c.writeFields (regFields .FLT .FLT_ALIVE_CFG) 0 data
  else c.fltBad 0x40038

/-! ### The Saffron record (R361-R368) -/

/-- One bit of the CRC-32 of IEEE 802.3, least significant bit first. -/
def crcBit (r : Nat) : Nat := if r % 2 = 1 then (r / 2) ^^^ 0xEDB88320 else r / 2

/-- CRC-32 (R362). -/
def crc32 (b : Bytes) : Nat :=
  (b.foldl (fun r x => crcBit (crcBit (crcBit (crcBit (crcBit (crcBit (crcBit (crcBit (r ^^^ x.toNat)))))))))
    0xFFFFFFFF) ^^^ 0xFFFFFFFF

/-- The 64 bytes of a record (R362). -/
def SaffRec.bytes (r : SaffRec) (seq : Nat) : Bytes :=
  let b := toLE 4 seq ++ toLE 1 r.sect ++ toLE 1 r.typ ++
    toLE 2 (bit r.timeValid + bit r.timeSuspect * 2 + r.writer * 4) ++ toLE 12 r.time ++ toLE 4 r.bootNo ++
    (r.payload ++ List.replicate 36 0).take 36
  b ++ toLE 4 (crc32 b)

/-- A section's first place and its number of records (R361); the 256 permanent records of section 5 come first. -/
def sectPlace (k : Nat) : Nat := [0x10000, 0x110000, 0x1910000, 0x1B10000, 0x1D10000, 0x1E14000].getD k 0 / 64
def sectCap (k : Nat) : Nat := [16384, 393216, 32768, 32768, 16384, 16128].getD k 1

/-- The place of the first permanent record (R366). -/
def permPlace : Nat := 0x1E10000 / 64

def Mram.sect (m : Mram) (k : Nat) : Sect := m.sects.getD k ⟨0, 0⟩

/-- Of two heads the one with the higher SEQ, as SEQ counts on (R362, R363). -/
def Sect.later (a b : Sect) : Bool := decide ((a.nextSeq + 2 ^ 32 - b.nextSeq % 2 ^ 32) % 2 ^ 32 < 2 ^ 31)

/-- The valid copy with the higher SEQ that the directory holds of a section (R363). -/
def Mram.dirHead (m : Mram) (k : Nat) : Sect :=
  match m.dir.getD k (none, none) with
  | (some a, some b) => if b.later a then b else a
  | (some a, none) => a
  | (none, some b) => b
  | (none, none) => ⟨0, 0⟩

/-- A section's head goes to the directory, over the copy that does not hold the newest (R363): `whole` unless power is lost
in between. -/
def Mram.writeHead (m : Mram) (k : Nat) (whole : Bool) : Mram :=
  let new := if whole then some (m.sect k) else none
  { m with dir := setAt m.dir k (match m.dir.getD k (none, none) with
    | (some a, some b) => if b.later a then (new, some b) else (some a, new)
    | (some a, none) => (some a, new)
    | (none, b) => (new, b)) }

/-- A record is written in its section's ring (R361-R363). -/
def Mram.putRec (m : Mram) (r : SaffRec) : Mram :=
  let x := m.sect r.sect
  let at_ := sectPlace r.sect + x.place
  { m with recs := kInsert m.recs at_ (r.bytes x.nextSeq), bad := m.bad.filter fun p => p != at_,
           sects := setAt m.sects r.sect ⟨(x.nextSeq + 1) % 2 ^ 32, (x.place + 1) % sectCap r.sect⟩ }

/-- A place whose record read back wrong: its content is `junk`, and the record goes to the next place (R364). -/
def Mram.spoil (m : Mram) (k : Nat) (junk : Bytes) : Mram :=
  let x := m.sect k
  let at_ := sectPlace k + x.place
  { m with recs := kInsert m.recs at_ junk, bad := at_ :: m.bad.filter fun p => p != at_,
           sects := setAt m.sects k { x with place := (x.place + 1) % sectCap k } }

/-- An FTEST_ENTERED record takes the next permanent place (R366). -/
def Mram.putPermanent (m : Mram) (r : SaffRec) : Mram :=
  let x := m.sect 5
  { m with recs := kInsert m.recs (permPlace + m.permanent) (r.bytes x.nextSeq), permanent := m.permanent + 1,
           sects := setAt m.sects 5 { x with nextSeq := (x.nextSeq + 1) % 2 ^ 32 } }

/-- A permanent place whose record read back wrong: its content is `junk` (R364). -/
def Mram.spoilPermanent (m : Mram) (junk : Bytes) : Mram :=
  let at_ := permPlace + m.permanent
  if m.permanent < 256 then
    { m with recs := kInsert m.recs at_ junk, bad := at_ :: m.bad.filter fun p => p != at_, permanent := m.permanent + 1 }
  else m

/-- A record goes to its place: FTEST_ENTERED to the permanent ones, if one is free (R366). -/
def Mram.place (m : Mram) (r : SaffRec) : Mram :=
  if r.sect = 5 ∧ r.typ = 2 then (if m.permanent < 256 then m.putPermanent r else m) else m.putRec r

/-- A record is written, and then its section's head in the directory (R363). -/
def Mram.put (m : Mram) (r : SaffRec) : Mram := (m.place r).writeHead r.sect true

/-- The place that a record is written to next. -/
def Mram.nextPlace (m : Mram) (r : SaffRec) : Nat :=
  if r.sect = 5 ∧ r.typ = 2 then permPlace + m.permanent else sectPlace r.sect + (m.sect r.sect).place

/-- A record reads back wrong at its place, whose content is then `junk` (R364). -/
def Mram.spoilFor (m : Mram) (r : SaffRec) (junk : Bytes) : Mram :=
  if r.sect = 5 ∧ r.typ = 2 then m.spoilPermanent junk else m.spoil r.sect junk

/-- The valid records of a section (R361, R363). -/
def Mram.valid (m : Mram) (k : Nat) : List (Nat × Bytes) :=
  m.recs.filter fun e => !m.bad.contains e.1 && e.2.length == 64 && leNat (slice e.2 4 1) == k

/-- The record of a section with a sequence number (R336, R369). -/
def Mram.find (m : Mram) (k seq : Nat) : Option Bytes :=
  ((m.valid k).find? fun e => leNat (slice e.2 0 4) == seq).map fun e => e.2

/-- Records that lie beyond a head and follow it in SEQ, at most n of them, move it on (R363); a permanent one takes no place
of the ring. -/
def Mram.beyond (m : Mram) (k : Nat) : Nat → Sect → Sect
  | 0, x => x
  | n + 1, x =>
    let next := (m.valid k).filter fun e => leNat (slice e.2 0 4) == x.nextSeq
    if next.any fun e => e.1 == sectPlace k + x.place then
      m.beyond k n ⟨(x.nextSeq + 1) % 2 ^ 32, (x.place + 1) % sectCap k⟩
    else if k = 5 ∧ next.any (fun e => decide (e.1 < sectPlace 5)) = true then
      m.beyond k n { x with nextSeq := (x.nextSeq + 1) % 2 ^ 32 }
    else x

/-- The collector finds the heads when the always-on domain becomes ready (R363): the directory's, and up to 16 records
beyond. -/
def Mram.found (m : Mram) : Mram := { m with sects := (List.range 6).map fun k => m.beyond k 16 (m.dirHead k) }

/-- The valid records that a section keeps (R369). -/
def Mram.kept (m : Mram) (k : Nat) : Nat := (m.valid k).length

/-- The newest SEQ of a section, and the oldest kept. -/
def Mram.newest (m : Mram) (k : Nat) : Nat :=
  if m.kept k = 0 then 0 else ((m.sect k).nextSeq + 2 ^ 32 - 1) % 2 ^ 32
def Mram.oldest (m : Mram) (k : Nat) : Nat :=
  let n := (m.sect k).nextSeq
  let age (s : Nat) : Nat := (n + 2 ^ 32 - 1 - s) % 2 ^ 32
  ((m.valid k).map fun e => leNat (slice e.2 0 4)).foldl (fun a s => if age a < age s then s else a) (m.newest k)

/-- Bytes that nothing fixes. -/
def Chip.junk (c : Chip) (n : Nat) : Bytes × Chip :=
  (List.range n).foldl (fun (a : Bytes × Chip) _ => let (v, c) := a.2.fresh; (a.1 ++ [BitVec.ofNat 8 v], c)) ([], c)

/-- A record that carries a SAFF_WRITE_FAIL message (R364). -/
def SaffRec.tellsFail (r : SaffRec) : Bool := r.sect == 1 && r.typ == 1 && leNat (slice r.payload 2 2) % 4096 == 0x701

/-- A section's ring goes on at its next place, which is passed over. -/
def Mram.pass (m : Mram) (k : Nat) : Mram :=
  let x := m.sect k
  { m with sects := setAt m.sects k { x with place := (x.place + 1) % sectCap k } }

/-- The next place of a section that is not known to fail (R364). -/
def Mram.skipFailing (m : Mram) (k : Nat) : Mram :=
  m.bad.foldl (fun m _ => if m.bad.contains (sectPlace k + (m.sect k).place) then m.pass k else m) m

/-- A record reads back wrong (R364): its place is lost, counted and reported. A place that fails is passed over for a
SAFF_WRITE_FAIL message, which is never written to it. -/
def State.saffFails (s : State) (r : SaffRec) : State :=
  if r.tellsFail then { s with mram := s.mram.pass r.sect }
  else
    let (b, c) := s.chip.junk 64
    { s with chip := (c.count 64 .SAFF_CNT_WRITE_FAILS 0).report 0xD001 0x701 (64 * s.mram.nextPlace r),
             mram := s.mram.spoilFor r b }

/-- A record is tried at n places that fail. -/
def State.saffTries (s : State) (r : SaffRec) : Nat → State
  | 0 => s
  | n + 1 => (s.saffFails r).saffTries r n

/-- SAFF_RECORD_WRITE (R363, R364): the oldest record of the queue is written and read back; after each of n mismatches it is
written again at the next place; then its section's head goes to the directory. -/
def State.saffWrite (s : State) (n : Nat) : State :=
  match s.chip.flt.queue with
  | [] => s
  | r :: rest =>
    let s := if r.tellsFail then { s with mram := s.mram.skipFailing r.sect } else s
    let s := s.on fun c => (c.setFlt { c.flt with queue := rest }).count 64 .SAFF_CNT_WRITES 0
    let s := s.saffTries r n
    { s with mram := s.mram.put r }

def execSaffRecordWrite (mismatches : Nat) (s : State) : Host.Outcome State Fault Refusal :=
  onState (fun s => s.aon fun s => s.saffWrite mismatches) s

/-- What the loss of power leaves of the record whose turn it is (R363): a free value says whether its write had not begun,
was cut off, was done without its head, or was cut off in the head (notes/assumptions/207.md). -/
def State.cutWrite (s : State) : State :=
  match s.chip.flt.queue with
  | [] => s
  | r :: _ =>
    let (v, c) := s.chip.fresh
    let (b, c) := c.junk 64
    { s with chip := c, mram := match v % 4 with
      | 0 => s.mram
      | 1 => s.mram.spoilFor r b
      | 2 => s.mram.place r
      | _ => (s.mram.place r).writeHead r.sect false }

/-- A section 0-4 is emptied (R367): SEQ goes on, and a CLEARED record is its first. -/
def State.saffClear (s : State) (k : Nat) : State :=
  let inside (p : Nat) : Bool := decide (sectPlace k ≤ p) && decide (p < sectPlace k + sectCap k)
  let m : Mram := { s.mram with recs := s.mram.recs.filter fun e => !inside e.1,
                                bad := s.mram.bad.filter fun p => !inside p }
  let c := s.chip
  let r : SaffRec := ⟨k, 0xFF, 0, c.is .TIME_STATUS_VALID 0, c.is .TIME_STATUS_SUSPECT 0, packTime c.now,
    c.fld .PWR_BOOT_NO_BOOT_NO 0, [], true⟩
  let c := c.count 64 .SAFF_CNT_WRITES 0
  { s with mram := m.put r, chip := if k = 4 then c.setF .FLT_RECOVERIES_TOTAL 0 0 else c }

/-- The lifetime totals as a SNAPSHOT carries them (R365). -/
def lifeWidths : List Nat := [4, 4, 4, 4, 4, 2, 2, 2, 2, 4, 2]
def lifeBytes (l : List Nat) : Bytes := (lifeWidths.zip l).flatMap fun e => toLE e.1 (min e.2 (256 ^ e.1 - 1))

/-- The totals that a SNAPSHOT payload carries. -/
def lifeOf : List Nat → Bytes → List Nat
  | [], _ => []
  | w :: r, b => leNat (b.take w) :: lifeOf r (b.drop w)

/-- A lifetime SNAPSHOT is submitted (R365). -/
def Chip.snapshot (c : Chip) : Chip := c.submit 5 1 0 (lifeBytes c.flt.life) true

/-- LIFETIME_SNAPSHOT (R365): an hour of powered time has passed. -/
def execLifetimeSnapshot (s : State) : Host.Outcome State Fault Refusal :=
  onChip (fun c => c.aon fun c => (c.lifeUp 0).snapshot) s

/-- The newest valid record of a type in a section. -/
def Mram.newestOf (m : Mram) (k typ : Nat) : Option Bytes :=
  let n := (m.sect k).nextSeq
  let age (b : Bytes) : Nat := (n + 2 ^ 32 - 1 - leNat (slice b 0 4)) % 2 ^ 32
  ((m.valid k).filter fun e => leNat (slice e.2 5 1) == typ).foldl (fun (a : Option Bytes) e => match a with
      | none => some e.2
      | some b => if age e.2 < age b then some e.2 else some b) none

/-- A write of SAFF_READ_CTRL (R369): the fields, and with START the record. -/
def State.wrSaffCtrl (s : State) (data : Nat) : State :=
  let k := bits data 50 48
  let seq := bits data 31 0
  if 5 < k then s.on fun c => c.fltBad 0x48080
  else
    let c := (s.chip.setF .SAFF_READ_CTRL_SECTION 0 k).setF .SAFF_READ_CTRL_SEQ 0 seq
    if !data.testBit 63 then s.withChip c
    else
      let r := s.mram.find k seq
      let b := r.getD []
      let c := c.setB .SAFF_READ_CTRL_FOUND 0 r.isSome
      s.withChip ((List.range 8).foldl (fun c i => c.setF .SAFF_DATA_DATA i (leNat (slice b (8 * i) 8))) c)

/-- SAFF_READ_CTRL_START (R369): the write of SAFF_READ_CTRL with START set. -/
def execSaffReadCtrlStart (src : Src) (data : Nat) (s : State) : Host.Outcome State Fault Refusal :=
  onState (fun s => s.aon fun s => s.gated src .SAFF 0x48080 fun s => s.wrSaffCtrl (data % 2 ^ 63 + 2 ^ 63)) s

end Sys2Proof.Machine
end

