-- ==== Sys2Proof/Machine/Power.lean ====
section
/-!
DEFINITION. Machine/Power.lean: supplies, RST_N and start-up (R396-R409), and the boot ROM's
choice of an image (R293-R296).
-/
namespace Sys2Proof.Machine

/-! ### Supplies (R398) -/

/-- SUPPLY_OUT_OF_WINDOW (R398): the level is the supply's own; the always-on domain notes the event while it runs. -/
def Chip.supplyOut (c : Chip) (k : Nat) : Chip :=
  if 8 ≤ k || !c.bitF .PWR_SUPPLY_OK 0 k then c
  else (c.setBitF .PWR_SUPPLY_OK 0 k false).aon fun c =>
    (c.setBitF .PWR_SUPPLY_LOW_SEEN 0 k true).count 64 .PWR_CNT_SUPPLY_EVENTS 0

def execSupplyOutOfWindow (supply : Nat) (s : State) : Host.Outcome State Fault Refusal :=
  onChip (fun c => c.supplyOut supply) s

/-- SUPPLY_IN_WINDOW (R398). -/
def execSupplyInWindow (supply : Nat) (s : State) : Host.Outcome State Fault Refusal :=
  onChip (fun c => if supply < 8 then c.setBitF .PWR_SUPPLY_OK 0 supply true else c) s

/-! ### RST_N and power removal (R396, R399, R400) -/

/-- What RST_N low does to the pins and the host link (R400). -/
def Chip.pinsLow (c : Chip) : Chip :=
  let c := (List.range 32).foldl (fun c g => if c.engRun g then c.emit (.laser g false) else c) c
  let c := if c.is .FLT_PINS_ERR_P 0 || c.is .FLT_PINS_ERR_N 0 then c.emit (.errPins false false) else c
  let c := if c.is .FLT_PINS_ALIVE 0 then c.emit (.alive false) else c
  let c := ((c.setB .FLT_PINS_ERR_P 0 false).setB .FLT_PINS_ERR_N 0 false).setB .FLT_PINS_ALIVE 0 false
  let c := [0, 1].foldl (fun c s => (((c.slotPerst s false).slotPower s false).powerInd s 3).attnInd s 3) c
  let c := c.linkOff
  let c := if c.host.wake then c.emit (.wakeN false) else c
  c.setHost { c.host with wake := false }

/-- RST_N_ASSERT (R400, R418): a freeze ends at once, and a capture is discarded. -/
def Chip.rstAssert (c : Chip) : Chip :=
  if c.pwr.rstLow then c
  else
    let c := (c.pinsLow.setB .DBG_STATUS_FREEZE_ACTIVE 0 false).setB .DBG_STATUS_CAPTURE_HELD 0 false
    let c : Chip := { c with dbg := { c.dbg with latchMon := false, latchJtag := false, latchMbx := false,
                                                 copying := false } }
    c.setPwr { c.pwr with rstLow := true, cause := 1 }

def execRstNAssert (s : State) : Host.Outcome State Fault Refusal := onChip Chip.rstAssert s

/-- A drive stays in its slot through a reset; what Fened knew of it is lost. -/
def SpilS.kept (x : SpilS) : SpilS :=
  { SpilS.init with drive := x.drive, faultLow := x.faultLow, btnLow := x.btnLow }

/-- What a reset leaves of a firmware slot: the flash keeps its bytes; Fened's verdict on it is lost. -/
def FwSlot.kept (x : FwSlot) : FwSlot := { x with st := if x.st = 0 then 0 else 4, reason := 0 }

/-- The device as a reset leaves it (R12, R262, R400): only what is not its state stays, the fuses, the flash, what the
outside world drives and what it has been sent. At power-up every supply is in its window by the time RST_N may rise. -/
def Chip.afterReset (c : Chip) (straps : Straps) : Chip :=
  let mbx : MbxS := { MbxS.init with fwA := c.mbx.fwA.kept, fwB := c.mbx.fwB.kept }
  let host : HostS := { HostS.init with perst := c.host.perst }
  let r : Chip := { Chip.reset with ident := c.ident, out := c.out, free := c.free, mbx := mbx, host := host,
                                    avs := { AvsS.init with alert := c.avs.alert },
                                    spil := c.spil.map fun (e : Nat × SpilS) => (e.1, e.2.kept),
                                    pwr := { PwrS.init with rstLow := false, cause := c.pwr.cause },
                                    dbg := { DbgS.init with pin := c.dbg.pin } }
  let r := ((r.setB .PWR_STRAPS_DUO_RANK 0 straps.duoRank).setB .PWR_STRAPS_MON_EN 0 straps.monEn).setB
    .PWR_STRAPS_FTEST 0 straps.ftest
  let r := (r.setB .DUO_STATUS_RANK 0 straps.duoRank).setF .PWR_SUPPLY_OK 0
    (if c.pwr.cause = 0 then 0xFF else c.fld .PWR_SUPPLY_OK 0)
  [0, 1].foldl (fun r s =>
    let x := kGet SpilS.init r.spil s
    ((r.setB .SPIL_SLOT_STATUS_PRESENT s x.drive.isSome).setB .SPIL_SLOT_STATUS_PWR_FAULT s x.faultLow).setB
      .SPIL_SLOT_STATUS_BTN s x.btnLow) r

/-- RST_N_RELEASE (R399-R401): the straps are latched. -/
def State.rstRelease (s : State) (straps : Straps) : State :=
  if !s.chip.pwr.rstLow then s else { s with chip := s.chip.afterReset straps, mem := [] }

def execRstNRelease (straps : Straps) (s : State) : Host.Outcome State Fault Refusal :=
  onState (fun s => s.rstRelease straps) s

/-- POWER_REMOVAL (R396): everything is lost but the Saffron record, the fuses and the flash. -/
def State.powerOff (s : State) : State :=
  let s := s.cutWrite
  let c := s.chip.pinsLow
  let mbx : MbxS := { MbxS.init with fwA := c.mbx.fwA.kept, fwB := c.mbx.fwB.kept }
  let r : Chip := { Chip.reset with ident := c.ident, out := c.out, free := c.free, mbx := mbx,
                                    spil := c.spil.map fun (e : Nat × SpilS) => (e.1, e.2.kept) }
  { s with chip := r, mem := [] }

def execPowerRemoval (s : State) : Host.Outcome State Fault Refusal := onState State.powerOff s

/-! ### The boot ROM (R293-R296, R401) -/

/-- The byte of a firmware slot at an offset; an erased byte reads all ones (notes/assumptions/17.md). -/
def FwSlot.byteAt (x : FwSlot) (o : Nat) : Byte :=
  match x.pieces.find? fun p => decide (p.1 ≤ o) && decide (o < p.1 + p.2.length) with
  | some p => p.2.getD (o - p.1) 0xFF
  | none => 0xFF

def FwSlot.read (x : FwSlot) (o n : Nat) : Bytes := (List.range n).map fun k => x.byteAt (o + k)

def FwSlot.imageLen (x : FwSlot) : Nat := leNat (slice x.header 4 4)
def FwSlot.fil (x : FwSlot) : Nat := leNat (slice x.header 8 2)
def FwSlot.stepLog (x : FwSlot) : Nat := leNat (slice x.header 0x0A 2)
def FwSlot.secVer (x : FwSlot) : Nat := leNat (slice x.header 0x14 2)
def FwSlot.version (x : FwSlot) : Nat := leNat (slice x.header 0x18 8)

/-- Why a slot does not fit (R294, R335), the checks in the order of the reason codes; 0 it fits. A slot as it left the
factory holds a signed image (notes/assumptions/8.md). -/
def Chip.slotReason (c : Chip) (x : FwSlot) : Nat :=
  if leNat (slice x.header 0 4) ≠ 0x4B4E4657 then 1
  else if x.imageLen < 4096 ∨ 33554432 < x.imageLen then 2
  else if x.pieces ≠ [] ∧ Config.imageSigned x.header = false then 3
  else if x.pieces ≠ [] ∧ Config.sha384 (x.read 0x200 (x.imageLen - 0x200)) ≠ slice x.header 0x100 48 then 4
  else if !(leNat (slice x.header 0x0C 4)).testBit 2 then 5
  else if x.secVer < c.ident.secMin then 6
  else 0

def Chip.fwSlot (c : Chip) (k : Nat) : FwSlot := if k = 0 then c.mbx.fwA else c.mbx.fwB
def Chip.setFw (c : Chip) (k : Nat) (x : FwSlot) : Chip :=
  c.setMbx (if k = 0 then { c.mbx with fwA := x } else { c.mbx with fwB := x })

/-- A slot is checked, and what was found is kept (R294, R335). -/
def Chip.checkSlot (c : Chip) (k : Nat) : Nat × Chip :=
  let r := c.slotReason (c.fwSlot k)
  (r, c.setFw k { c.fwSlot k with st := if r = 0 then 2 else 3, reason := r })

/-- A slot that the boot ROM rejects is logged (R295, R365). -/
def Chip.slotReject (c : Chip) (k r : Nat) : Chip := c.submit 0 2 1 (toLE 1 k ++ toLE 1 r) true

/-- The boot ROM starts an image (R295, R325, R365, R401 step 3): Fened runs from it and, at the first start, switches the
domains on. -/
def Chip.loadImage (c : Chip) (k : Nat) : Chip :=
  let x := c.fwSlot k
  let c := c.submit 0 3 1 (toLE 1 k ++ toLE 2 x.fil ++ toLE 8 x.version ++ toLE 2 x.secVer) true
  let c := (c.setF .MBX_STATUS_SLOT 0 k).setF .MBX_FW_VER_VERSION 0 x.version
  let c := c.setMbx { c.mbx with image := x.header, loaded := true }
  let c := if c.requested 40 then c else startDomains.foldl Chip.switchOn c
  c.firstMilestone 1

/-- An image has been loaded since RST_N and since the last entry into RESTRICTED (R334). -/
def Chip.imageLoaded (c : Chip) : Bool := c.mbx.loaded

/-- The boot ROM enters RESTRICTED (R295, R296, R359). -/
def Chip.restrict (c : Chip) : Chip :=
  let c := (c.submit 0 4 1 [] true).setMbx { c.mbx with fened := .restricted, loaded := false }
  (c.setFlt { c.flt with readyOnce := false }).setErr

/-- BOOT_ROM_LOAD_DONE (R295). -/
def Chip.bootDone (c : Chip) : Chip :=
  if c.mbx.fened != .boot || c.mbx.act.isSome || c.imageLoaded then c
  else
    let (ra, c) := c.checkSlot 0
    if ra = 0 then c.loadImage 0
    else
      let (rb, c) := (c.slotReject 0 ra).checkSlot 1
      if rb = 0 then (c.setB .MBX_STATUS_FALLBACK 0 true).loadImage 1 else (c.slotReject 1 rb).restrict

def execBootRomLoadDone (s : State) : Host.Outcome State Fault Refusal := onChipS (fun c => c.core Chip.bootDone) s

/-- Fened runs: the domains it has switched on, the stacks apart, are ready (R401). -/
def Chip.fenedUp (c : Chip) : Chip :=
  let c := [40, 41, 42, 43, 45].foldl Chip.domainReady c
  let c := (c.setMbx { c.mbx with fened := .up }).resumed
  ((c.setFlt { c.flt with readyOnce := true }).setErr).firstMilestone 3

/-- FENED_READY (R359, R401 step 6). -/
def Chip.fenedReady (c : Chip) : Chip :=
  if c.mbx.fened != .boot || c.mbx.act.isSome || !c.imageLoaded then c else c.fenedUp

def execFenedReady (s : State) : Host.Outcome State Fault Refusal := onChipS (fun c => c.core Chip.fenedReady) s

/-- What the collector takes from the Saffron record (R363, R365, R366, R409): the heads of its sections, the recoveries and
the lifetime totals. -/
def State.fromRecord (s : State) : State :=
  let s : State := { s with mram := s.mram.found }
  let total := match s.mram.newestOf 4 1 with
    | some b => leNat (slice b 0x18 4)
    | none => 0
  let life := match s.mram.newestOf 5 1 with
    | some b => lifeOf lifeWidths (b.drop 0x18)
    | none => List.replicate 11 0
  s.on fun c => (c.setFlt { c.flt with life := life }).setF .FLT_RECOVERIES_TOTAL 0 total

/-- The always-on domain is ready (R401 step 2): a start is counted and logged, the counters run from 0, and the
adaptive-voltage engine, which lies in this domain, reads VOUT_MODE and READ_VOUT (R40). -/
def Chip.aonStart (c : Chip) : Chip :=
  let c := c.setPwr { c.pwr with aonReady := true, unitReset := false }
  let time : TimeS := { c.time with running := true, refOn := true, ctr0 := 0, ctr1 := 0, ctr2 := 0 }
  let c := ({ c with time := time }).setB .TIME_STATUS_REF_OK 0 true
  let c := { c with time := { c.time with incrs := [(c.incr, 0)] } }
  let c := c.setFlt { c.flt with life := setAt c.flt.life 1 (min (c.flt.life.getD 1 0 + 1) 0xFFFFFFFF) }
  let c := (c.setF .PWR_BOOT_NO_BOOT_NO 0 (c.flt.life.getD 1 0)).setF .PWR_RESET_CAUSE_CAUSE 0 c.pwr.cause
  let c := (c.submit 0 1 1 (toLE 1 c.pwr.cause ++ toLE 1 0) true).snapshot
  let c := ([44, 46].foldl (fun c d => (c.setOn d true).count 64 .PWR_CNT_DOMAIN_SWITCHES 0) c).emit (.errPins false true)
  c.avsRestart.firstMilestone 0

/-- The straps as they are latched. -/
def Chip.straps (c : Chip) : Straps :=
  ⟨c.is .PWR_STRAPS_DUO_RANK 0, c.is .PWR_STRAPS_MON_EN 0, c.is .PWR_STRAPS_FTEST 0⟩

/-- ALWAYS_ON_READY (R401): after RST_N, or after a RESET UNIT, which resets the unit as RST_N does (R334). -/
def State.aonReady (s : State) : State :=
  if s.chip.pwr.rstLow then s
  else if s.chip.pwr.unitReset then
    let c := s.chip.pinsLow
    let c := (c.setPwr { c.pwr with cause := 2 }).afterReset c.straps
    ({ s with chip := c, mem := [] } : State).fromRecord.on Chip.aonStart
  else if s.chip.pwr.aonReady then s
  else s.fromRecord.on Chip.aonStart

def execAlwaysOnReady (s : State) : Host.Outcome State Fault Refusal := onState State.aonReady s

end Sys2Proof.Machine
end

