-- ==== Sys2Proof/Machine/Debug.lean ====
section
/-!
DEFINITION. Machine/Debug.lean: freezes and the captured state (R415-R420), and what the JTAG port reads (R421, R422).
-/
namespace Sys2Proof.Machine

def Chip.setDbg (c : Chip) (x : DbgS) : Chip := { c with dbg := x }

/-! ### The captured state (R419, R420) -/

/-- The length of a captured state in 64-byte lines (R419); the KNV-2560's is not given. -/
def Chip.capLines (c : Chip) : Nat × Chip :=
  if c.ident.half then let (v, c) := c.fresh; (v % 262145, c) else (229376, c)

/-- A time field of the mailbox (R327). -/
def timeField (t : Nat) : Bytes := toLE 12 t ++ [0, 0, 0, 0]

def Chip.capHeld (c : Chip) : Bool := c.is .DBG_STATUS_CAPTURE_HELD 0

/-- The captured state's length in bytes. -/
def Chip.capLen (c : Chip) : Nat := 64 * c.fld .DBG_STATUS_CAP_LINES 0

/-- A captured state is released (R418, R420). -/
def Chip.capRelease (c : Chip) : Chip :=
  if !c.capHeld then c
  else
    let c := c.setDbg { c.dbg with snap := none }
    ((c.setB .DBG_STATUS_CAPTURE_HELD 0 false).setF .DBG_STATUS_CAP_LINES 0 0).setB .DBG_STATUS_CAP_LOST_SEEN 0 false

/-- What the copy of a capture takes over (R419). -/
def State.snapshot (s : State) : Snap :=
  let c := s.chip
  { regs := c.regs, ident := c.ident, avs := c.avs, slack := c.slack, time := c.time, mbx := c.mbx, flt := c.flt,
    free := c.free, host := c.host, hostPath := c.hostPath, monPath := c.monPath, spil := c.spil, pwr := c.pwr,
    bridge := c.bridge, strm := c.strm, plane := c.plane, brkw := c.brkw, stor := c.stor, dma := c.dma, duo := c.duo,
    mram := s.mram }

/-- The state that a capture shows. -/
def Snap.state (x : Snap) : State :=
  { chip := { regs := x.regs, ident := x.ident, avs := x.avs, slack := x.slack, time := x.time, mbx := x.mbx,
              flt := x.flt, out := [], free := x.free, host := x.host, hostPath := x.hostPath, monPath := x.monPath,
              spil := x.spil, pwr := x.pwr, dbg := DbgS.init, bridge := x.bridge, strm := x.strm, plane := x.plane,
              brkw := x.brkw, stor := x.stor, dma := x.dma, duo := x.duo },
    mem := [], mram := x.mram, pending := [] }

/-! ### The start of a freeze (R415, R418) -/

/-- A source becomes active while no freeze is in progress and RST_N is high: 0 pin, 1 monitor, 2 JTAG, 3 mailbox. A capture
that is still held is kept. -/
def Chip.startFreeze (c : Chip) (source : Nat) : Chip :=
  if c.inReset || c.frozen then c
  else
    let t := packTime c.now
    let c := ((c.setB .DBG_STATUS_FREEZE_ACTIVE 0 true).setF .DBG_STATUS_LAST_SOURCE 0 source)
    let c := (c.setF .DBG_FREEZE_START_START 0 (t % 2 ^ 64)).setF .DBG_FREEZE_START_HI_START_HI 0 (t / 2 ^ 64)
    if c.capHeld then c.setB .DBG_STATUS_CAP_LOST_SEEN 0 true
    else
      let d : DbgS := { c.dbg with copying := true, capTime := t, capSource := source, capNo := c.free }
      ({ c with free := c.free + 1 }).setDbg d

/-- FREEZE_PIN (R415): a rising edge held high. -/
def Chip.pinHigh (c : Chip) : Chip :=
  if c.dbg.pin then c else (c.setDbg { c.dbg with pin := true }).startFreeze 0

def execFreezePin (s : State) : Host.Outcome State Fault Refusal := onChipS Chip.pinHigh s

/-! ### The end of a freeze (R62, R159, R209, R234, R267, R383, R417) -/

/-- The frames in flight are lost (R62): on the wires, in the Quays and on the way there, and being received. -/
def Chip.loseFlight (c : Chip) : Chip :=
  let ids := c.plane.ports.filterMap fun e => e.2.rx.map fun r => r.id
  let c := ids.foldl Chip.rxBad c
  let ports : KMap PortS := c.plane.ports.map fun e =>
    (e.1, { e.2 with wire := none, part := none, late := [], rx := none, asm := none })
  c.setPlane { c.plane with ports := ports, quay := [] }

/-- What the end of a freeze does to time (R62, R417). -/
def Chip.thawTime (c : Chip) : Chip :=
  let t := packTime c.now
  let c := (c.setB .DBG_STATUS_FREEZE_ACTIVE 0 false).setF .DBG_FREEZE_END_END 0 (t % 2 ^ 64)
  let c := ((c.setF .DBG_FREEZE_END_HI_END_HI 0 (t / 2 ^ 64)).count 64 .DBG_CNT_FREEZES 0).count 16 .TIME_EVT_CNT_FREEZES 0
  (((c.setB .TIME_STATUS_VALID 0 false).setB .TIME_STATUS_FROZEN_SEEN 0 true).setServo 1).noteClass

/-- The freeze ends: every handshake resumes, and Fened goes on where it stopped. The causes that set pending bits in the
freeze are sent (R248, R249). -/
def State.thaw (s : State) : State :=
  let start := s.chip.fld .DBG_FREEZE_START_START 0 + s.chip.fld .DBG_FREEZE_START_HI_START_HI 0 * 2 ^ 64
  let s := s.on fun c => ((c.thawTime.resumed.loseFlight.dlFlushAll).replayFreeze).dmaStopAll 16
  let s := s.duoFreezeEnd
  let s := s.on fun c => (c.lifeUp 6).event 0x0025 (toLE 12 start ++ toLE 12 (packTime c.now))
  (s.on fun c => c.avsThaw.payPme.slotsFollow.sendPending).heldAction

/-- A freeze ends when nothing holds it any more (R417). -/
def State.tryThaw (s : State) : State :=
  let d := s.chip.dbg
  if !s.chip.frozen || d.pin || d.latchMon || d.latchJtag || d.latchMbx || d.copying then s else s.thaw

/-- FREEZE_PIN_LOW (R417). -/
def execFreezePinLow (s : State) : Host.Outcome State Fault Refusal :=
  onStateS (fun s => (s.on fun c => c.setDbg { c.dbg with pin := false }).tryThaw) s

/-- CAPTURE_COPY_DONE (R419): the copy is what it found at its end, the core standing still through it
(notes/assumptions/183.md). -/
def State.captured (s : State) : State :=
  if !s.chip.dbg.copying then s
  else s.on fun c =>
    let (n, c) := (c.setDbg { c.dbg with copying := false, snap := some s.snapshot }).capLines
    (c.setB .DBG_STATUS_CAPTURE_HELD 0 true).setF .DBG_STATUS_CAP_LINES 0 n

def execCaptureCopyDone (s : State) : Host.Outcome State Fault Refusal :=
  onStateS (fun s => s.aon fun s => s.captured.tryThaw) s

/-- MAILBOX_LATCH_EXPIRY (R417): 5 s after the freeze started. -/
def execMailboxLatchExpiry (s : State) : Host.Outcome State Fault Refusal :=
  onStateS (fun s => s.aon fun s => (s.on fun c => c.setDbg { c.dbg with latchMbx := false }).tryThaw) s

/-- THAW (R417): the monitor, JTAG and mailbox latches clear. -/
def State.clearLatches (s : State) : State :=
  (s.on fun c => c.setDbg { c.dbg with latchMon := false, latchJtag := false, latchMbx := false }).tryThaw

/-! ### JTAG (R421, R422) -/

/-- The instruction register takes a code. -/
def Chip.setIr (c : Chip) (code : Nat) : Chip := c.setDbg { c.dbg with ir := code }

/-- Bits shifted out. -/
def Chip.shiftOut (c : Chip) (width data : Nat) : Chip := c.emit (.jtag width data)

/-- The signal balls that the boundary register covers (R441; notes/assumptions/184.md). -/
def signalBalls : Nat := 169

/-- A scan of the boundary register: out comes what it captured, the levels of the balls, which are the outside's; in goes
the value shifted in. -/
def Chip.boundary (c : Chip) (code v : Nat) : Chip :=
  let (levels, c) := (c.setIr code).fresh
  (c.shiftOut signalBalls (levels % 2 ^ signalBalls)).setDbg { c.dbg with ir := code, boundary := v % 2 ^ signalBalls }

/-- The one-bit register passes the bit shifted in, after the 0 it captures. -/
def Chip.bypass (c : Chip) (code tdi : Nat) : Chip := (c.setIr code).shiftOut 2 (tdi % 2 * 2)

/-- JTAG_BYPASS: code 0xFF, or one that R421 does not list, which acts as it. -/
def execJtagBypass (scan : BypassScan) (s : State) : Host.Outcome State Fault Refusal :=
  onChip (fun c => c.bypass scan.code scan.tdi) s

/-- EXTEST: the balls take the levels of the boundary register. -/
def Chip.extest (c : Chip) (v : Nat) : Chip := (c.boundary 0 v).emit (.balls (v % 2 ^ signalBalls))

/-- JTAG_EXTEST: only while RST_N is low; otherwise it acts as BYPASS. -/
def execJtagExtest (boundary : Nat) (s : State) : Host.Outcome State Fault Refusal :=
  onChip (fun c => if c.pwr.rstLow then c.extest boundary else c.bypass 0 (boundary % 2)) s

/-- JTAG_IDCODE. -/
def execJtagIdcode (s : State) : Host.Outcome State Fault Refusal :=
  onChip (fun c => (c.setIr 1).shiftOut 32 0xB5120A5B) s

/-- JTAG_SAMPLE_PRELOAD. -/
def execJtagSamplePreload (boundary : Nat) (s : State) : Host.Outcome State Fault Refusal :=
  onChip (fun c => c.boundary 2 boundary) s

/-- JTAG_FREEZE (R415, R421): the latch is set at Update-IR. -/
def execJtagFreeze (s : State) : Host.Outcome State Fault Refusal :=
  onChipS (fun c => (c.setIr 0x10).aon fun c => (c.setDbg { c.dbg with latchJtag := true }).startFreeze 2) s

/-- JTAG_THAW. -/
def execJtagThaw (s : State) : Host.Outcome State Fault Refusal :=
  onStateS (fun s => (s.on fun c => c.setIr 0x11).aon State.clearLatches) s

/-- The 64 bytes of the MRAM that contain an offset (R361): a place never written reads zero (notes/assumptions/10.md), and
the directory's layout is not given. -/
def Mram.line (m : Mram) (o : Nat) : Bytes :=
  if o < 0x10000 then (List.range 64).map fun k => Config.dirByte m.dir (o / 64 * 64 + k)
  else (kGet [] m.recs (o / 64) ++ List.replicate 64 0).take 64

/-- JTAG_SAFF_READ (R368, R422): also while RST_N is low. -/
def State.jtagSaff (s : State) (off : Nat) : State :=
  let data := if 0x1FFFFFF < off then 0 else leNat (s.mram.line off)
  s.on fun c => (c.setIr 0x13).shiftOut 576 (1 + data * 2 ^ 64)

def execJtagSaffRead (off : Nat) (s : State) : Host.Outcome State Fault Refusal := onState (fun s => s.jtagSaff off) s

/-- JTAG_CAP_RELEASE (R420). -/
def execJtagCapRelease (s : State) : Host.Outcome State Fault Refusal :=
  onChipS (fun c => (c.setIr 0x14).aon Chip.capRelease) s

end Sys2Proof.Machine
end

