-- ==== Sys2Proof/Machine/Live.lean ====
section
/-!
DEFINITION. Machine/Live.lean: what a register reads as: its stored fields, and the fields that show something else of
the device at the instant of the read (the fields that the tables mark live, and those that show tables and queues).
-/
namespace Sys2Proof.Machine

/-- The FIL level that the running image reports: 0 in BOOT and RESTRICTED (R296, R319, R326). -/
def Chip.filNow (c : Chip) : Nat := if c.mbx.fened == .up then leNat (slice c.mbx.image 8 2) else 0

/-- A shadow value of a Berth, or its port's OVERHEAD, differs from the active set (R126). -/
def Chip.shadowPend (c : Chip) (b : Nat) : Bool :=
  let x := c.berth b
  let p := c.bPort b
  c.bValid b && (c.shadow b != (x.weight, x.shaper, x.rate, x.burst) || c.fld .TIDE_PORT_CFG_OVERHEAD p != c.ovh p)

/-- A Berth's balance now, in bytes rounded towards minus infinity (R123, R132). -/
def Chip.balNow (c : Chip) (b : Nat) : Int :=
  let x := (c.berth b).accrue c.now
  if x.shaper then x.bal / byteBal else 0

/-- Message bits at FLT_LOG_INDEX (R352, R369). -/
def Chip.logShown (c : Chip) : Nat :=
  match c.message (c.fld .FLT_LOG_INDEX_INDEX 0) with
  | some m => m.word
  | none => 0

/-- The operational entry at TIDE_OPER_INDEX (R160). -/
def Chip.operEntry (c : Chip) (p k : Nat) : Nat := (c.tide p).bank.getD k 0

/-- A domain is switching, training or copying (R409). -/
def Chip.changing (c : Chip) : Bool :=
  ((List.range 47).any fun d => !(decide (32 ≤ d) && decide (d < 40)) && c.requested d != c.domainOn d) || !c.memTrained ||
    c.replicaCopy

/-- The states of the mailbox slots (R326). -/
def Chip.slotStates (c : Chip) : Nat := (c.mbx.slots.zipIdx.map fun e => e.1.st * 4 ^ e.2).sum

/-- A field of a register as it reads. -/
def Chip.showF (c : Chip) (f : Fld) (i : Nat) : Nat :=
  match f with
  | .HOST_QUAR_TAGS => min c.host.quar.length 1024
  | .HOST_APER_BASE_APER_BASE =>
    let k := 2 ^ (c.host.cfg.barSize - 10)
    c.fld .HOST_APER_BASE_APER_BASE 0 / k * k
  | .MBX_STATUS_FIL_MAJOR => c.filNow / 256
  | .MBX_STATUS_FIL_MINOR => c.filNow % 256
  | .MBX_STATUS_STATE => c.fenedState
  | .MBX_STATUS_OPEN => bit c.mbx.isOpen
  | .MBX_STATUS_PEND_TIMED => c.mbx.timed.length
  | .MBX_SLOT_STATE_STATE => c.slotStates
  | .DMA_REQ_ASSERTED => bit (c.lineAsserted i)
  | .DMA_REQ_AVAIL => c.lineAvail i
  | .FLT_RECOVERIES_IN_WINDOW => min 1000 (c.inWindow c.timerMs)
  | .FLT_STATUS_FATAL_LIVE => bit c.fatalLive
  | .FLT_STATUS_ALIVE_RUN => bit c.aliveRuns
  | .FLT_LOG_DATA_DATA => c.logShown % 2 ^ 64
  | .FLT_LOG_DATA_HI_DATA_HI => c.logShown / 2 ^ 64
  | .TIME_NOW_NOW => packTime c.now % 2 ^ 64
  | .TIME_NOW_HI_SEC_HI => packTime c.now / 2 ^ 64
  | .DUO_STATUS_SOLE => bit c.sole
  | .DUO_STATUS_LINK_UP => bit c.duoLinkUp
  | .DUO_JOIN_PROG_PAGES_COPIED => c.pagesCopied
  | .DUO_PEER_SERIAL => (c.duo.peer.map fun p => p.serial).getD 0
  | .DUO_PEER_INFO_FIL => (c.duo.peer.map PeerInfo.fil).getD 0
  | .DUO_PEER_INFO_STEPLOG_FMT => (c.duo.peer.map fun p => p.stepLog).getD 0
  | .CORE_QBUF_STATUS_NOW_MIB => c.shareMib i
  | .PWR_DOMAIN_STATUS_CHANGING => bit c.changing
  | .PORT_GRP_STATUS_POPULATED => bit (c.populated i)
  | .PORT_STATUS_LINK_UP => bit (c.linkUp i)
  | .PORT_STATUS_WIDTH => c.lanes i
  | .PORT_MM_STATUS_MM_ACTIVE => bit (c.mmActive i)
  | .TIDE_ADMIN_ENTRY_OP => bits (c.adminEntry i) 63 61
  | .TIDE_ADMIN_ENTRY_GATES => bits (c.adminEntry i) 55 48
  | .TIDE_ADMIN_ENTRY_INTERVAL_FRAC => bits (c.adminEntry i) 39 32
  | .TIDE_ADMIN_ENTRY_INTERVAL_NS => bits (c.adminEntry i) 31 0
  | .TIDE_OPER_DATA_ENTRY => c.operEntry i (c.fld .TIDE_OPER_INDEX_INDEX i)
  | .SCHD_BERTH_STATE_SHADOW_PEND => bit (c.shadowPend i)
  | .SCHD_BERTH_STATE_IN_DEBT => bit (decide (c.balNow i < 0))
  | .SCHD_BERTH_STATE_BACKLOGGED => bit (decide ((c.berth i).queue ≠ []))
  | .SCHD_BERTH_STATE_REFERENCED => bit (c.referenced i)
  | .SCHD_BERTH_STATE_DEPTH => ceilDiv (c.berth i).depth 64
  | .SCHD_BERTH_STATE_BALANCE => ofInt 32 (c.balNow i)
  | .STRM_USAGE_KEYS_USED => c.strm.keys.length
  | .STRM_USAGE_EGR_USED => c.egrUsed
  | .BRKW_POOL_BITS_USED => c.poolUsed i none
  | .STOR_QUAD_CHARGE_MBPS => c.quadCharge i c.handlePeak (fun _ x => x) / 1000
  | .STOR_QUAD_RETIRED => min ((c.stor.retired.filter fun n => n / 2 ^ 20 == i).length) 65535
  | .STOR_QUAD_PAGES_FREE => c.pagesFree i
  | .STOR_CURSORS_Q0 => c.cursorsOf 0
  | .STOR_CURSORS_Q1 => c.cursorsOf 1
  | .STOR_CURSORS_Q2 => c.cursorsOf 2
  | .STOR_CURSORS_Q3 => c.cursorsOf 3
  | .STOR_SPILL_STAT_FREE_PAGES =>
    match (c.spilS i).prepared with
    | some n => min (n - (c.extents i none).1) 0xFFFFFFFF
    | none => 0
  | .DBG_STATUS_MON_WRITE => bit c.monWrite
  | _ => c.fld f i

/-- A field of a register as it reads, the Saffron record included (R369). -/
def State.showF (s : State) (f : Fld) (i : Nat) : Nat :=
  match f with
  | .SAFF_SECT_USED => s.mram.kept i
  | .SAFF_SECT_NEWEST => s.mram.newest i
  | .SAFF_SECT_OLDEST => s.mram.oldest i
  | _ => s.chip.showF f i

/-- A register block that reads as zero and ignores writes: of an unpopulated group or an invalid port (R2, R5, R160), or
of a quadrant whose domain is off (R451). -/
def Chip.dark (c : Chip) (d : RegDesc) (i : Nat) : Bool :=
  let off (q : Nat) : Bool := !c.domainOn (40 + q)
  match d.block with
  | .PORT =>
    if d.count = 32 then c.groupDark i
    else if d.reg = .PORT_LANE_00 ∨ d.reg = .PORT_LANE_08 then c.groupDark (i / 8)
    else c.portDark i
  | .TIDE => c.portDark (if d.reg = .TIDE_ADMIN_ENTRY then i / 1024 else i)
  | .CORE => if d.reg = .CORE_STAGE_LEAD then off (quadOf i) else
    if [Reg.CORE_SLACK_CTRL, .CORE_SLACK_CFG, .CORE_SLACK_STATUS, .CORE_SLACK_MIN, .CORE_QBUF_STATUS,
      .CORE_QBUF_DROP].contains d.reg then off i else false
  | .TIME => (d.reg == .TIME_PORT_ASYM || d.reg == .TIME_PORT_CFG) && !c.portValid i
  | .STRM => decide (d.count = 256) && !c.portValid i
  | _ => false

/-- A register as it reads: RSV and WO fields read zero (R11, R450). -/
def State.regShow (s : State) (d : RegDesc) (i : Nat) : Nat :=
  if s.chip.dark d i then 0 else (d.fields.map fun f => if f.acc = .wo then 0 else s.showF f.fld i * 2 ^ f.lo).sum

/-! ### The bytes of a captured state (R419-R421) -/

/-- The block that a SOURCE code names (R346). -/
def sourceBlock (src : Nat) : Option Block :=
  match src / 4096 with
  | 0 => some .CORE
  | 1 => some .TIME
  | 2 => some .PORT
  | 3 => some .STRM
  | 4 => some .SCHD
  | 5 => some .TIDE
  | 6 => some .BRKW
  | 7 => some .STOR
  | 8 => some .HOST
  | 9 => some .DMA
  | 10 => some .SPIL
  | 11 => some .MBX
  | 12 => some .DUO
  | 13 => some (if src % 4096 = 1 then .SAFF else .FLT)
  | 14 => some .PWR
  | _ => none

/-- The instance by which R346 names a register as a source. -/
def RegDesc.instance_ (d : RegDesc) (i : Nat) : Nat :=
  match d.block with
  | .CORE => if d.count = 32 then 0x100 + i else if d.count = 2 then 0x10 + i else if d.count = 4 then i else 0x20
  | .TIME => if d.count = 9 then 0x10 + i else 0
  | .PORT => if d.count = 32 then 0x100 + i else if d.reg = .PORT_LANE_00 ∨ d.reg = .PORT_LANE_08 then 0x100 + i / 8 else i
  | .TIDE => if d.reg = .TIDE_ADMIN_ENTRY then i / 1024 else i
  | .DMA => if 0x31000 ≤ d.base ∧ d.base < 0x32000 then i else 0x10
  | .SPIL => i
  | .STOR => 0x20
  | .STRM => 0x10
  | .SCHD => 0x10
  | .BRKW => 0x10
  | .SAFF => 1
  | _ => 0

/-- The registers of a source, as (offset, register, instance) in offset order. -/
def sourceRegs (src : Nat) : List (Nat × RegDesc × Nat) :=
  match sourceBlock src with
  | none => []
  | some b =>
    let l := b.regs.flatMap fun d =>
      ((List.range d.count).filter fun i => d.instance_ i == src % 4096).map fun i => (d.off i, d, i)
    l.mergeSort fun x y => decide (x.1 ≤ y.1)

/-- A REGISTERS section: the source's registers in offset order (notes/assumptions/183.md). -/
def Snap.registers (x : Snap) (src : Nat) : Bytes :=
  (sourceRegs src).flatMap fun e => toLE (e.2.1.width / 8) (x.state.regShow e.2.1 e.2.2)

/-- An entry of a BERTHS section: depth in 64-byte units, head launch time and frames; no launch time reads 0. -/
def Snap.berth (x : Snap) (b : Nat) : Bytes :=
  let q := x.state.chip.berth b
  let head := ((q.queue.head?.bind fun i => i.launch).map packTime).getD 0
  toLE 4 (ceilDiv q.depth 64) ++ toLE 8 (head % 2 ^ 64) ++ toLE 4 q.queue.length

/-- The section belongs to an unpopulated group, so that it is empty (R419). -/
def Chip.emptySection (c : Chip) (src : Nat) : Bool :=
  let g := if src % 4096 < 256 then src % 4096 / 8 else src % 256
  match src / 4096 with
  | 0 => decide (256 ≤ src % 4096) && !c.populated g
  | 2 => !c.populated g
  | 5 => !c.populated (src % 4096 / 8)
  | _ => false

/-- The section table (R419): which sections there are, and where, the stepping decides. -/
def Chip.sections (c : Chip) : List (Nat × Nat × Nat × Nat) :=
  Config.capSections.map fun e => if c.emptySection e.1 then (e.1, e.2.1, e.2.2.1, 0) else e

/-- The bytes of a captured state's header: offsets 0 to 0x1B. -/
def Chip.capHead (c : Chip) : Bytes :=
  toLE 4 0x4A484350 ++ toLE 4 (c.fld .DBG_STATUS_CAP_LINES 0) ++ timeField c.dbg.capTime ++ toLE 1 c.dbg.capSource ++
    toLE 1 0xB0 ++ toLE 2 c.sections.length

/-- The bytes of the section table. -/
def Chip.capTable (c : Chip) : Bytes :=
  c.sections.flatMap fun e => toLE 2 e.1 ++ toLE 2 e.2.1 ++ toLE 4 e.2.2.1 ++ toLE 4 e.2.2.2 ++ [0, 0, 0, 0]

/-- A byte of a section of a kind, at an offset in it; `free` is what stands where no rule says. -/
def Snap.byte (x : Snap) (src kind k : Nat) (free : Byte) : Byte :=
  if kind = 0 then (x.registers src).getD k free
  else if kind = 1 then (if k / 16 < 65536 then (x.berth (k / 16)).getD (k % 16) free else free)
  else free

/-- A byte of the captured state (R419): of the header, of the section table, of a section, or one that no rule fixes. -/
def Chip.capByte (c : Chip) (o : Nat) : Byte :=
  let free := Config.capByte c.dbg.capNo o
  if o < 0x40 then c.capHead.getD o free
  else if o < 0x40 + 16 * c.sections.length then c.capTable.getD (o - 0x40) free
  else match c.dbg.snap, c.sections.find? fun e => decide (e.2.2.1 ≤ o) && decide (o < e.2.2.1 + e.2.2.2) with
    | some x, some e => x.byte e.1 e.2.1 (o - e.2.2.1) free
    | _, _ => free

def Chip.capRead (c : Chip) (o n : Nat) : Bytes := (List.range n).map fun k => c.capByte (o + k)

/-- JTAG_CAP_READ (R420, R421): a capture that is not held reads zero. -/
def Chip.jtagCap (c : Chip) (off n : Nat) : Chip :=
  let word (k : Nat) : Nat := if c.capHeld && decide (off + 8 * k + 8 ≤ c.capLen) then leNat (c.capRead (off + 8 * k) 8) else 0
  (List.range n).foldl (fun d k => d.shiftOut 64 (word k)) (c.setIr 0x12)

def execJtagCapRead (off n : Nat) (s : State) : Host.Outcome State Fault Refusal := onChip (fun c => c.jtagCap off n) s

/-! ### Registers by name -/

/-- A register by its name. -/
def State.reg (s : State) (b : Block) (r : Reg) (i : Nat) : Nat :=
  match r.desc? b with
  | some d => s.regShow d i
  | none => 0

end Sys2Proof.Machine
end

