-- ==== Sys2Proof/Machine/Mailbox.lean ====
section
/-!
DEFINITION. Machine/Mailbox.lean: what every mailbox command shares: the request header and the parameter layouts
(R303, R327), the order of checks (R306), the acceptance matrix (R307), claims (R315), the step log (R332), timed
commands (R308) and the response (R303, R304). The commands themselves follow in the Cmd files.
-/
namespace Sys2Proof.Machine

/-! ### Status codes beyond those the tables share (R304) -/

def stUnsupported : Nat := 9
def stReject : Nat := 10
def stClaimed : Nat := 11
def stBadImage : Nat := 12
def stIncompatible : Nat := 13
def stCancelled : Nat := 14
def stInternal : Nat := 15
/-- No response yet: the slot stays BUSY (R388). -/
def stWaits : Nat := 256

/-- What a command answers: its status, DETAIL, response data and the state after it. -/
structure Reply where
  status : Nat
  detail : Nat
  data : Bytes
  st : State

/-- The command succeeds. -/
def State.ok (s : State) (d : Bytes) : Reply := ⟨0, 0, d, s⟩

/-- The command fails: it has no side effect (R306). -/
def State.no (s : State) (status detail : Nat) : Reply := ⟨status, detail, [], s⟩

/-- The state with the free values that a failed operation drew left behind. -/
def State.used (s : State) (c : Chip) : State := s.on fun d => { d with free := c.free }

/-- The answer of a block's operation on the device: its result code is the status of the same code, and for PARAM,
DETAIL holds the offset of the record (R329). -/
def State.op (s : State) (x : Nat × Chip) (off : Nat) (d : Chip → Bytes) : Reply :=
  if x.1 = 0 then (s.withChip x.2).ok (d x.2) else (s.used x.2).no x.1 (if x.1 = rParam then off else 0)

/-- A parameter: n bytes at an offset, least significant first (R327). -/
def pn (p : Bytes) (off n : Nat) : Nat := leNat (slice p off n)

/-- A response of n bytes of which some are listed: (offset, width, value). The rest is zero (R328). -/
def layOut (n : Nat) (l : List (Nat × Nat × Nat)) : Bytes := toLE n ((l.map fun e => e.2.2 % 256 ^ e.2.1 * 256 ^ e.1).sum)

/-! ### Layouts of parameters (R327) -/

/-- A field of a layout: its offset, its width in bytes, and the bits of it that are not reserved. -/
abbrev PField := Nat × Nat × Nat

/-- Bits hi to lo. -/
def bitRange (hi lo : Nat) : Nat := 2 ^ (hi + 1) - 2 ^ lo

/-- The listed bits of a record. -/
def maskOf (l : List (Nat × Nat)) : Nat := (l.map fun e => bitRange e.1 e.2).sum

/-- A plain field. -/
def pf (off n : Nat) : PField := (off, n, 256 ^ n - 1)

/-- A field that carries a register (R327). -/
def pr (off : Nat) (b : Block) (r : Reg) : PField :=
  match r.desc? b with
  | some d => (off, d.width / 8, maskOf (d.fields.map fun f => (f.hi, f.lo)))
  | none => pf off 8

/-- A time field (R327): bytes 12-15 are zero. -/
def pt (off : Nat) : PField := (off, 16, 2 ^ 96 - 1)

/-- A field that carries an indirect record of n bytes, by its listed bits. -/
def pk (off n : Nat) (l : List (Nat × Nat)) : PField := (off, n, maskOf l)

/-- The listed bits of the indirect records (R109, R213, R239). -/
def keyBits : List (Nat × Nat) := [(46, 0), (55, 48), (111, 64), (159, 128), (191, 160), (319, 192), (447, 320)]
def handleBits : List (Nat × Nat) :=
  [(63, 63), (61, 57), (51, 48), (40, 32), (16, 0), (127, 96), (77, 64), (188, 128), (195, 192)]
def meterBits : List (Nat × Nat) := [(63, 0), (87, 64), (119, 96), (133, 128)]
def gateCfgBits : List (Nat × Nat) := [(95, 0), (176, 128), (196, 192), (202, 200), (351, 256)]
def gateEntryBits : List (Nat × Nat) := [(63, 59), (39, 0), (95, 64)]
def brkwCfgBits : List (Nat × Nat) := [(15, 0), (52, 32), (191, 64), (227, 192), (319, 256)]
def brkwPathBits : List (Nat × Nat) := (List.range 8).flatMap fun j => [(64 * j + 63, 64 * j + 62), (64 * j + 55, 64 * j + 48)]
def holdBits : List (Nat × Nat) := [(12, 0), (127, 64), (159, 128)]
def recordBits : List (Nat × Nat) := [(3, 0), (63, 32), (95, 64)]
def replayBits : List (Nat × Nat) := [(16, 0), (55, 32), (159, 64), (287, 192), (415, 320), (511, 448)]

/-- The length of a layout. -/
def layLen (l : List PField) : Nat := l.foldl (fun a e => max a (e.1 + e.2.1)) 0

/-- The bits of a layout that are not reserved. -/
def layMask (l : List PField) : Nat := l.foldl (fun a e => a ||| e.2.2 * 256 ^ e.1) 0

/-- The first field that cannot be read, or else the first byte that holds a reserved bit (R327). -/
def layBad (l : List PField) (p : Bytes) : Option Nat :=
  match l.find? fun e => decide (p.length < e.1 + e.2.1) with
  | some e => some e.1
  | none =>
    let m := layMask l
    (List.range (min (layLen l) p.length)).find? fun k => (p.getD k 0).toNat &&& (255 - m / 256 ^ k % 256) != 0

/-- Parameter bytes beyond the layout that are not zero (R321). -/
def layBeyond (l : List PField) (p : Bytes) : Bool := (p.drop (layLen l)).any fun b => b != 0

/-! ### Commands -/

/-- A mailbox command: its opcode, whether it may be timed (R331) and whether it is a query (R328), the functions it
writes (R315), its parameters' layout, when it is refused with STATE_REJECT beyond R307 (with DETAIL), and what it
does. -/
structure Cmd where
  op : Nat
  timed : Bool
  query : Bool
  funcs : List Nat
  lay : Bytes → List PField
  bar : Bytes → State → Option Nat
  body : Bytes → State → Reply

/-- No refusal beyond R307. -/
def noBar : Bytes → State → Option Nat := fun _ _ => none

/-- A query without parameters, or with a fixed layout. -/
def query (op : Nat) (l : List PField) (body : Bytes → State → Reply) : Cmd := ⟨op, false, true, [], fun _ => l, noBar, body⟩

/-- A modify command with a fixed layout. -/
def modify (op : Nat) (funcs : List Nat) (l : List PField) (body : Bytes → State → Reply) : Cmd :=
  ⟨op, false, false, funcs, fun _ => l, noBar, body⟩

/-- The functions that the commands that may be timed write (R314, R315, R331). -/
def timedFuncs (op : Nat) : List Nat :=
  if op = 0x4005 then [1]
  else if op = 0x5001 then [2]
  else if op = 0x5002 then [2]
  else if op = 0x6004 ∨ op = 0x6009 ∨ op = 0x600A then [5]
  else if op = 0x7001 ∨ op = 0x7010 then [4]
  else if op = 0x8001 then [6]
  else if 0x9005 ≤ op ∧ op ≤ 0x9008 then [7]
  else if op = 0xB005 then [9]
  else if op = 0xD005 then [0]
  else []

/-- The other functions that a command writes as things stand: PORT_GROUP_SET switches the domain of an engine on that it
enables (R403), DUO_CFG writes the registers of the duo link's group and port (R371), and DUO_LEAVE clears the enables of
the ports (R392). -/
def Chip.alsoWrites (c : Chip) (op : Nat) (p : Bytes) : List Nat :=
  if op = 0x5001 then
    (if (pn p 4 4).testBit 31 && !c.is .PORT_GRP_CFG_ENGINE_EN (pn p 0 1) && !c.domainOn (pn p 0 1) then [10] else [])
  else if op = 0xB002 ∧ pn p 0 1 = 1 ∧ c.is .DUO_CFG_ENABLE 0 = false then [2]
  else if op = 0xB004 ∧ c.duoState ≠ 0 then [2]
  else []

/-- The functions that a pending timed command writes (R314). -/
def Timed.writes (t : Timed) (c : Chip) : List Nat := timedFuncs t.opcode ++ c.alsoWrites t.opcode t.params

/-- A modify command that may be timed. -/
def modifyT (op : Nat) (l : List PField) (body : Bytes → State → Reply) : Cmd :=
  ⟨op, true, false, timedFuncs op, fun _ => l, noBar, body⟩

/-- The state codes in which a command is accepted (R307, R333, R336). -/
def Cmd.accepted (k : Cmd) : List Nat :=
  let g := k.op / 4096
  if g = 0 then [0, 1, 2, 3, 4, 5, 6, 7]
  else if k.op = 0x1001 then [1, 2, 3, 4, 5, 6, 7]
  else if k.op = 0x1002 ∨ k.op = 0x1004 then [2, 3, 4, 5, 6]
  else if g = 1 then [2, 3, 4, 5, 6, 7]
  else if k.op = 0x2004 then [1, 2, 3, 4, 6]
  else if k.op = 0x2005 then [1, 2, 3, 4, 5, 6, 7]
  else if k.op = 0x2006 then [2, 3, 4, 6]
  else if g = 2 then [1, 2, 3, 4, 5, 6]
  else if k.op = 0x3003 then [2, 3, 4, 5, 6, 7]
  else if g = 3 then [1, 2, 3, 4, 5, 6, 7]
  else if g = 14 ∨ k.query then [2, 3, 4, 5, 6, 7]
  else if g = 12 then [2, 3, 4, 5, 6]
  else [2, 3, 4, 5]

/-- A modify command of groups 0x4-0xA and 0xD: not for a standby, and on the active unit of a duo an input decision
(R332). -/
def Cmd.decision (k : Cmd) : Bool := !k.query && [4, 5, 6, 7, 8, 9, 10, 13].contains (k.op / 4096)

/-- The commands that write entries of their own to the step log (R375). -/
def Cmd.logsItself (k : Cmd) : Bool := [0x7006, 0x7010, 0x900A].contains k.op

/-! ### The request header (R303) -/

/-- A request header. -/
structure Hdr where
  op : Nat
  filMinor : Nat
  filMajor : Nat
  timed : Bool
  lateOk : Bool
  plen : Nat
  tag : Nat
  exec : Nat
  /-- The reserved bits: those of +0x00 and those of +0x18. -/
  res0 : Nat
  res1 : Nat

/-- The header of a slot's buffer; a buffer shorter than it reads zero past its end. -/
def hdrOf (b : Bytes) : Hdr :=
  let w := pn b 0 8
  ⟨bits w 15 0, bits w 23 16, bits w 31 24, w.testBit 32, w.testBit 33, bits w 63 48, pn b 8 8, pn b 16 12, bits w 47 34,
    pn b 0x1C 4⟩

/-- The parameters of a request: PLEN bytes. -/
def paramsOf (b : Bytes) (n : Nat) : Bytes := (slice b 0x20 n ++ List.replicate n 0).take n

/-- The byte offset of the first bad field or reserved bit of a header (R303, R306). `timeable` says that the command
may be timed. -/
def Hdr.bad (h : Hdr) (timeable : Bool) : Option Nat :=
  if h.lateOk && !h.timed || h.timed && !timeable || h.res0 % 64 != 0 then some 4
  else if h.res0 != 0 then some 5
  else if 4064 < h.plen then some 6
  else if h.timed && !timeOk h.exec then some 0x10
  else if h.res1 != 0 then (List.range 4).find? (fun k => h.res1 / 256 ^ k % 256 != 0) |>.map fun k => 0x1C + k
  else none

/-! ### The checks (R306) -/

/-- The first function of a list that is marked INVALID (R318). -/
def Chip.invalidFn (c : Chip) (l : List Nat) : Option Nat := l.find? fun f => c.bitF .MBX_CLAIM_INVALID 0 f

/-- The first function of a list that is claimed (R315). -/
def Chip.claimedFn (c : Chip) (l : List Nat) : Option Nat := l.find? fun f => c.claimed f

/-- The functions that a command with its parameters writes (R315). -/
def Cmd.writes (k : Cmd) (c : Chip) (p : Bytes) : List Nat := k.funcs ++ c.alsoWrites k.op p

/-- The functions that a command acts on: PTP_INST_SET and PTP_INST_DELETE act on TIME though a claim of TIME does not stop
them (R337). -/
def Cmd.acts (k : Cmd) (c : Chip) (p : Bytes) : List Nat :=
  k.writes c p ++ if k.op = 0x400A ∨ k.op = 0x400B then [1] else []

/-- A command is refused by the state (R307, R318): the DETAIL. -/
def Cmd.rejected (k : Cmd) (p : Bytes) (s : State) : Option Nat :=
  if !k.accepted.contains s.chip.fenedState then some 0
  else match s.chip.invalidFn (k.acts s.chip p) with
    | some f => some f
    | none => k.bar p s

/-- The checks from the header to the parameters' layout, in the order of R306: the status and DETAIL of the first that
fails. In RESTRICTED the boot ROM takes any FIL, and every other opcode gets STATE_REJECT (R296). -/
def State.checked (s : State) (h : Hdr) (k? : Option Cmd) (p : Bytes) : Option (Nat × Nat) :=
  let c := s.chip
  match h.bad ((k?.map fun k => k.timed).getD false) with
  | some o => some (rParam, 2 ^ 63 + o)
  | none =>
    match k? with
    | none => some (if c.mbx.fened == .restricted then stReject else stUnsupported, 0)
    | some k =>
      let l := k.lay p
      if c.mbx.fened == .restricted && !k.accepted.contains 1 then some (stReject, 0)
      else if c.mbx.fened != .restricted && k.op != 1 && h.filMajor != c.filNow / 256 then some (stUnsupported, 0)
      else if layBeyond l p then some (stUnsupported, 0)
      else match k.rejected p s with
        | some d => some (stReject, d)
        | none =>
          if k.decision && !c.duoActive then some (stReject, 9)
          else match c.claimedFn (k.writes c p) with
            | some f => some (stClaimed, f)
            | none => (layBad l p).map fun o => (rParam, o)

/-! ### Execution -/

/-- A command that has been done well leaves its mark: DIGEST records of the functions it wrote (R365). -/
def Chip.marked (c : Chip) (l : List Nat) : Chip := l.foldl (fun c f => c.digest f 0) c

/-- The step log of a command that is executed: on the active unit of a duo it is an input decision (R332, R375). -/
def State.logged (s : State) (k : Cmd) (p : Bytes) : State :=
  if k.decision && !k.logsItself then s.on fun c => c.duoLog (.command k.op (packTime s.chip.now) p) else s

/-- An accepted decision that has written no entry of its own to the log is logged as a COMMAND (R332): a cancel with nothing
pending, the stop of an idle cursor, a hand-over that joins a running one. `was` are the entries before it. -/
def State.loggedAfter (s : State) (k : Cmd) (p : Bytes) (was : List StepEntry) : State :=
  if k.logsItself && s.chip.duo.entries == was then s.on fun c => c.duoLog (.command k.op (packTime s.chip.now) p) else s

/-- A command executes. One that fails changes nothing (R306), but for RELEASE, which ends its claim all the same (R317);
one that fails with INTERNAL leaves what its own rule says and no entry in the log, and is reported (R304, R347). -/
def State.execute (s : State) (k : Cmd) (p : Bytes) : Reply :=
  let r := k.body p (s.logged k p)
  if r.status = 0 then
    { r with st := (r.st.loggedAfter k p s.chip.duo.entries).on fun c => c.marked (k.acts s.chip p) }
  else if r.status = stWaits ∨ k.op = 0x1003 then r
  else if r.status = stInternal then 
    { r with st := r.st.on fun c => (c.setDuo { c.duo with entries := s.chip.duo.entries }).report 0xB001 0x50B k.op }
  else { r with st := s.used r.st.chip }

/-- A timer handle that no pending command has (R308): which, a free value says (notes/assumptions/105.md). -/
def Chip.timerHandle (c : Chip) : Nat × Chip := c.choose (c.mbx.timed.map fun t => t.handle) 65536

/-- A timed command (R308, R309, R311). Its parameters are checked at acceptance as its execution would check them. -/
def State.schedule (s : State) (h : Hdr) (k : Cmd) (p : Bytes) : Reply :=
  let c := s.chip
  let at_ := unpackTime h.exec
  let dry := k.body p s
  if dry.status = rParam ∨ dry.status = rNotFound then s.no dry.status dry.detail
  else if at_ ≤ c.now then (if h.lateOk then s.execute k p else s.no rTimePassed 0)
  else if c.now + 86400 * secT < at_ then s.no rParam (2 ^ 63 + 0x10)
  else if 256 ≤ c.mbx.timed.length then s.no rNoResource 0
  else
    let (n, c) := c.timerHandle
    let c := c.setMbx { c.mbx with timed := c.mbx.timed ++ [⟨n, k.op, at_, p⟩] }
    let c := if k.decision || k.op == 0xB005 then c.duoLog (.timed n k.op h.exec p) else c
    ⟨0, n, [], s.withChip c⟩

/-- A request is checked and executed or scheduled (R306). -/
def State.answer (s : State) (h : Hdr) (k? : Option Cmd) (p : Bytes) : Reply :=
  match s.checked h k? p with
  | some (st, d) => s.no st d
  | none =>
    match k? with
    | none => s.no stUnsupported 0
    | some k => if h.timed then s.schedule h k p else s.execute k p

/-! ### Slots (R299-R301) -/

def Chip.slot (c : Chip) (i : Nat) : Slot := c.mbx.slots.getD i Slot.init
def Chip.setSlot (c : Chip) (i : Nat) (x : Slot) : Chip := c.setMbx { c.mbx with slots := setAt c.mbx.slots i x }

/-- A dropped doorbell bit or buffer write (R301). -/
def Chip.slotViol (c : Chip) (off : Nat) : Chip := (c.count 64 .MBX_CNT_SLOT_VIOL 0).report 0xB000 0x508 off

/-- Bytes written to a slot's buffer (R299, R301). -/
def Chip.bufWrite (c : Chip) (i off : Nat) (b : Bytes) : Chip :=
  let x := c.slot i
  if x.st ≠ 0 then c.slotViol (0x11000 + 0x1000 * i + off)
  else
    let old := (x.buf ++ List.replicate 4096 0).take (max x.buf.length (off + b.length))
    c.setSlot i { x with buf := splice old off b }

/-- A slot is posted (R299-R301). -/
def Chip.postSlot (c : Chip) (i : Nat) : Chip :=
  let x := c.slot i
  if x.st ≠ 0 then c.slotViol 0x10018
  else
    let c := c.setSlot i { x with st := 1 }
    c.setMbx { c.mbx with order := c.mbx.order ++ [i] }

/-- A slot is released (R299-R301). -/
def Chip.releaseSlot (c : Chip) (i : Nat) : Chip :=
  let x := c.slot i
  if x.st ≠ 3 then c.slotViol 0x10018 else c.setSlot i { x with st := 0 }

/-- A write of MBX_DOORBELL (R301): every bit is judged against the states before the write. -/
def Chip.wrDoorbell (c : Chip) (data : Nat) : Chip :=
  let was := c
  (List.range 8).foldl (fun c i =>
    let c := if data.testBit (8 + i) then (if (was.slot i).st = 3 then c.releaseSlot i else c.slotViol 0x10018) else c
    if data.testBit i then (if (was.slot i).st = 0 then c.postSlot i else c.slotViol 0x10018) else c) c

/-- The response is written over the request and the slot is DONE (R299, R303). EXEC_US is not modelled: a free value. -/
def Chip.respond (c : Chip) (i : Nat) (h : Hdr) (state status detail : Nat) (data : Bytes) : Chip :=
  let (us, c) := c.fresh
  let w := h.op + status * 2 ^ 16 + state * 2 ^ 24 + data.length * 2 ^ 48
  let resp := toLE 8 w ++ toLE 8 h.tag ++ toLE 8 detail ++ toLE 4 us ++ [0, 0, 0, 0] ++ data
  let x := c.slot i
  let old := (x.buf ++ List.replicate 4096 0).take (max x.buf.length resp.length)
  let c := c.setSlot i ⟨3, splice old 0 resp⟩
  let c := if status = 0 then c else c.count 64 .MBX_CNT_REJECTED 0
  c.raise 0

/-- Fened, or in RESTRICTED the boot ROM, takes commands: not while it is stopped by an activation, a stall or a freeze
(R296, R325, R344), nor while a hand-over copy holds an access of its own (R129). -/
def Chip.serving (c : Chip) : Bool :=
  c.live && c.mbx.isOpen && !c.mbx.stalled && c.mbx.act.isNone && !c.fenedHeld

/-- A freeze that the mailbox asked for starts once the response is written (R344). -/
def Chip.freezeAsked (c : Chip) : Chip := if c.dbg.latchMbx && !c.frozen then c.startFreeze 3 else c

/-- A slot's request is accepted: the slot is BUSY (R299). -/
def Chip.takeSlot (c : Chip) (i : Nat) : Chip :=
  let c := c.setSlot i { c.slot i with st := 2 }
  (c.setMbx { c.mbx with order := c.mbx.order.filter fun x => x != i }).count 64 .MBX_CNT_COMMANDS 0

/-- The request of a BUSY slot is checked, executed and answered (R299, R300). -/
def State.carryOut (s : State) (i : Nat) (find : Nat → Option Cmd) : State :=
  let b := (s.chip.slot i).buf
  let h := hdrOf b
  let state := s.chip.fenedState
  let r := s.answer h (find h.op) (paramsOf b h.plen)
  if r.status = stWaits then r.st.on fun c => c.setDuo { c.duo with asked := some i }
  else r.st.on fun c => (c.respond i h state r.status r.detail r.data).freezeAsked

/-- The port whose hand-over copy holds the accesses of a command to a Berth's registers or to TIDE_PORT_CFG (R129):
BERTH_SET, BERTH_GET, BERTH_RELEASE, TIDE_CFG_SET of the part that WHAT bit 1 selects, and TIDE_GET. A command that
writes STRM waits for the copy of a replica (R405). -/
def Chip.cmdHeldBy (c : Chip) (op : Nat) (k? : Option Cmd) (p : Bytes) : Option Nat :=
  let k := pn p 0 1
  if c.replicaCopy && (match k? with | some x => (x.writes c p).contains 5 | none => false) then some replicaHold
  else if op = 0x7001 then c.copyingOf (pn p 0 4)
  else if op = 0x7002 ∨ op = 0x7003 then c.copyingOf (pn p 0 2)
  else if (op = 0x7004 ∧ (pn p 1 1).testBit 1 = true ∨ op = 0x7007) ∧ (c.port k).hand.isSome = true then some k
  else none

/-- The hand-over copy that a request waits for: one that is only scheduled makes no access yet. -/
def State.heldBy (s : State) (h : Hdr) (k? : Option Cmd) (p : Bytes) : Option Nat :=
  if s.checked h k? p ≠ none ∨ (h.timed && !(h.lateOk && decide (unpackTime h.exec ≤ s.chip.now))) = true then none
  else s.chip.cmdHeldBy h.op k? p

/-- An accepted command whose slot is gone, the mailbox having closed, runs to completion, and its response is not
delivered (R265). -/
def State.carryOrphan (s : State) (req : Bytes) (find : Nat → Option Cmd) : State :=
  let h := hdrOf req
  let r := s.answer h (find h.op) (paramsOf req h.plen)
  if r.status = stWaits then r.st.on fun c => c.setDuo { c.duo with asked := some 8 }
  else r.st.on Chip.freezeAsked

/-- A slot's request is accepted (R299, R300): it is carried out, or it waits for a hand-over copy that holds an access of
it (R129). `find` names the command of an opcode. -/
def State.accept (s : State) (i : Nat) (find : Nat → Option Cmd) : State :=
  let b := (s.chip.slot i).buf
  let h := hdrOf b
  let s := s.on fun c => c.takeSlot i
  match s.heldBy h (find h.op) (paramsOf b h.plen) with
  | some p => s.on fun c => c.holdAcc p (.slot i)
  | none => s.carryOut i find

/-- A DUO_JOIN whose peer has not answered fails (R388), with the PEER record of its attempt (R394); so it does not hold up
the commands behind it. -/
def State.joinUnanswered (s : State) : State :=
  match s.chip.duo.asked with
  | none => s
  | some i => s.on fun c =>
    let c := (c.setDuo { c.duo with asked := none }).peerRecord
    if (c.slot i).st = 2 then c.respond i (hdrOf (c.slot i).buf) c.fenedState rNotFound 0 [] else c

/-- The host driver's request: the header and parameters as they stand in the buffer (R303). -/
def reqBytes (r : Req) (op : Nat) : Bytes :=
  let w := op % 2 ^ 16 + r.filMinor % 256 * 2 ^ 16 + r.filMajor % 256 * 2 ^ 24 + bit r.timed * 2 ^ 32 +
    bit r.lateOk * 2 ^ 33 + r.params.length % 2 ^ 16 * 2 ^ 48
  toLE 8 w ++ toLE 8 r.tag ++ toLE 12 r.execTime ++ [0, 0, 0, 0] ++ r.params

end Sys2Proof.Machine
end

