-- ==== Sys2Proof/Machine/CmdSys.lean ====
section
/-!
DEFINITION. Machine/CmdSys.lean: the commands of groups 0x0 identify, 0x1 system, 0x2 firmware and 0x3 Saffron record
(R333-R336), and the activation of an image (R323-R325).
-/
namespace Sys2Proof.Machine

/-- Registers of an instance as a response carries them. -/
def State.regBytes (s : State) (b : Block) (l : List Reg) (i : Nat) : Bytes :=
  l.flatMap fun r => toLE (((r.desc? b).map fun d => d.width / 8).getD 8) (s.reg b r i)

/-- A 96-bit time in a time field (R327). -/
def time16 (t : Nat) : Bytes := toLE 16 t

/-! ### Group 0x0 -/

/-- The populated groups, bit g (R2). -/
def Chip.populatedMap (c : Chip) : Nat := ((List.range 32).map fun g => bit (c.populated g) * 2 ^ g).sum

/-- IDENTIFY (R296, R333). -/
def cmdIdentify : Cmd := query 0x0001 [] fun _ s =>
  let c := s.chip
  let up := c.mbx.fened == .up
  s.ok (layOut 64 [(0, 2, 0x1DA7), (2, 2, if c.ident.half then 0x2560 else 0x5120), (4, 1, 0xB0),
    (5, 1, if up then c.fld .MBX_STATUS_SLOT 0 else 0xFF), (6, 2, c.filNow), (8, 8, c.ident.serial),
    (16, 8, if up then c.fld .MBX_FW_VER_VERSION 0 else 0), (24, 4, c.populatedMap), (28, 2, c.ident.secMin),
    (30, 1, c.fld .DUO_STATUS_RANK 0)])

/-- GET_STATE (R333). -/
def cmdGetState : Cmd := query 0x0002 [] fun _ s =>
  let c := s.chip
  let flags := c.fld .TIME_STATUS_VALID 0 + 2 * c.fld .TIME_STATUS_SUSPECT 0 + 4 * c.fld .MBX_STATUS_FALLBACK 0 +
    8 * bit (decide (c.fld .FLT_STATUS_STATE 0 ≠ 0))
  s.ok (layOut 40 [(0, 1, c.fenedState), (1, 1, c.fld .DUO_STATUS_STATE 0), (2, 1, c.fld .DUO_STATUS_ROLE 0),
    (3, 1, c.fld .TIME_STATUS_SERVO_STATE 0), (4, 4, flags), (8, 4, c.fld .FLT_RECOVERIES_TOTAL 0),
    (12, 2, c.mbx.timed.length), (14, 2, c.fld .MBX_CLAIM_CLAIMED 0), (16, 2, c.fld .MBX_CLAIM_INVALID 0),
    (24, 16, packTime c.now)])

/-! ### Activation (R323-R325) -/

/-- The slot that runs, if an image runs (R324). -/
def Chip.running (c : Chip) (k : Nat) : Bool := c.mbx.fened == .up && c.fld .MBX_STATUS_SLOT 0 == k

/-- The slot to return to when an activation fails; 2 if none ran. -/
def Chip.runningSlot (c : Chip) : Nat := if c.mbx.fened == .up then c.fld .MBX_STATUS_SLOT 0 else 2

/-- Welcor stops for a restart from a slot (R325 steps 1 and 2): the change to BOOT is queued before. -/
def Chip.welcorStop (c : Chip) (slot : Nat) : Chip :=
  let old := c.mbx.shown
  let prev := c.runningSlot
  let c := c.event 0x0001 (toLE 1 old ++ toLE 1 0)
  c.setMbx { c.mbx with shown := 0, fened := .boot, stalled := false, act := some ⟨slot, prev, false, false⟩ }

/-! ### Group 0x1 -/

/-- RESET (R298, R334). -/
def cmdReset : Cmd := modify 0x1001 [] [pf 0 1, pf 4 4] fun p s =>
  let scope := pn p 0 1
  let confirm := pn p 4 4
  if 2 < scope then s.no rParam 0
  else if confirm ≠ (if scope = 2 then 0x52535431 else 0) then s.no rParam 4
  else if scope = 0 then (s.on Chip.clearLatch).ok []
  else if scope = 2 then (s.on fun c => c.setPwr { c.pwr with unitReset := true }).ok []
  else if s.chip.mbx.fened == .restricted then (s.on fun c => c.setMbx { c.mbx with fened := .boot }).ok []
  else (s.on fun c => c.welcorStop (c.fld .MBX_STATUS_SLOT 0)).ok []

/-- The button sequences of both slots end: the host runs the slots from here on (R272, R315). -/
def Chip.slotsRest (c : Chip) : Chip := [0, 1].foldl (fun c k => c.setButton k none) c

/-- CLAIM (R314, R315, R316). -/
def cmdClaim : Cmd :=
  { modify 0x1002 [] [pf 0 1] (fun p s =>
      let f := pn p 0 1
      if 10 < f then s.no rParam 0
      else if s.chip.claimed f then s.ok []
      else if s.chip.mbx.timed.any fun t => (t.writes s.chip).contains f then s.no rInUse 0
      else (s.on fun c => (if f = 8 then c.slotsRest else c).setBitF .MBX_CLAIM_CLAIMED 0 f true).ok []) with
    bar := fun p s =>
      let f := pn p 0 1
      if s.chip.duoState ≠ 0 ∧ f ≤ 10 ∧ f ≠ 0 ∧ f ≠ 8 then some 0 else none }

/-- RELEASE (R317, R318). -/
def cmdRelease : Cmd := modify 0x1003 [] [pf 0 1] fun p s =>
  let f := pn p 0 1
  if 10 < f then s.no rParam 0
  else if !s.chip.claimed f then s.ok (layOut 1 [(0, 1, bit (!s.chip.bitF .MBX_CLAIM_INVALID 0 f))])
  else
    let (bad, c) := s.chip.endClaim f 5
    match bad with
    | none => (s.withChip c).ok (layOut 1 [(0, 1, 1)])
    | some off => ⟨rParam, off, layOut 1 [], s.withChip c⟩

/-- A timed command is no longer pending (R309, R310). -/
def Chip.untime (c : Chip) (handle : Nat) : Chip :=
  c.setMbx { c.mbx with timed := c.mbx.timed.filter fun x => x.handle != handle }

/-- The outcome of a timed command is queued (R309, R310). -/
def Chip.timedEvent (c : Chip) (handle opcode status : Nat) : Chip :=
  c.event 0x0002 (toLE 2 handle ++ toLE 2 opcode ++ toLE 1 status)

/-- A timed command ends: it is no longer pending, and TIMED_DONE is queued (R309, R310). -/
def Chip.timedDone (c : Chip) (t : Timed) (status : Nat) : Chip :=
  (c.untime t.handle).timedEvent t.handle t.opcode status

/-- CANCEL_TIMED (R310). -/
def cmdCancelTimed : Cmd := modify 0x1004 [] [pf 0 2] fun p s =>
  match s.chip.mbx.timed.find? fun t => t.handle == pn p 0 2 with
  | none => s.no rNotFound 0
  | some t => (s.on fun c => c.timedDone t stCancelled).ok []

/-- A pending timed command comes before another: the earlier EXEC_TIME, then the earlier acceptance (R309). -/
def insertTimed (t : Timed) : List Timed → List Timed
  | [] => [t]
  | x :: r => if t.at_ < x.at_ then t :: x :: r else x :: insertTimed t r

/-- Pending timed commands in the order of their execution. -/
def Chip.timedOrder (c : Chip) : List Timed := c.mbx.timed.foldl (fun l t => insertTimed t l) []

/-- LIST_TIMED (R333): FIRST counts along the order of execution. -/
def cmdListTimed : Cmd := query 0x1005 [pf 0 2] fun p s =>
  let l := (s.chip.timedOrder.drop (pn p 0 2)).take 128
  s.ok (toLE 2 l.length ++ toLE 2 s.chip.mbx.timed.length ++ toLE 4 0 ++
    l.flatMap fun t => toLE 2 t.handle ++ toLE 2 t.opcode ++ toLE 4 0 ++ time16 (packTime t.at_))

/-! ### Group 0x2 -/

/-- FW_BEGIN (R323, R335). -/
def cmdFwBegin : Cmd := modify 0x2001 [] [pf 0 1] fun p s =>
  let k := pn p 0 1
  if 1 < k then s.no rParam 0
  else if s.chip.running k && s.chip.slotReason (s.chip.fwSlot (1 - k)) != 0 then s.no rInUse 0
  else (s.on fun c => c.setFw k ⟨[], List.replicate 512 0xFF, 0, 0⟩).ok []

/-- The parameters of FW_WRITE: DATA is LEN bytes long. -/
def fwWriteLay (p : Bytes) : List PField :=
  let n := pn p 8 2
  [pf 0 1, pf 4 4, pf 8 2, pf 16 (if 4 ≤ n ∧ n ≤ 4032 then n else p.length - 16)]

/-- A piece covers some of the bytes from an offset. -/
def pieceHits (off n : Nat) (p : Nat × Bytes) : Bool := decide (p.1 < off + n) && decide (off < p.1 + p.2.length)

/-- Bytes written to a firmware slot (R335). -/
def FwSlot.write (x : FwSlot) (off : Nat) (b : Bytes) : FwSlot :=
  { pieces := x.pieces ++ [(off, b)], header := if off < 512 then splice x.header off (b.take (512 - off)) else x.header,
    st := if x.st ≤ 1 then 1 else 4, reason := 0 }

/-- FW_WRITE (R306, R323, R335). A slot that still holds what it held before any FW_BEGIN takes no byte.
DESIGN CHOICE: PARAM (notes/assumptions/17.md). -/
def cmdFwWrite : Cmd := ⟨0x2002, false, false, [], fwWriteLay, noBar, fun p s =>
  let k := pn p 0 1
  let off := pn p 4 4
  let n := pn p 8 2
  let x := s.chip.fwSlot k
  if 1 < k then s.no rParam 0
  else if n < 4 ∨ 4032 < n ∨ n % 4 ≠ 0 then s.no rParam 8
  else if off % 4 ≠ 0 ∨ 33554432 < off + n then s.no rParam 4
  else if x.pieces.any (pieceHits off n) then s.no rParam 4
  else if s.chip.running k then s.no rInUse 0
  else if x.pieces.isEmpty && x.header != List.replicate 512 0xFF then s.no rParam 4
  else (s.on fun c => c.setFw k (x.write off (slice p 16 n))).ok []⟩

/-- FW_VERIFY (R294, R323, R335). -/
def cmdFwVerify : Cmd := modify 0x2003 [] [pf 0 1] fun p s =>
  let k := pn p 0 1
  if 1 < k then s.no rParam 0
  else if s.chip.running k then s.no rInUse 0
  else
    let (r, c) := s.chip.checkSlot k
    (s.withChip c).ok (toLE 1 (bit (r == 0)) ++ toLE 1 r ++ List.replicate 14 0 ++ slice (c.fwSlot k).header 0 32)

/-- The image does not combine with the duo peer (R324). -/
def Chip.peerDiffers (c : Chip) (x : FwSlot) : Bool :=
  match c.duo.peer with
  | some q => decide (c.duoState ≠ 0) && (q.filMajor != x.fil / 256 || q.stepLog != x.stepLog)
  | none => false

/-- FW_ACTIVATE (R324, R325). -/
def cmdFwActivate : Cmd :=
  { modify 0x2004 [] [pf 0 1] (fun p s =>
      let k := pn p 0 1
      let c := s.chip
      if 1 < k then s.no rParam 0
      else if (c.fwSlot k).st ≠ 2 ∨ c.slotReason (c.fwSlot k) ≠ 0 then s.no stBadImage 0
      else if c.fld .MBX_CLAIM_CLAIMED 0 ≠ 0 ∨ c.mbx.timed ≠ [] then s.no rInUse 0
      else if c.peerDiffers (c.fwSlot k) then s.no stIncompatible 0
      else (s.on fun c => c.welcorStop k).ok []) with
    bar := fun _ s => if s.chip.duoState = 2 ∧ s.chip.duoActive then some 0 else none }

/-- A slot as FW_QUERY shows it (R333). -/
def FwSlot.shown (x : FwSlot) : Bytes :=
  toLE 1 x.st ++ toLE 1 x.reason ++ toLE 2 x.fil ++ toLE 2 x.stepLog ++ toLE 2 x.secVer ++ toLE 8 x.version

/-- FW_QUERY (R333, R335). -/
def cmdFwQuery : Cmd := query 0x2005 [] fun _ s =>
  let c := s.chip
  s.ok (toLE 2 (if c.mbx.fened == .up then c.fld .MBX_STATUS_SLOT 0 else 0xFF) ++ toLE 2 c.ident.secMin ++ toLE 4 0 ++
    c.mbx.fwA.shown ++ c.mbx.fwB.shown)

/-- FW_SET_MIN_SEC (R294, R335, R365). -/
def cmdFwSetMinSec : Cmd := modify 0x2006 [] [pf 0 2, pf 4 4] fun p s =>
  let v := pn p 0 2
  let old := s.chip.ident.secMin
  if pn p 4 4 ≠ 0x53454331 then s.no rParam 4
  else if v < old ∨ leNat (slice s.chip.mbx.image 0x14 2) < v then s.no rParam 0
  else if v = old then s.ok []
  else (s.on fun c => { c with ident := { c.ident with secMin := v } }.submit 0 5 2 (toLE 2 old ++ toLE 2 v) true).ok []

/-! ### Group 0x3 -/

/-- SAFF_INFO (R336). -/
def cmdSaffInfo : Cmd := query 0x3001 [] fun _ s =>
  let one (k : Nat) : Bytes :=
    toLE 4 (s.showF .SAFF_SECT_CAPACITY k) ++ toLE 4 (s.mram.kept k) ++ toLE 4 (s.mram.newest k)
  s.ok (((List.range 5).flatMap fun k => one k ++ toLE 4 0) ++ one 5)

/-- Where a read of a section begins: a record that has been overwritten gives way to the oldest kept (R336). -/
def Mram.readFrom (m : Mram) (k first : Nat) : Nat :=
  let next := (m.sect k).nextSeq
  let old := m.oldest k
  let back := (next + 2 ^ 32 - first) % 2 ^ 32
  let span := (next + 2 ^ 32 - old) % 2 ^ 32
  if m.kept k = 0 ∨ back ≤ span ∨ 2 ^ 31 ≤ back then first else old

/-- Records of a section from a sequence number up to the newest, at most n; invalid ones are skipped (R363). -/
def Mram.readMany (m : Mram) (k : Nat) : Nat → Nat → Nat → List Bytes
  | 0, _, _ => []
  | fuel + 1, seq, n =>
    if n = 0 ∨ seq = (m.sect k).nextSeq then []
    else
      match m.find k seq with
      | some b => b :: m.readMany k fuel ((seq + 1) % 2 ^ 32) (n - 1)
      | none => m.readMany k fuel ((seq + 1) % 2 ^ 32) n

/-- What a read of n records from a sequence number on returns: the first sequence number, and the records (R336). -/
def Mram.readAt (m : Mram) (k seq n : Nat) : Nat × List Bytes :=
  let first := m.readFrom k seq
  let back := ((m.sect k).nextSeq + 2 ^ 32 - first) % 2 ^ 32
  (first, if 2 ^ 31 ≤ back then [] else m.readMany k (min back (2 * sectCap k)) first n)

/-- SAFF_READ (R336). -/
def cmdSaffRead : Cmd := query 0x3002 [pf 0 1, pf 4 4, pf 8 1] fun p s =>
  let k := pn p 0 1
  let n := pn p 8 1
  if 5 < k then s.no rParam 0
  else if n < 1 ∨ 63 < n then s.no rParam 8
  else
    let (first, l) := s.mram.readAt k (pn p 4 4) n
    s.ok (toLE 4 first ++ toLE 4 l.length ++ l.flatten)

/-- SAFF_CLEAR (R336, R367). -/
def cmdSaffClear : Cmd := modify 0x3003 [] [pf 0 1, pf 4 4] fun p s =>
  let k := pn p 0 1
  if 4 < k then s.no rParam 0
  else if pn p 4 4 ≠ 0x434C5231 then s.no rParam 4
  else (s.saffClear k).ok []

end Sys2Proof.Machine
end

