-- ==== Sys2Proof/Machine/CmdTime.lean ====
section
/-!
DEFINITION. Machine/CmdTime.lean: the commands of group 0x4, time and PTP (R337, R338).
-/
namespace Sys2Proof.Machine

/-- TIME_GET (R337). -/
def cmdTimeGet : Cmd := query 0x4001 [] fun _ s =>
  s.ok (layOut 48 [(0, 16, packTime s.chip.now), (16, 4, s.reg .TIME .TIME_STATUS 0), (24, 8, s.reg .TIME .TIME_EVT_CNT 0),
    (32, 8, s.reg .TIME .TIME_VOTE_CNT 0), (40, 8, s.reg .TIME .TIME_INCR 0)])

/-- TIME_LOAD (R60, R337). -/
def cmdTimeLoad : Cmd := modify 0x4002 [1] [pt 0] fun p s =>
  let v := pn p 0 12
  if !timeOk v then s.no rParam 0
  else if s.chip.time.held.isSome then s.no rLocked 0
  else
    let s := s.on fun c => (c.setF .TIME_LOAD_LOAD 0 (v % 2 ^ 64)).setF .TIME_LOAD_HI_LOAD_HI 0 (v / 2 ^ 64)
    (s.timeAsk .load).ok []

/-- TIME_STEP (R60, R337). -/
def cmdTimeStep : Cmd := modify 0x4003 [1] [pr 0 .TIME .TIME_ADJ_OFS] fun p s =>
  if s.chip.time.held.isSome then s.no rLocked 0
  else ((s.on fun c => c.setF .TIME_ADJ_OFS_OFS 0 (pn p 0 8)).timeAsk .step).ok []

/-- TIME_CFG (R81, R337). -/
def cmdTimeCfg : Cmd :=
  modify 0x4004 [1] [pr 0 .TIME .TIME_SERVO_CFG, pr 8 .TIME .TIME_CHECK_CFG, pr 16 .TIME .TIME_PPS_CFG] fun p s =>
    if !servoCfgOk (pn p 0 8) then s.no rParam 0
    else if !checkCfgOk (pn p 8 8) then s.no rParam 8
    else if !ppsCfgOk (pn p 16 8) then s.no rParam 16
    else (s.on fun c =>
      let c := c.writeFields (regFields .TIME .TIME_SERVO_CFG) 0 (pn p 0 8)
      (c.writeFields (regFields .TIME .TIME_CHECK_CFG) 0 (pn p 8 8)).wrPpsCfg (pn p 16 8)).ok []

/-- TIME_SRC_SET (R72, R337). -/
def cmdTimeSrcSet : Cmd := modifyT 0x4005 [pf 0 1, pf 1 1, pf 2 1] fun p s =>
  let k := pn p 0 1
  if 8 < k then s.no rParam 0
  else if 1 < pn p 1 1 then s.no rParam 1
  else if 15 < pn p 2 1 then s.no rParam 2
  else (s.on fun c =>
    ((c.setF .TIME_SRC_ENABLE k (pn p 1 1)).setF .TIME_SRC_PRIORITY k (pn p 2 1)).appears k (c.takesPart k)).ok []

/-- TIME_SRC_READMIT (R75). -/
def cmdTimeSrcReadmit : Cmd := modify 0x4006 [1] [pf 0 1] fun p s =>
  if 8 < pn p 0 1 then s.no rParam 0 else (s.on fun c => c.readmit (pn p 0 1)).ok []

/-- TIME_SRC_GET (R337). -/
def cmdTimeSrcGet : Cmd := query 0x4007 [pf 0 1] fun p s =>
  let k := pn p 0 1
  if 8 < k then s.no rParam 0
  else s.ok (layOut 32 [(0, 8, s.reg .TIME .TIME_SRC_00 k), (8, 8, s.reg .TIME .TIME_SRC_08 k),
    (16, 8, s.reg .TIME .TIME_SRC_10 k), (24, 8, s.reg .TIME .TIME_SRC_18 k)])

/-- TIME_PORT_SET (R66, R71, R337): INST stays as PTP_INST_SET has set it. -/
def cmdTimePortSet : Cmd := modify 0x4008 [1] [pf 0 1, pr 8 .TIME .TIME_PORT_ASYM, pr 16 .TIME .TIME_PORT_CFG] fun p s =>
  let k := pn p 0 1
  let w := pn p 16 4
  if !s.chip.portValid k then s.no rParam 0
  else (s.on fun c => ((c.setF .TIME_PORT_ASYM_ASYM k (pn p 8 8)).setB .TIME_PORT_CFG_RTC_EN k (w.testBit 31)).setB
    .TIME_PORT_CFG_P2P_ADD_LINK k (w.testBit 30)).ok []

/-- TIME_CLEAR_SUSPECT (R56). -/
def cmdTimeClearSuspect : Cmd := modify 0x4009 [1] [] fun _ s =>
  (s.on fun c => (c.setB .TIME_STATUS_SUSPECT 0 false).noteClass).ok []

/-! ### PTP instances (R65, R66, R338) -/

/-- The parameters of PTP_INST_SET. -/
def ptpLay : List PField := ((List.range 10).map fun k => pf k 1) ++ [pf 10 2, pf 16 32]

/-- A signed byte lies within a range. -/
def logIn (v : Nat) (lo hi : Int) : Bool := decide (lo ≤ asInt 8 v) && decide (asInt 8 v ≤ hi)

/-- The first bad parameter of PTP_INST_SET but for the instance and its ports. -/
def ptpBad (p : Bytes) : Option Nat :=
  if 3 < pn p 1 1 then some 1
  else if pn p 1 1 = 2 ∧ 127 < pn p 2 1 then some 2
  else if 2 < pn p 3 1 then some 3
  else if !logIn (pn p 4 1) (-7) 4 then some 4
  else if !logIn (pn p 5 1) (-7) 4 then some 5
  else if !logIn (pn p 6 1) (-3) 4 then some 6
  else if 2 < pn p 7 1 then some 7
  else if 4095 < pn p 10 2 then some 10
  else none

/-- A port that an instance may not take (R5, R66). -/
def Chip.ptpPortBad (c : Chip) (i : Nat) (p : Bytes) : Option Nat :=
  (portsOf p).find? fun k => !c.portValid k || !([i, 15].contains (c.fld .TIME_PORT_CFG_INST k))

/-- The instance that PTP_INST_SET names, or the lowest free one; 8 if none is free (R330). -/
def Chip.ptpNumber (c : Chip) (n : Nat) : Nat := if n = 0xFF then freeFrom (c.time.inst.map fun e => e.1) 8 0 else n

/-- PTP_INST_SET (R66, R330, R338). -/
def cmdPtpInstSet : Cmd := modify 0x400A [] ptpLay fun p s =>
  let n := pn p 0 1
  let i := s.chip.ptpNumber n
  if n ≠ 0xFF ∧ 7 < n then s.no rParam 0
  else match ptpBad p with
    | some o => s.no rParam o
    | none =>
      match s.chip.ptpPortBad i p with
      | some k => s.no rParam (16 + k / 8)
      | none => if 7 < i then s.no rNoResource 0 else (s.on fun c => c.ptpSet i p).ok (toLE 1 i)

/-- PTP_INST_DELETE (R337). -/
def cmdPtpInstDelete : Cmd := modify 0x400B [] [pf 0 1] fun p s =>
  let i := pn p 0 1
  if 7 < i then s.no rParam 0
  else if (kFind s.chip.time.inst i).isNone then s.no rNotFound 0
  else (s.on fun c => c.ptpDrop i).ok []

/-- PTP_INST_GET (R337, R338). -/
def cmdPtpInstGet : Cmd := query 0x400C [pf 0 1] fun p s =>
  let i := pn p 0 1
  if 7 < i then s.no rParam 0
  else match kFind s.chip.time.inst i with
    | none => s.no rNotFound 0
    | some x =>
      let ps := portsOf x.cfg
      s.ok (x.cfg ++ toLE 8 x.gmId ++ toLE 2 x.stepsRemoved ++ toLE 1 x.slavePort ++ toLE 1 x.gmClass ++ toLE 4 0 ++
        (List.range 256).flatMap fun k => toLE 1 (if ps.contains k then x.stateOf k else 0xFF))

end Sys2Proof.Machine
end

