-- ==== Sys2Proof/Machine/CmdPort.lean ====
section
/-!
DEFINITION. Machine/CmdPort.lean: the commands of groups 0x5 ports, 0x6 streams and 0x7 Berths and Tide Tables (R339).
-/
namespace Sys2Proof.Machine

/-- The bytes after a count that is out of its range: they are not parsed. -/
def restField (p : Bytes) (off : Nat) : PField := pf off (p.length - off)

/-- n fields of one kind, one after another. -/
def fieldsAt (off n size : Nat) (l : List (Nat × Nat)) : List PField :=
  (List.range n).map fun k => pk (off + size * k) size l

/-- A command on a valid port whose quadrant is on; writes to an off quadrant are ignored (R5, R451). -/
def State.onPort (s : State) (k : Nat) (f : Reply) : Reply :=
  if !s.chip.portValid k then s.no rParam 0 else if !s.chip.domainOn (40 + quadOfPort k) then s.ok [] else f

/-! ### Group 0x5 -/

/-- PORT_GROUP_SET (R165, R171, R339, R403): an engine that is enabled has its domain switched on first. -/
def cmdPortGroupSet : Cmd :=
  modifyT 0x5001 [pf 0 1, pr 4 .PORT .PORT_GRP_CFG, pr 8 .PORT .PORT_LASER_CFG] fun p s =>
    let g := pn p 0 1
    let cfg := pn p 4 4
    let las := pn p 8 4
    let c := s.chip
    let on := cfg.testBit 31 && !c.is .PORT_GRP_CFG_ENGINE_EN g && !c.domainOn g
    if !c.populated g then s.no rParam 0
    else if asInt 16 (bits las 31 16) ≤ asInt 16 (bits las 15 0) then s.no rParam 8
    else if !c.domainOn (40 + quadOf g) then s.ok []
    else
      let c := if on then (c.switchOn g).domainReady g else c
      let code := c.grpCode g cfg
      if code ≠ rOK then s.no code (if code = rParam then 4 else 0)
      else (s.withChip ((c.wrLaserCfg g las).wrGrpCfg g cfg)).ok []

/-- PORT_SET (R177, R179, R339). -/
def cmdPortSet : Cmd :=
  modifyT 0x5002 [pf 0 1, pr 8 .PORT .PORT_CFG, pr 16 .PORT .PORT_FEC_CFG, pr 20 .PORT .PORT_MM_CFG] fun p s =>
    let k := pn p 0 1
    let cfg := pn p 8 8
    let fec := pn p 16 4
    let mm := pn p 20 4
    if !s.chip.portValid k then s.no rParam 0
    else if bits cfg 45 32 < 64 ∨ 9728 < bits cfg 45 32 then s.no rParam 8
    else if bits fec 31 16 ≤ bits fec 15 0 then s.no rParam 16
    else if bits mm 23 16 = 0 ∨ 128 < bits mm 23 16 then s.no rParam 20
    else if !s.chip.domainOn (40 + quadOfPort k) then s.ok []
    else (s.on fun c => ((c.wrFecCfg k fec).wrMmCfg k (mm % 2 ^ 29 + mm / 2 ^ 30 * 2 ^ 30)).wrPortCfg k cfg).ok []

/-- The counters of a port. -/
def portCnts : List Reg :=
  [.PORT_CNT_00, .PORT_CNT_08, .PORT_CNT_10, .PORT_CNT_18, .PORT_CNT_20, .PORT_CNT_28, .PORT_CNT_30, .PORT_CNT_38,
   .PORT_CNT_40, .PORT_CNT_48, .PORT_CNT_50, .PORT_CNT_58, .PORT_CNT_60, .PORT_CNT_68, .PORT_CNT_70, .PORT_CNT_78,
   .PORT_CNT_80, .PORT_CNT_88, .PORT_CNT_90, .PORT_CNT_98]

/-- PORT_GET (R339). -/
def cmdPortGet : Cmd := query 0x5003 [pf 0 1] fun p s =>
  let k := pn p 0 1
  if !s.chip.portValid k then s.no rParam 0
  else s.ok (s.regBytes .PORT ([.PORT_STATUS, .PORT_MM_STATUS, .PORT_CFG, .PORT_FEC_CFG, .PORT_MM_CFG] ++ portCnts) k)

/-- PORT_GROUP_GET (R339). -/
def cmdPortGroupGet : Cmd := query 0x5004 [pf 0 1] fun p s =>
  let g := pn p 0 1
  if !s.chip.populated g then s.no rParam 0
  else s.ok (s.regBytes .PORT [.PORT_GRP_CFG, .PORT_LASER_CFG, .PORT_GRP_STATUS, .PORT_GRP_CNT] g ++
    (List.range 8).flatMap fun l => toLE 8 (s.reg .PORT .PORT_LANE_00 (8 * g + l)) ++
      toLE 8 (s.reg .PORT .PORT_LANE_08 (8 * g + l)))

/-- MM_RESTART (R179): as a write of PORT_MM_CFG with RESTART set. -/
def cmdMmRestart : Cmd := modify 0x5005 [2] [pf 0 1] fun p s =>
  let k := pn p 0 1
  s.onPort k ((s.on fun c => c.wrMmCfg k (s.reg .PORT .PORT_MM_CFG k + 2 ^ 29)).ok [])

/-! ### Group 0x6 -/

/-- PROFILE_SET (R88, R89, R108). -/
def cmdProfileSet : Cmd := modify 0x6001 [5] [pf 0 1, pr 8 .STRM .STRM_PROFILE] fun p s =>
  let n := pn p 0 1
  if 15 < n then s.no rParam 0
  else if !profOk (pn p 8 8) then s.no rParam 8
  else if s.chip.profUsed n then s.no rInUse 0
  else (s.on fun c => c.applyProfile n (pn p 8 8)).ok []

/-- PORT_LOOKUP_SET (R88, R93, R97). -/
def cmdPortLookupSet : Cmd := modify 0x6002 [5] [pf 0 1, pr 8 .STRM .STRM_PORT_CFG] fun p s =>
  let k := pn p 0 1
  if !s.chip.portValid k then s.no rParam 0
  else if !s.chip.strmPortOk k (pn p 8 8) then s.no rParam 8
  else (s.on fun c => c.wrStrmPort k (pn p 8 8)).ok []

/-- All ones in a 32-bit parameter asks for allocation (R330). -/
def askFree : Nat := 0xFFFFFFFF

/-- The lowest handle that is not valid; 65,536 if none is free (R330). -/
def Chip.lowestHandle (c : Chip) : Nat :=
  freeFrom ((c.strm.handles.filter fun e => e.2.valid).map fun e => e.1) 65536 0

/-- HANDLE_CREATE (R2, R19, R85, R330, R339). -/
def cmdHandleCreate : Cmd := modify 0x6003 [5] [pf 0 4, pf 4 1, pf 5 1, pk 8 32 handleBits] fun p s =>
  let h := if pn p 0 4 = askFree then s.chip.lowestHandle else pn p 0 4
  let home := pn p 5 1
  let q := if home = 0xFF then quadOfPort (pn p 4 1) else home
  if 65535 < pn p 0 4 ∧ pn p 0 4 ≠ askFree then s.no rParam 0
  else if !s.chip.portValid (pn p 4 1) then s.no rParam 4
  else if 3 < q then s.no rParam 5
  else if 65535 < h && (s.chip.handleCreate h q (pn p 8 32)).1 == rOK then s.no rNoResource 0
  else s.op (s.chip.handleCreate h q (pn p 8 32)) 8 fun _ => toLE 4 h

/-- A command on a handle: its number is in range (R330). -/
def State.onHandle (s : State) (p : Bytes) (f : Nat → Reply) : Reply :=
  if 65535 < pn p 0 4 then s.no rParam 0 else f (pn p 0 4)

/-- HANDLE_WRITE (R84, R106, R339). -/
def cmdHandleWrite : Cmd := modifyT 0x6004 [pf 0 4, pk 8 32 handleBits] fun p s =>
  s.onHandle p fun h => s.op (s.chip.handleRewrite h (pn p 8 32)) 8 fun _ => []

/-- HANDLE_DELETE (R85). -/
def cmdHandleDelete : Cmd := modify 0x6005 [5] [pf 0 4] fun p s =>
  s.onHandle p fun h => s.op (s.chip.handleDelete h) 0 fun _ => []

/-- KEY_INSERT (R83). -/
def cmdKeyInsert : Cmd := modify 0x6006 [5] [pk 0 56 keyBits] fun p s =>
  s.op (s.chip.keyInsert (pn p 0 56)) 0 fun _ => []

/-- KEY_DELETE (R84): HANDLE is ignored. -/
def cmdKeyDelete : Cmd := modify 0x6007 [5] [pk 0 56 keyBits] fun p s =>
  s.op (s.chip.keyDelete (pn p 0 56)) 0 fun _ => []

/-- KEY_LOOKUP (R108). -/
def cmdKeyLookup : Cmd := query 0x6008 [pk 0 56 keyBits] fun p s =>
  let (code, h) := s.chip.keyLookup (pn p 0 56)
  if code = rOK then s.ok (toLE 4 h) else s.no code 0

/-- The parameters of EGRESS_SET. -/
def egressLay (p : Bytes) : List PField :=
  let n := pn p 4 2
  [pf 0 4, pf 4 2] ++ if n ≤ 256 then fieldsAt 8 n 4 [(31, 24), (15, 0)] else [restField p 8]

/-- EGRESS_SET (R94, R97, R98, R200, R223). -/
def cmdEgressSet : Cmd := ⟨0x6009, true, false, timedFuncs 0x6009, egressLay, noBar, fun p s =>
  let n := pn p 4 2
  s.onHandle p fun h =>
    if 256 < n then s.no rParam 4
    else s.op (s.chip.egressSet h ((List.range n).map fun k => pn p (8 + 4 * k) 4)) 8 fun _ => []⟩

/-- METER_SET (R104-R106). -/
def cmdMeterSet : Cmd := modifyT 0x600A [pf 0 4, pk 8 24 meterBits] fun p s =>
  if 65535 < pn p 0 4 then s.no rParam 0
  else s.op (s.chip.meterWrite (pn p 0 4) (pn p 8 24)) 8 fun _ => []

/-- GATE_CFG_SET (R102, R103, R339). -/
def cmdGateCfgSet : Cmd := modify 0x600B [5] [pf 0 2, pk 8 48 gateCfgBits] fun p s =>
  if 4095 < pn p 0 2 then s.no rParam 0
  else s.op (s.chip.gateCfgWrite (pn p 0 2) (pn p 8 48) true) 8 fun _ => []

/-- The parameters of GATE_LIST_WRITE. -/
def gateListLay (p : Bytes) : List PField :=
  let n := pn p 4 2
  [pf 0 2, pf 2 2, pf 4 2] ++ if n ≤ 128 then fieldsAt 16 n 16 gateEntryBits else [restField p 16]

/-- GATE_LIST_WRITE (R103). -/
def cmdGateListWrite : Cmd := ⟨0x600C, false, false, [5], gateListLay, noBar, fun p s =>
  let n := pn p 4 2
  let first := pn p 2 2
  if 4095 < pn p 0 2 then s.no rParam 0
  else if n < 1 ∨ 128 < n then s.no rParam 4
  else if 256 < first + n then s.no rParam 2
  else s.op (s.chip.gateListWrite (pn p 0 2) first ((List.range n).map fun k => gEntryOf (pn p (16 + 16 * k) 16))) 16
    fun _ => []⟩

/-- Why a gate's commit fails, coded as COMMIT_RESULT of a Tide Table: 0 it does not (R103). -/
def Gate.commitBad (x : Gate) : Nat :=
  if 256 < x.count then 1 else if !gateCycleOk x then 2 else if !timeOk x.base then 3 else 0

/-- GATE_COMMIT (R103, R339). -/
def cmdGateCommit : Cmd := modify 0x600D [5] [pf 0 2, pf 2 1] fun p s =>
  let g := pn p 0 2
  let x := s.chip.gate g
  let done (c : Chip) : Reply :=
    (s.withChip c).ok (layOut 24 [(8, 16, packTime (c.gate g).pendStart)])
  if 4095 < g then s.no rParam 0
  else if 1 < pn p 2 1 then s.no rParam 2
  else if pn p 2 1 = 1 then done (s.chip.gateCancel g)
  else if x.pend.isSome then s.no rLocked 0
  else if x.commitBad ≠ 0 then ⟨rParam, 0, layOut 24 [(0, 1, x.commitBad)], s⟩
  else done (s.chip.gateCommit g).2

/-- STREAM_GET (R107, R110, R339). -/
def cmdStreamGet : Cmd := query 0x600E [pf 0 4, pf 4 1] fun p s =>
  let q := pn p 4 1
  s.onHandle p fun h =>
    if 3 < q ∧ q ≠ 0xFF then s.no rParam 4
    else if !(s.chip.handle h).valid then s.no rNotFound 0
    else s.ok (toLE 32 (s.chip.handleRec h) ++ toLE 64 (s.chip.cntRec h (if q = 0xFF then none else some q)) ++
      (s.chip.egress h).flatMap fun w => toLE 4 w)

/-- STREAM_CLEAR (R109). -/
def cmdStreamClear : Cmd := modify 0x600F [5] [pf 0 4] fun p s =>
  s.onHandle p fun h => s.op (s.chip.strmClear h) 0 fun _ => []

/-- Latches of a stream's filter cleared (R101, R102, R105): BLOCKED, MAFR of its meter, and those of a gate. -/
def Chip.unlatch (c : Chip) (h g b : Nat) : Chip :=
  let x := c.handle h
  let c := if b.testBit 0 then c.setHandle h { x with blocked := false } else c
  quads.foldl (fun c q =>
    let m := x.meterId
    let c := if b.testBit 1 then c.setMeterQ m q { c.meterQ m q with mafr := false } else c
    if b.testBit 2 || b.testBit 3 then
      let y := c.gateQ g q
      c.setGateQ g q { y with closedOct := y.closedOct && !b.testBit 2, closedInv := y.closedInv && !b.testBit 3 }
    else c) c

/-- FILTER_UNLATCH (R339). -/
def cmdFilterUnlatch : Cmd := modify 0x6010 [5] [pf 0 4, pf 4 2, pf 6 1] fun p s =>
  let g := pn p 4 2
  let b := pn p 6 1
  s.onHandle p fun h =>
    if (4095 < g ∧ g ≠ 0xFFFF) ∨ (g = 0xFFFF ∧ b / 4 % 4 ≠ 0) then s.no rParam 4
    else if 15 < b then s.no rParam 6
    else if !(s.chip.handle h).valid then s.no rNotFound 0
    else (s.on fun c => c.unlatch h g b).ok []

/-- STRM_USAGE_GET. -/
def cmdStrmUsageGet : Cmd := query 0x6011 [] fun _ s => s.ok (s.regBytes .STRM [.STRM_USAGE] 0)

/-- PORT_STRM_CNT_GET. -/
def cmdPortStrmCntGet : Cmd := query 0x6012 [pf 0 1] fun p s =>
  let k := pn p 0 1
  if !s.chip.portValid k then s.no rParam 0
  else s.ok (s.regBytes .STRM [.STRM_PORT_CNT_00, .STRM_PORT_CNT_08, .STRM_PORT_CNT_10, .STRM_PORT_CNT_18,
    .STRM_PORT_CNT_20] k)

/-! ### Group 0x7: Berths -/

/-- The lowest Berth whose VALID is 0; 65,536 if none is free (R330). -/
def Chip.lowestBerth (c : Chip) : Nat := freeFrom c.assigned 65536 0

/-- Why a Berth does not take a configuration (R111, R112, R339): 0 it does. -/
def Chip.berthCode (c : Chip) (b data : Nat) : Nat :=
  let v := data.testBit 63
  if !c.bValid b then (if v && !c.portValid (bits data 55 48) then rParam else rOK)
  else if !v then (if c.referenced b then rInUse else rOK)
  else if bits data 55 48 ≠ c.bPort b ∨ bits data 59 57 ≠ c.bTc b ∨ data.testBit 62 ≠ c.bTimed b then rParam
  else rOK

/-- BERTH_SET (R111-R113, R126, R330, R339): the shaper first, so that an assignment takes it. -/
def cmdBerthSet : Cmd := modifyT 0x7001 [pf 0 4, pr 8 .SCHD .SCHD_BERTH_CFG, pr 16 .SCHD .SCHD_BERTH_SHAPER] fun p s =>
  let cfg := pn p 8 8
  let ask := decide (pn p 0 4 = askFree) && cfg.testBit 63
  let b := if ask then s.chip.lowestBerth else pn p 0 4
  let code := s.chip.berthCode b cfg
  if !ask ∧ 65535 < b then s.no rParam 0
  else if 16777216 < bits (pn p 16 8) 56 32 then s.no rParam 16
  else if code ≠ rOK then s.no code (if code = rParam then 8 else 0)
  else if 65535 < b then s.no rNoResource 0
  else (s.on fun c => (c.wrBerthShaper b (pn p 16 8)).wrBerthCfg b cfg).ok (toLE 4 b)

/-- The registers of a Berth with the active values of its shadowed fields (R126). -/
def Chip.activeCfg (c : Chip) (b cfg : Nat) : Nat :=
  if c.bValid b then cfg - cfg % 2 ^ 16 + (c.berth b).weight - bits cfg 60 60 * 2 ^ 60 + bit (c.berth b).shaper * 2 ^ 60
  else cfg
def Chip.activeShaper (c : Chip) (b shaper : Nat) : Nat :=
  if c.bValid b then (c.berth b).rate + (c.berth b).burst * 2 ^ 32 else shaper

/-- BERTH_GET (R126). -/
def cmdBerthGet : Cmd := query 0x7002 [pf 0 2] fun p s =>
  let b := pn p 0 2
  let cfg := s.reg .SCHD .SCHD_BERTH_CFG b
  let sh := s.reg .SCHD .SCHD_BERTH_SHAPER b
  s.ok (toLE 8 (s.chip.activeCfg b cfg) ++ toLE 8 (s.chip.activeShaper b sh) ++ toLE 8 cfg ++ toLE 8 sh ++
    s.regBytes .SCHD [.SCHD_BERTH_STATE, .SCHD_BERTH_CNT] b)

/-- BERTH_RELEASE (R112, R339). -/
def cmdBerthRelease : Cmd := modify 0x7003 [4] [pf 0 2] fun p s =>
  let b := pn p 0 2
  if !s.chip.bValid b then s.ok (toLE 4 0)
  else if s.chip.referenced b then s.no rInUse 0
  else (s.on fun c => (c.releaseBerth b).setB .SCHD_BERTH_CFG_VALID b false).ok (toLE 4 (s.chip.berth b).queue.length)

/-! ### Group 0x7: Tide Tables -/

/-- The parameters of TIDE_CFG_SET: a part that WHAT does not select is ignored. -/
def tideCfgLay (p : Bytes) : List PField :=
  let w := pn p 1 1
  let plain (k : Nat) (f : PField) : PField := if w.testBit k then f else pf f.1 f.2.1
  [pf 0 1, pf 1 1, plain 0 (pt 8), plain 0 (pr 24 .TIDE .TIDE_ADMIN_CYCLE), plain 1 (pr 32 .TIDE .TIDE_PORT_CFG), pf 40 1,
    pf 41 1]

/-- The administrative registers written (R135). -/
def Chip.setAdminBase (c : Chip) (k base cycle : Nat) : Chip :=
  ((c.setF .TIDE_ADMIN_BASE_BASE k (base % 2 ^ 64)).setF .TIDE_ADMIN_BASE_HI_BASE_HI k (base / 2 ^ 64)).writeFields
    (regFields .TIDE .TIDE_ADMIN_CYCLE) k cycle

/-- TIDE_CFG_SET (R126, R135, R139, R339). -/
def cmdTideCfgSet : Cmd := ⟨0x7004, false, false, [3], tideCfgLay, noBar, fun p s =>
  let k := pn p 0 1
  let w := pn p 1 1
  s.onPort k (
    if 7 < w then s.no rParam 1
    else if w.testBit 0 && !timeOk (pn p 8 12) then s.no rParam 8
    else if w.testBit 0 && s.chip.tideLocked k then s.no rLocked 0
    else (s.on fun c =>
      let c := if w.testBit 0 then c.setAdminBase k (pn p 8 12) (pn p 24 8) else c
      let c := if w.testBit 1 then c.wrTidePort k (pn p 32 8) else c
      if w.testBit 2 then
        ((c.setF .TIDE_CTRL_PREEMPT_MASK k (pn p 40 1)).setF .TIDE_CTRL_IDLE_GATES k (pn p 41 1)).idleGates k
      else c).ok [])⟩

/-- The fields of a Tide Table entry (R133). -/
def tideEntryBits : List (Nat × Nat) := [(63, 61), (55, 48), (39, 0)]

/-- The parameters of TIDE_WRITE. -/
def tideWriteLay (p : Bytes) : List PField :=
  let n := pn p 4 2
  [pf 0 1, pf 2 2, pf 4 2] ++ if n ≤ 500 then fieldsAt 16 n 8 tideEntryBits else [restField p 16]

/-- TIDE_WRITE (R133, R139). -/
def cmdTideWrite : Cmd := ⟨0x7005, false, false, [3], tideWriteLay, noBar, fun p s =>
  let k := pn p 0 1
  let first := pn p 2 2
  let n := pn p 4 2
  s.onPort k (
    if n < 1 ∨ 500 < n then s.no rParam 4
    else if 1024 < first + n then s.no rParam 2
    else if s.chip.tideLocked k then s.no rLocked 0
    else (s.on fun c => (List.range n).foldl (fun c j => c.setAdmin k (first + j) (pn p (16 + 8 * j) 8)) c).ok [])⟩

/-- TIDE_COMMIT (R137-R141, R339): a commit that fails leaves the registers as they were (R329). -/
def cmdTideCommit : Cmd := modify 0x7006 [3] [pf 0 1, pf 1 1] fun p s =>
  let k := pn p 0 1
  let op := pn p 1 1
  let done (c : Chip) : Reply := (s.withChip c).ok (layOut 24 [(0, 1, c.fld .TIDE_STATUS_COMMIT_RESULT k),
    (8, 16, c.fld .TIDE_PEND_START_START k + c.fld .TIDE_PEND_START_HI_START_HI k * 2 ^ 64)])
  s.onPort k (
    if 2 < op then s.no rParam 1
    else if op = 1 then done (s.chip.tideCancel k)
    else if op = 2 then done (s.chip.tideStop k)
    else if s.chip.tideLocked k then s.no rLocked 0
    else if s.chip.tideCheck k ≠ 0 then ⟨rParam, 0, layOut 24 [(0, 1, s.chip.tideCheck k)], s⟩
    else done (s.chip.tideCommit k))

/-- TIDE_GET (R160). -/
def cmdTideGet : Cmd := query 0x7007 [pf 0 1] fun p s =>
  let k := pn p 0 1
  let t (lo hi : Reg) : Bytes := time16 (s.reg .TIDE lo k + s.reg .TIDE hi k * 2 ^ 64)
  if !s.chip.portValid k then s.no rParam 0
  else s.ok (s.regBytes .TIDE [.TIDE_STATUS, .TIDE_CTRL, .TIDE_PORT_CFG] k ++ t .TIDE_ADMIN_BASE .TIDE_ADMIN_BASE_HI ++
    s.regBytes .TIDE [.TIDE_ADMIN_CYCLE] k ++ t .TIDE_PEND_START .TIDE_PEND_START_HI ++
    t .TIDE_OPER_BASE .TIDE_OPER_BASE_HI ++ s.regBytes .TIDE [.TIDE_OPER_CYCLE] k ++
    t .TIDE_OPER_SWITCH .TIDE_OPER_SWITCH_HI ++
    s.regBytes .TIDE [.TIDE_CNT_00, .TIDE_CNT_08, .TIDE_CNT_10, .TIDE_CNT_18, .TIDE_CNT_20, .TIDE_CNT_28] k)

/-- TIDE_READ (R133, R160). -/
def cmdTideRead : Cmd := query 0x7008 [pf 0 1, pf 1 1, pf 2 2, pf 4 2] fun p s =>
  let k := pn p 0 1
  let first := pn p 2 2
  let n := pn p 4 2
  if !s.chip.portValid k then s.no rParam 0
  else if 1 < pn p 1 1 then s.no rParam 1
  else if n < 1 ∨ 500 < n then s.no rParam 4
  else if 1024 < first + n then s.no rParam 2
  else s.ok ((List.range n).flatMap fun j => toLE 8 (if pn p 1 1 = 0 then kGet 0 (s.chip.tide k).admin (first + j)
    else s.chip.operEntry k (first + j)))

/-- PORT_HANDOVER (R127, R309). -/
def cmdPortHandover : Cmd := modifyT 0x7010 [pf 0 1] fun p s =>
  let k := pn p 0 1
  if !s.chip.portValid k then s.no rParam 0 else (s.on fun c => c.handStart k).ok []

end Sys2Proof.Machine
end

