-- ==== Sys2Proof/Machine/CmdStore.lean ====
section
/-!
DEFINITION. Machine/CmdStore.lean: the commands of groups 0x8 Breakwater and 0x9 store (R340).
-/
namespace Sys2Proof.Machine

/-! ### Group 0x8 -/

/-- The parameters of BRKW_SET: a record that WHAT does not select is ignored. -/
def brkwSetLay (p : Bytes) : List PField :=
  let w := pn p 2 1
  [pf 0 2, pf 2 1, if w.testBit 0 then pk 8 40 brkwCfgBits else pf 8 40,
    if w.testBit 1 then pk 48 64 brkwPathBits else pf 48 64]

/-- The VALID entries of a PATHS record name valid ports (R5, R201). -/
def Chip.pathsNamed (c : Chip) (paths : Nat) : Bool :=
  (List.range 8).all fun j => !(pathEntry paths j).1 || c.portValid (pathEntry paths j).2.2

/-- CFG and PATHS written together (R340): each is judged with the other, and they take effect together or not. -/
def Chip.brkwBoth (c : Chip) (n cfg paths : Nat) : Nat × Chip :=
  let x := cfgOf cfg
  let y : Brkw := { c.inst n with cfg := x }
  let code := c.cfgCode n x (y.newPaths paths)
  if !c.pathsNamed paths then (rParam, c)
  else if code ≠ rOK then (code, c)
  else
    let c := c.cfgApply n x
    (rOK, c.setInst n ((c.inst n).withPaths paths))

/-- BRKW_SET (R200, R201, R329, R340): PARAM names the record that is at fault, the first of two. -/
def cmdBrkwSet : Cmd := ⟨0x8001, true, false, timedFuncs 0x8001, brkwSetLay, noBar, fun p s =>
  let n := pn p 0 2
  let w := pn p 2 1
  if 3 < w then s.no rParam 2
  else if w = 0 then s.ok []
  else if w = 1 then s.op (s.chip.cfgWrite n (pn p 8 40)) 8 fun _ => []
  else if w = 2 then s.op (s.chip.pathsWrite n (pn p 48 64)) 48 fun _ => []
  else s.op (s.chip.brkwBoth n (pn p 8 40) (pn p 48 64))
    (if cfgRange (cfgOf (pn p 8 40)) && !s.chip.pathsNamed (pn p 48 64) then 48 else 8) fun _ => []⟩

/-- BRKW_GET (R213). -/
def cmdBrkwGet : Cmd := query 0x8002 [pf 0 2] fun p s =>
  let n := pn p 0 2
  let c := s.chip
  s.ok (toLE 40 (c.inst n).cfg.word ++ toLE 64 (c.pathsRec n) ++ toLE 80 (c.brkwState n) ++ toLE 112 (c.brkwCntRec n))

/-- BRKW_PATH_GET (R213). -/
def cmdBrkwPathGet : Cmd := query 0x8003 [pf 0 2, pf 2 1] fun p s =>
  if 7 < pn p 2 1 then s.no rParam 2 else s.ok (toLE 32 (s.chip.pathCntRec (pn p 0 2) (pn p 2 1)))

/-- BRKW_RESET_SEQ (R196). -/
def cmdBrkwResetSeq : Cmd := modify 0x8004 [6] [pf 0 2] fun p s => (s.on fun c => c.seqReset (pn p 0 2)).ok []

/-- BRKW_CLEAR (R213). -/
def cmdBrkwClear : Cmd := modify 0x8005 [6] [pf 0 2, pf 2 1] fun p s =>
  let n := pn p 0 2
  let w := pn p 2 1
  if 3 < w then s.no rParam 2
  else (s.on fun c =>
    let c := if w.testBit 0 then c.brkwClear n else c
    if w.testBit 1 then (List.range 8).foldl (fun c j => c.pathClear n j) c else c).ok []

/-- BRKW_POOL_GET. -/
def cmdBrkwPoolGet : Cmd := query 0x8006 [] fun _ s =>
  s.ok ((List.range 4).flatMap fun q => s.regBytes .BRKW [.BRKW_POOL] q)

/-! ### Group 0x9 -/

/-- The number of regions (R221). -/
def regionCount : Nat := 131072

/-- A command on a region: its number is in range. -/
def State.onRegion (s : State) (p : Bytes) (f : Nat → Reply) : Reply :=
  if regionCount ≤ pn p 0 4 then s.no rParam 0 else f (pn p 0 4)

/-- The response of the region commands: the region and its charge. -/
def Chip.regionReply (r : Nat) (c : Chip) : Bytes :=
  layOut 16 [(0, 4, r), (8, 4, (c.shownCharge r).1), (12, 4, (c.shownCharge r).2)]

/-- The lowest region that is not valid; the number of regions if none is free (R330). -/
def Chip.lowestRegion (c : Chip) : Nat := freeFrom (c.regions.map fun e => e.1) regionCount 0

/-- REGION_CREATE (R221, R330, R340). -/
def cmdRegionCreate : Cmd := modify 0x9001 [7] [pf 0 4, pf 4 1, pf 6 2, pf 8 4] fun p s =>
  let r := if pn p 0 4 = askFree then s.chip.lowestRegion else pn p 0 4
  if regionCount ≤ pn p 0 4 ∧ pn p 0 4 ≠ askFree then s.no rParam 0
  else if 3 < pn p 4 1 then s.no rParam 4
  else if pn p 8 4 < 1 ∨ 1048576 < pn p 8 4 then s.no rParam 8
  else if decide (regionCount ≤ r) && (s.chip.regionCreate r (pn p 4 1) (pn p 6 2) (pn p 8 4)).1 == rOK then s.no rNoResource 0
  else if (s.chip.region r).valid then s.no rExists 0
  else s.op (s.chip.regionCreate r (pn p 4 1) (pn p 6 2) (pn p 8 4)) 8 (Chip.regionReply r)

/-- REGION_RESIZE (R222, R340). -/
def cmdRegionResize : Cmd := modify 0x9002 [7] [pf 0 4, pf 8 4] fun p s =>
  s.onRegion p fun r => s.op (s.chip.regionResize r (pn p 8 4)) 8 (Chip.regionReply r)

/-- REGION_DELETE (R222). -/
def cmdRegionDelete : Cmd := modify 0x9003 [7] [pf 0 4] fun p s =>
  s.onRegion p fun r => s.op (s.chip.regionDelete r) 0 fun _ => []

/-- REGION_GET (R239). -/
def cmdRegionGet : Cmd := query 0x9004 [pf 0 4] fun p s =>
  s.onRegion p fun r =>
    let x := s.chip.region r
    if !x.valid then s.no rNotFound 0
    else s.ok (toLE 16 (s.chip.regionRec r) ++ toLE 24 (if x.kind = 2 then x.holdRec else x.recordRec) ++
      toLE 56 (s.chip.regionState r) ++ toLE 88 (s.chip.regCntRec r))

/-- HOLD_SET (R223, R340). -/
def cmdHoldSet : Cmd := modifyT 0x9005 [pf 0 4, pk 8 24 holdBits] fun p s =>
  s.onRegion p fun r => s.op (s.chip.holdWrite r (pn p 8 24)) 8 (Chip.regionReply r)

/-- HOLD_FORCE (R223). -/
def cmdHoldForce : Cmd := modifyT 0x9006 [pf 0 4, pf 4 1] fun p s =>
  let f := pn p 4 1
  s.onRegion p fun r =>
    let d := { s.chip.region r with force := false }.holdRec + f * 2 ^ 10
    if 1 < f then s.no rParam 4 else s.op (s.chip.holdWrite r d) 4 fun _ => []

/-- RECORD_SET (R229, R235, R340). -/
def cmdRecordSet : Cmd := modifyT 0x9007 [pf 0 4, pk 8 16 recordBits] fun p s =>
  s.onRegion p fun r => s.op (s.chip.recordWrite r (pn p 8 16)) 8 (Chip.regionReply r)

/-- RECORD_ARM (R229). -/
def cmdRecordArm : Cmd := modifyT 0x9008 [pf 0 4, pf 4 1] fun p s =>
  let a := pn p 4 1
  s.onRegion p fun r =>
    let d := { s.chip.region r with arm := false }.recordRec + a
    if 1 < a then s.no rParam 4 else s.op (s.chip.recordWrite r d) 4 fun _ => []

/-- The lowest cursor that does not run; 1,024 if none is free (R330). -/
def Chip.lowestCursor (c : Chip) : Nat :=
  freeFrom ((c.stor.cursors.filter fun e => e.2.state == 1).map fun e => e.1) 1024 0

/-- REPLAY_START (R233, R330, R340). -/
def cmdReplayStart : Cmd := modify 0x9009 [7] [pf 0 2, pk 8 64 replayBits] fun p s =>
  let k := if pn p 0 2 = 0xFFFF then s.chip.lowestCursor else pn p 0 2
  if 1023 < pn p 0 2 ∧ pn p 0 2 ≠ 0xFFFF then s.no rParam 0
  else if 1023 < k ∧ s.chip.replayCode (cursorOf (pn p 8 64)) = rOK then s.no rNoResource 0
  else s.op (s.chip.replayStart k (pn p 8 64)) 8 fun c => layOut 24 [(0, 2, k), (8, 16, (c.cursor k).l)]

/-- REPLAY_STOP (R234). -/
def cmdReplayStop : Cmd := modify 0x900A [7] [pf 0 2] fun p s => s.op (s.chip.replayStop (pn p 0 2)) 0 fun _ => []

/-- REPLAY_GET (R233, R239). -/
def cmdReplayGet : Cmd := query 0x900B [pf 0 2] fun p s =>
  if 1023 < pn p 0 2 then s.no rParam 0 else s.ok (toLE 64 (s.chip.cursor (pn p 0 2)).word)

/-- STORE_GET (R239). -/
def cmdStoreGet : Cmd := query 0x900C [] fun _ s =>
  s.ok (((List.range 4).flatMap fun q => toLE 8 (s.reg .STOR .STOR_QUAD q)) ++
    ((List.range 8).flatMap fun m => toLE 8 (s.reg .STOR .STOR_ECC_CNT m)) ++
    toLE 8 (s.reg .STOR .STOR_SCRUB_CFG 0) ++ toLE 8 (s.reg .STOR .STOR_CURSORS 0))

/-- SCRUB_SET (R217). -/
def cmdScrubSet : Cmd := modify 0x900D [7] [pr 0 .STOR .STOR_SCRUB_CFG] fun p s =>
  if bits (pn p 0 4) 15 0 = 0 then s.no rParam 0
  else (s.on fun c => c.writeFields (regFields .STOR .STOR_SCRUB_CFG) 0 (pn p 0 4)).ok []

/-- PAGEMAP_GET (R239). -/
def cmdPagemapGet : Cmd := query 0x900E [pf 0 4, pf 4 4, pf 8 2] fun p s =>
  let n := pn p 8 2
  s.onRegion p fun r =>
    if n < 1 ∨ 160 < n then s.no rParam 8
    else if !(s.chip.region r).valid then s.no rNotFound 0
    else
      let l := (List.range n).filterMap fun j => s.chip.pageMap r (pn p 4 4 + j)
      s.ok (toLE 8 l.length ++ l.flatMap fun e => toLE 8 e.1 ++ time16 e.2)

end Sys2Proof.Machine
end

