-- ==== Sys2Proof/Machine/CmdUnit.lean ====
section
/-!
DEFINITION. Machine/CmdUnit.lean: the commands of groups 0xA spill, 0xB duo, 0xC faults, 0xD power and core (R341-R343)
and 0xE development access (R344).
-/
namespace Sys2Proof.Machine

/-! ### Group 0xA -/

/-- A drive answers: it is in its slot, powered, and its link is up (R271, R274). -/
def Chip.driveAnswers (c : Chip) (k : Nat) : Option DriveInfo :=
  if c.is .SPIL_SLOT_STATUS_LINK_UP k then (c.spilS k).drive else none

/-- A region holds extent pages on a drive (R341). -/
def Chip.extentHeld (c : Chip) (k : Nat) : Bool :=
  c.regions.any fun e => e.2.spill == k + 1 && e.2.rings.any fun g => g.2.pages.any fun p => p.drive.isSome

/-- A drive is formatted and erased whole, and usable (R235). -/
def Chip.prepare (c : Chip) (k : Nat) (d : DriveInfo) : Chip :=
  let c := (c.setSpil k { c.spilS k with prepared := some (d.capacity / 65536), stopped := false }).setStor
    { c.stor with drive := c.stor.drive.filter fun e => e.1 / 2 ^ 40 != k }
  ((c.setB .STOR_SPILL_STAT_READY k true).setB .STOR_SPILL_STAT_FAULT k false).emit (.drive k 3 0)

/-- SPILL_PREPARE (R235, R341). A format that does not end fails the command, which changes nothing (R306). -/
def cmdSpillPrepare : Cmd := modify 0xA001 [8] [pf 0 1, pf 4 4] fun p s =>
  let k := pn p 0 1
  if 1 < k then s.no rParam 0
  else if pn p 4 4 ≠ 0x53504C31 then s.no rParam 4
  else match s.chip.driveAnswers k with
    | none => s.no rNotFound 0
    | some d =>
      if s.chip.extentHeld k then s.no rInUse 0
      else if !d.formats then (s.on fun c => c.emit (.drive k 3 0)).no stInternal 0
      else (s.on fun c => c.prepare k d).ok (toLE 4 (d.capacity / 65536) ++ toLE 4 0 ++ toLE 8 d.capacity)

/-- STOR_SPILL_CFG takes a value of its range (R236). -/
def spillCfgOk (v : Nat) : Bool := decide (1 ≤ bits v 47 32) && decide (bits v 47 32 ≤ 14000)

/-- SPILL_SET (R236, R341). -/
def cmdSpillSet : Cmd := modify 0xA002 [8, 7] [pf 0 1, pr 8 .STOR .STOR_SPILL_CFG] fun p s =>
  let k := pn p 0 1
  if 1 < k then s.no rParam 0
  else if !spillCfgOk (pn p 8 8) then s.no rParam 8
  else (s.on fun c => c.writeFields (regFields .STOR .STOR_SPILL_CFG) k (pn p 8 8)).ok []

/-- SPILL_GET: a drive that does not answer reads zero. -/
def cmdSpillGet : Cmd := query 0xA003 [pf 0 1] fun p s =>
  let k := pn p 0 1
  let f (g : DriveInfo → Nat) : Nat := ((s.chip.driveAnswers k).map g).getD 0
  if 1 < k then s.no rParam 0
  else s.ok (s.regBytes .STOR [.STOR_SPILL_CFG, .STOR_SPILL_STAT] k ++
    s.regBytes .SPIL [.SPIL_SLOT_STATUS, .SPIL_SLOT_CTRL, .SPIL_CNT_00, .SPIL_CNT_08, .SPIL_CNT_10, .SPIL_CNT_18,
      .SPIL_CNT_20, .SPIL_CNT_28] k ++
    toLE 2 (f DriveInfo.tempK) ++ toLE 1 (f DriveInfo.pctUsed) ++ toLE 1 (f DriveInfo.critWarn) ++
    toLE 8 (f DriveInfo.mediaErrors))

/-- SLOT_POWER off: steps 3 and 4 at once (R272, R341). -/
def Chip.slotPowerOff (c : Chip) (k : Nat) : Chip := (c.shutdownStart k).shutdownEnd k

/-- SLOT_POWER on: steps 3' and 4' with a drive whose link comes up (R272, R341). -/
def Chip.slotPowerOn (c : Chip) (k : Nat) (d : DriveInfo) : Chip :=
  ((c.powerUp k).slotLink k true d.speed d.width).powerUpEnds k

/-- SLOT_POWER (R341). A running button sequence is cancelled. -/
def cmdSlotPower : Cmd := modify 0xA004 [8] [pf 0 1, pf 1 1] fun p s =>
  let k := pn p 0 1
  let on := pn p 1 1
  if 1 < k then s.no rParam 0
  else if 1 < on then s.no rParam 1
  else if !s.chip.domainOn 45 then (if on = 0 then s.ok [] else s.no rNotFound 0)
  else if on = 0 then (s.on fun c => if c.powered k then c.slotPowerOff k else c.cancelButton k).ok []
  else if s.chip.powered k && s.chip.is .SPIL_SLOT_STATUS_LINK_UP k then
    (s.on fun c => (c.cancelButton k).powerInd k 1).ok []
  else match (s.chip.spilS k).drive with
    | none => s.no rNotFound 0
    | some d =>
      if s.chip.is .SPIL_SLOT_STATUS_PWR_FAULT k then (s.on fun c => c.powerUpFails k).no stInternal 0
      else if d.trains then (s.on fun c => c.slotPowerOn k d).ok []
      else (s.on fun c => (c.powerUp k).powerUpFails k).no stInternal 0

/-- The attention indicator blinks while the operator locates the slot (R273, R341). -/
def Chip.locate (c : Chip) (k : Nat) (on : Bool) : Chip :=
  (c.setSpil k { c.spilS k with locating := on }).attnRest k

/-- SLOT_LOCATE (R273, R341). -/
def cmdSlotLocate : Cmd := modify 0xA005 [8] [pf 0 1, pf 1 1] fun p s =>
  if 1 < pn p 0 1 then s.no rParam 0
  else if 1 < pn p 1 1 then s.no rParam 1
  else (s.on fun c => c.locate (pn p 0 1) (pn p 1 1 == 1)).ok []

/-! ### Group 0xB -/

/-- DUO_GET. -/
def cmdDuoGet : Cmd := query 0xB001 [] fun _ s =>
  let c := s.chip
  s.ok (layOut 20 [(0, 1, c.duoState), (1, 1, c.fld .DUO_STATUS_ROLE 0), (2, 1, c.fld .DUO_STATUS_RANK 0),
    (3, 1, c.duo.pins), (4, 1, c.showF .DUO_STATUS_LINK_UP 0), (8, 8, c.showF .DUO_PEER_SERIAL 0),
    (16, 2, c.showF .DUO_PEER_INFO_FIL 0), (18, 2, c.showF .DUO_PEER_INFO_STEPLOG_FMT 0)])

/-- DUO_CFG (R342, R371). -/
def cmdDuoCfg : Cmd := modify 0xB002 [9] [pf 0 1, pf 4 4, pf 8 1, (9, 1, 1)] fun p s =>
  let c := s.chip
  let us := pn p 4 4
  let w := pn p 0 1 * 2 ^ 63 + pn p 8 1 * 2 ^ 62 + pn p 9 1 * 2 ^ 61 + us * 2 ^ 32
  if 1 < pn p 0 1 then s.no rParam 0
  else if us < 100 ∨ 10000 < us then s.no rParam 4
  else if 1 < pn p 8 1 then s.no rParam 8
  else if c.duoState ≠ 0 ∨ (c.groupPorts 31).any c.portNamed = true ∨
      (pn p 0 1 = 1 ∧ c.is .DBG_STATUS_FTEST 0 = true) then s.no rInUse 0
  else (s.on fun c => c.applyDuoCfg w).ok []

/-- A claim is held (R316). -/
def Chip.anyClaim (c : Chip) : Bool := c.fld .MBX_CLAIM_CLAIMED 0 != 0

/-- DUO_JOIN (R342, R388): the request goes to the peer, if port 248 is UP; the peer's answer, or its absence, ends the
command. -/
def cmdDuoJoin : Cmd :=
  { modify 0xB003 [9] [] (fun _ s =>
      (s.on fun c => if c.link 248 = 3 then c.emit (.duoMessage 0) else c).no stWaits 0) with
    bar := fun _ s =>
      if s.chip.is .DUO_CFG_ENABLE 0 && (s.chip.duoState == 0 || s.chip.duoState == 3) then none else some 0 }

/-- A unit leaves the duo (R392), which ends the bar of R381. The ACTIVE unit in IN_STEP leaves as at a swap: an entry of the
epoch's record tells the peer, and both change at the boundary after its acknowledgement. -/
def State.duoLeave (s : State) : State :=
  let c := s.chip
  if c.duoState = 0 then s
  else if c.duoState = 1 then (s.abortJoin 0 false).on fun c => c.setBar false
  else if c.duoState = 2 ∧ c.duoActive then s.on fun c => c.setDuo { c.duo with swapDue := true, leave := true }
  else s.left

/-- DUO_LEAVE (R392). -/
def cmdDuoLeave : Cmd := modify 0xB004 [9] [] fun _ s => s.duoLeave.ok []

/-- DUO_SWAP (R342, R391). -/
def cmdDuoSwap : Cmd :=
  { modifyT 0xB005 [] (fun _ s => (s.on fun c => c.setDuo { c.duo with swapDue := true }).ok []) with
    bar := fun _ s => if s.chip.duoState = 2 ∧ s.chip.duoActive = true then none else some 0 }

/-! ### Group 0xC -/

/-- FLT_GET: LOG_COUNT is the number of messages logged (R352). -/
def cmdFltGet : Cmd := query 0xC001 [] fun _ s =>
  let c := s.chip
  s.ok (layOut 32 [(0, 1, c.fld .FLT_STATUS_STATE 0), (4, 4, c.fld .FLT_RECOVERIES_TOTAL 0), (8, 4, c.fld .FLT_LOG_WR_WR 0),
    (16, 8, c.fld .FLT_FIRST_CAUSE_CAUSE 0), (24, 8, c.fld .FLT_FIRST_CAUSE_HI_CAUSE_HI 0)])

/-- The first message that a read from `first` returns: the oldest kept in place of one overwritten (R352). -/
def Chip.logFrom (c : Chip) (first : Nat) : Nat :=
  let n := c.fld .FLT_LOG_WR_WR 0
  let back := (n + 2 ^ 32 - first) % 2 ^ 32
  let kept := c.flt.log.length
  if back ≤ kept ∨ 2 ^ 31 ≤ back then first else (n + 2 ^ 32 - kept) % 2 ^ 32

/-- FLT_LOG_READ (R352). -/
def cmdFltLogRead : Cmd := query 0xC002 [pf 0 4, pf 4 2] fun p s =>
  let c := s.chip
  let n := pn p 4 2
  if n < 1 ∨ 252 < n then s.no rParam 4
  else
    let first := c.logFrom (pn p 0 4)
    let back := (c.fld .FLT_LOG_WR_WR 0 + 2 ^ 32 - first) % 2 ^ 32
    let l := (List.range (if 2 ^ 31 ≤ back then 0 else min n back)).filterMap fun k => c.message ((first + k) % 2 ^ 32)
    s.ok (toLE 4 first ++ toLE 4 l.length ++ l.flatMap fun m => toLE 16 m.word)

/-- FLT_CFG (R343). -/
def cmdFltCfg : Cmd := modify 0xC003 [] [pf 0 4, pf 4 2, pf 8 4] fun p s =>
  let quiet := pn p 0 4
  let limit := pn p 4 2
  let window := pn p 8 4
  if quiet < 1 ∨ 60000 < quiet then s.no rParam 0
  else if limit < 1 ∨ 1000 < limit then s.no rParam 4
  else if window < 1 ∨ 86400 < window then s.no rParam 8
  else (s.on fun c => c.wrFltCfg (quiet * 2 ^ 48 + limit * 2 ^ 32 + window)).ok []

/-- FLT_CLEAR_FIRST (R343, R353). -/
def cmdFltClearFirst : Cmd := modify 0xC004 [] [] fun _ s => (s.on Chip.clearFirst).ok []

/-! ### Group 0xD -/

/-- PWR_GET. -/
def cmdPwrGet : Cmd := query 0xD001 [] fun _ s =>
  let c := s.chip
  s.ok (layOut 24 ([(0, 8, c.fld .PWR_DOMAIN_STATUS_ON 0), (8, 2, c.fld .CORE_AVS_STATUS_SET_MV 0),
    (10, 2, c.fld .CORE_AVS_STATUS_READ_MV 0)] ++ (List.range 4).map fun q => (16 + 2 * q, 2, c.fld .CORE_SLACK_MIN_TJ q)))

/-- The STANDBY would refuse to switch a domain off that this unit's state lets go (R408): that of a stack, whose pages each
unit allots by itself, or that of the spill slots. Whether it does, a free value says (notes/assumptions/189.md). -/
def Chip.peerRefuses (c : Chip) (d : Nat) (on : Bool) : Bool × Chip :=
  if c.duoState = 2 && c.duoActive && !on && c.requested d && ((decide (32 ≤ d) && decide (d < 40)) || d == 45) then
    let (v, c) := c.fresh
    (v % 2 == 1, c)
  else (false, c)

/-- PWR_DOMAIN_SET (R343, R404, R408). -/
def cmdPwrDomainSet : Cmd := modify 0xD002 [10] [pf 0 1, pf 1 1] fun p s =>
  if 1 < pn p 1 1 then s.no rParam 1
  else
    let (refused, c) := s.chip.peerRefuses (pn p 0 1) (pn p 1 1 == 1)
    let s := s.withChip c
    let r := s.domainSet (pn p 0 1) (pn p 1 1 == 1)
    if r.1 ≠ rOK then s.no r.1 0 else if refused then s.no rInUse 0 else r.2.ok []

/-- SLACK_SET (R38, R451). -/
def cmdSlackSet : Cmd :=
  modify 0xD003 [0] [pf 0 1, pr 4 .CORE .CORE_SLACK_CTRL, pr 8 .CORE .CORE_SLACK_CFG] fun p s =>
    let q := pn p 0 1
    if 3 < q then s.no rParam 0
    else if !slackCtrlOk (pn p 4 4) then s.no rParam 4
    else if !slackCfgOk (pn p 8 4) then s.no rParam 8
    else if !s.chip.domainOn (40 + q) then s.ok []
    else (s.on fun c => (c.applySlackCtrl q (pn p 4 4)).applySlackCfg q (pn p 8 4)).ok []

/-- AVS_SET (R42, R45). DESIGN CHOICE: the limits take effect before the control word (notes/assumptions/194.md). -/
def cmdAvsSet : Cmd :=
  modify 0xD004 [0] [pr 0 .CORE .CORE_AVS_CTRL, pr 8 .CORE .CORE_AVS_LIMITS] fun p s =>
    if !avsCtrlOk (pn p 0 4) then s.no rParam 0
    else if !avsLimitsOk (pn p 8 8) then s.no rParam 8
    else (s.on fun c => (c.applyAvsLimits (pn p 8 8)).applyAvsCtrl (pn p 0 4)).ok []

/-- STAGE_LEAD_SET (R33, R331). -/
def cmdStageLeadSet : Cmd := modifyT 0xD005 [pf 0 1, pf 4 2] fun p s =>
  let g := pn p 0 1
  let v := pn p 4 2
  if !s.chip.populated g then s.no rParam 0
  else if v < 800 ∨ 10000 < v then s.no rParam 4
  else if !s.chip.domainOn (40 + quadOf g) then s.ok []
  else (s.on fun c => c.wrStageLead g v).ok []

/-- CORE_GET. -/
def cmdCoreGet : Cmd := query 0xD006 [] fun _ s =>
  let four (r : Reg) : Bytes := (List.range 4).flatMap fun q => s.regBytes .CORE [r] q
  s.ok (four .CORE_SLACK_STATUS ++ four .CORE_SLACK_MIN ++ four .CORE_QBUF_STATUS ++ four .CORE_QBUF_DROP ++
    s.regBytes .CORE [.CORE_AVS_STATUS, .CORE_AVS_COUNT] 0 ++ (List.range 2).flatMap fun d =>
      s.regBytes .CORE [.CORE_BRIDGE_CNT_00, .CORE_BRIDGE_CNT_08, .CORE_BRIDGE_CNT_10, .CORE_BRIDGE_CNT_18,
        .CORE_BRIDGE_CNT_20] d)

/-! ### Group 0xE -/

/-- MON_ACCESS (R411). -/
def cmdMonAccess : Cmd := modify 0xE001 [] [pf 0 1] fun p s =>
  if 1 < pn p 0 1 then s.no rParam 0
  else (s.on fun c => c.setB .DBG_STATUS_MON_UNLOCKED 0 (pn p 0 1 == 1)).ok []

/-- FREEZE (R344, R415): the latch is set, and the freeze starts after the response. -/
def cmdFreeze : Cmd :=
  { modify 0xE002 [] [] (fun _ s => (s.on fun c => c.setDbg { c.dbg with latchMbx := true }).ok []) with
    bar := fun _ s => if s.chip.fenedState = 7 then some 0 else none }

/-- Accepted only in FROZEN (R344). -/
def frozenOnly : Bytes → State → Option Nat := fun _ s => if s.chip.fenedState = 7 then none else some 0

/-- CAPTURE_READ (R344, R420). -/
def cmdCaptureRead : Cmd :=
  { query 0xE003 [pf 0 4, pf 4 2] (fun p s =>
      let o := pn p 0 4
      let n := pn p 4 2
      if o % 8 ≠ 0 then s.no rParam 0
      else if n % 8 ≠ 0 ∨ n < 8 ∨ 4032 < n then s.no rParam 4
      else if s.chip.capLen < o + n then s.no rParam 0
      else s.ok (s.chip.capRead o n)) with bar := frozenOnly }

/-- CAPTURE_RELEASE (R344, R420). -/
def cmdCaptureRelease : Cmd :=
  { modify 0xE004 [] [] (fun _ s => (s.on Chip.capRelease).ok []) with bar := frozenOnly }

end Sys2Proof.Machine
end

