-- ==== Sys2Proof/Machine/Commands.lean ====
section
/-!
DEFINITION. Machine/Commands.lean: the mailbox: the list of its commands, the acceptance of the next posted slot (R300),
timed execution (R309), activation (R325), and the row of each command.
-/
namespace Sys2Proof.Machine

/-- The commands of CmdSys.lean. -/
def listCmdSys : List Cmd :=
   [cmdIdentify, cmdGetState, cmdReset, cmdClaim, cmdRelease, cmdCancelTimed, cmdListTimed, cmdFwBegin, cmdFwWrite,
    cmdFwVerify, cmdFwActivate, cmdFwQuery, cmdFwSetMinSec, cmdSaffInfo, cmdSaffRead, cmdSaffClear]

/-- The commands of CmdTime.lean. -/
def listCmdTime : List Cmd :=
   [cmdTimeGet, cmdTimeLoad, cmdTimeStep, cmdTimeCfg, cmdTimeSrcSet, cmdTimeSrcReadmit, cmdTimeSrcGet,
    cmdTimePortSet, cmdTimeClearSuspect, cmdPtpInstSet, cmdPtpInstDelete, cmdPtpInstGet]

/-- The commands of CmdPort.lean. -/
def listCmdPort : List Cmd :=
   [cmdPortGroupSet, cmdPortSet, cmdPortGet, cmdPortGroupGet, cmdMmRestart, cmdProfileSet, cmdPortLookupSet,
    cmdHandleCreate, cmdHandleWrite, cmdHandleDelete, cmdKeyInsert, cmdKeyDelete, cmdKeyLookup, cmdEgressSet,
    cmdMeterSet, cmdGateCfgSet, cmdGateListWrite, cmdGateCommit, cmdStreamGet, cmdStreamClear, cmdFilterUnlatch,
    cmdStrmUsageGet, cmdPortStrmCntGet, cmdBerthSet, cmdBerthGet, cmdBerthRelease, cmdTideCfgSet, cmdTideWrite,
    cmdTideCommit, cmdTideGet, cmdTideRead, cmdPortHandover]

/-- The commands of CmdStore.lean. -/
def listCmdStore : List Cmd :=
   [cmdBrkwSet, cmdBrkwGet, cmdBrkwPathGet, cmdBrkwResetSeq, cmdBrkwClear, cmdBrkwPoolGet, cmdRegionCreate,
    cmdRegionResize, cmdRegionDelete, cmdRegionGet, cmdHoldSet, cmdHoldForce, cmdRecordSet, cmdRecordArm,
    cmdReplayStart, cmdReplayStop, cmdReplayGet, cmdStoreGet, cmdScrubSet, cmdPagemapGet]

/-- The commands of CmdUnit.lean. -/
def listCmdUnit : List Cmd :=
   [cmdSpillPrepare, cmdSpillSet, cmdSpillGet, cmdSlotPower, cmdSlotLocate, cmdDuoGet, cmdDuoCfg, cmdDuoJoin,
    cmdDuoLeave, cmdDuoSwap, cmdFltGet, cmdFltLogRead, cmdFltCfg, cmdFltClearFirst, cmdPwrGet, cmdPwrDomainSet,
    cmdSlackSet, cmdAvsSet, cmdStageLeadSet, cmdCoreGet, cmdMonAccess, cmdFreeze, cmdCaptureRead, cmdCaptureRelease]

/-- Every mailbox command (R333-R344). -/
def commands : List Cmd := listCmdSys ++ listCmdTime ++ listCmdPort ++ listCmdStore ++ listCmdUnit

/-- The command of an opcode. -/
def findCmd (op : Nat) : Option Cmd := commands.find? fun k => k.op == op

/-! ### Acceptance (R299, R300, R388) -/

/-- The next posted slot is accepted, if something takes commands. `find` names the command of an opcode. -/
def State.acceptNext (s : State) (find : Nat → Option Cmd) : State :=
  let s := s.joinUnanswered
  if !s.chip.serving then s
  else match s.chip.mbx.order with
    | i :: _ => s.accept i find
    | [] => s

/-- MBX_ACCEPT (R299, R300). -/
def execMbxAccept (s : State) : Host.Outcome State Fault Refusal :=
  onStateS (fun s => s.watchLink fun s => s.acceptNext findCmd) s

/-- MBX_POST (R299-R301): a write of MBX_DOORBELL with POST bits; its RELEASE bits act too. -/
def execMbxPost (src : Src) (data : Nat) (s : State) : Host.Outcome State Fault Refusal :=
  onChipS (fun c => c.gated src .MBX 0x10018 fun c => c.wrDoorbell data) s

/-- MBX_RELEASE (R299-R301): a write of MBX_DOORBELL with RELEASE bits; its POST bits act too. -/
def execMbxRelease (src : Src) (data : Nat) (s : State) : Host.Outcome State Fault Refusal :=
  onChipS (fun c => c.gated src .MBX 0x10018 fun c => c.wrDoorbell data) s

/-- A request as the host driver writes it: its bytes go to the slot's buffer, and the slot is posted (R299). -/
def State.place (s : State) (k : Cmd) (r : Req) : State :=
  s.on fun c => ((c.dropHalves .host).bufWrite r.slot 0 ((reqBytes r k.op).take 4096)).postSlot r.slot

/-- A command as the host driver sends it (R299): once it is the next in turn and something takes commands it is
accepted. -/
def State.request (s : State) (k : Cmd) (r : Req) : State :=
  if !s.chip.hostServed || decide (8 ≤ r.slot) then s
  else
    let s := s.place k r
    if s.chip.mbx.order.head? == some r.slot then s.acceptNext fun op => if op = k.op then some k else findCmd op else s

/-- The row of a mailbox command, which may take port 248 out of UP (R383). -/
def mbxRow (k : Cmd) (r : Req) (s : State) : Host.Outcome State Fault Refusal :=
  onStateS (fun s => s.watchLink fun s => s.request k r) s

/-! ### Timed execution (R309-R311) -/

/-- The checks that a timed command meets again when it is executed (R309): the state, and claims. The duo role is not
one of them: both units of a duo execute it (R311). -/
def Cmd.recheck (k : Cmd) (p : Bytes) (s : State) : Option (Nat × Nat) :=
  match k.rejected p s with
  | some d => some (stReject, d)
  | none => (s.chip.claimedFn (k.writes s.chip p)).map fun f => (stClaimed, f)

/-- A pending timed command is executed. It was logged at its acceptance (R311), so it writes nothing more to the step
log. -/
def State.runTimed (s : State) (t : Timed) : State :=
  match findCmd t.opcode with
  | none => s
  | some k =>
    let r := match k.recheck t.params s with
      | some (st, d) => s.no st d
      | none =>
        let r := k.body t.params s
        if r.status = 0 then { r with st := r.st.on fun c => c.marked (k.acts s.chip t.params) }
        else { r with st := s.used r.st.chip }
    r.st.on fun c => (c.setDuo { c.duo with entries := s.chip.duo.entries }).timedDone t r.status

/-- A port's hand-over takes place at the instant at which it was armed (R309): the copy's end queues its TIMED_DONE. While
Fened runs it checks it again; an armed action needs no Fened (R17). -/
def State.runHandover (s : State) (t : Timed) : State :=
  let k := pn t.params 0 1
  match (if s.chip.fenedRuns then cmdPortHandover.recheck t.params s else none) with
  | some (st, _) => s.on fun c => c.timedDone t st
  | none =>
    if !s.chip.portValid k then s.on fun c => c.timedDone t rParam
    else s.on fun c =>
      let c' := ((c.untime t.handle).handStartAt k (max c.now t.at_)).digest 4 0
      match (c'.port k).hand with
      | some h => (c'.setPort k { c'.port k with hand := some { h with done := h.done ++ [t.handle] } }).setDuo
          { c'.duo with entries := c.duo.entries }
      | none => c'

/-- A timed command starts: the hand-over of a port; another is executed, or waits for a hand-over copy that holds an
access of it (R129). -/
def State.startTimed (s : State) (t : Timed) : State :=
  if t.opcode = 0x7010 then s.runHandover t
  else match s.chip.cmdHeldBy t.opcode (findCmd t.opcode) t.params with
    | some p => s.on fun c => c.holdAcc p (.timed t.handle)
    | none => s.runTimed t

/-- TIMED_EXECUTE (R17, R309, R310): the earliest pending command whose instant is reached and that something starts,
while the counters advance. The hand-over of a port needs no Fened; Fened starts every other. -/
def State.timedNext (s : State) : State :=
  let c := s.chip
  match c.timedOrder.find? fun t => c.ticking && c.reached t.at_ && (c.fenedRuns && !c.fenedHeld || t.opcode == 0x7010) with
  | some t => s.startTimed t
  | none => s

def execTimedExecute (s : State) : Host.Outcome State Fault Refusal :=
  onStateS (fun s => s.core fun s => s.watchLink State.timedNext) s

/-! ### Activation (R325) -/

/-- ACTIVATION_LOAD_DONE (R325 step 3): the boot ROM has checked the slot and loaded it, or has not. A slot that the
grace's end fell back to and that does not fit leaves no image to run (R295). -/
def Chip.activationLoaded (c : Chip) (ok : Bool) : Chip :=
  match c.mbx.act with
  | none => c
  | some a =>
    if a.loaded then c
    else
      let (r, d) := c.checkSlot a.slot
      if !ok then c
      else if r ≠ 0 then
        let d := d.slotReject a.slot r
        if a.fellBack then (d.setMbx { d.mbx with act := none }).restrict else d
      else
        (d.setMbx { d.mbx with act := some { a with loaded := true } }).loadImage a.slot

def execActivationLoadDone (ok : Bool) (s : State) : Host.Outcome State Fault Refusal :=
  onChipS (fun c => c.core fun c => c.activationLoaded ok) s

/-- Fened re-reads every function's registers as at a release (R317, R325): a function under a claim belongs to the
host. A function already INVALID stays so: only a later claim and release clear it (R318). -/
def Chip.reread (c : Chip) : Chip :=
  (List.range 11).foldl (fun c f =>
    if c.claimed f then c
    else
      let bad := c.firstBad f
      let c := if bad.isSome then c.setBitF .MBX_CLAIM_INVALID 0 f true else c
      let c := match bad with
        | some off => c.report 0xB001 0x50A off
        | none => c
      (c.resumeFn f).digest f 2) c

/-- FENED_TAKEOVER (R325 step 4): Fened runs from the loaded slot and beats. -/
def Chip.takeover (c : Chip) : Chip :=
  match c.mbx.act with
  | none => c
  | some a =>
    if !a.loaded then c
    else
      let c := (c.setMbx { c.mbx with act := none, stalled := false }).fenedUp
      let c := (c.setFlt { c.flt with aliveStall := false }).judgeWindow.reread
      let x := c.fwSlot a.slot
      let c := c.lifeUp 10
      if a.fellBack then c.event 0x0005 (toLE 1 a.slot ++ toLE 1 a.previous)
      else c.event 0x0004 (toLE 1 a.slot ++ toLE 8 x.version)

/-- Fened's takeover, and the commands that waited in their slots. -/
def State.takeover (s : State) : State := s.on Chip.takeover

def execFenedTakeover (s : State) : Host.Outcome State Fault Refusal := onStateS (fun s => s.core State.takeover) s

/-- ACTIVATION_GRACE_EXPIRY (R325 step 5, R360): ALIVE stops and the stall is reported; the boot ROM starts the slot that
ran before. If none ran, no image is left to run (R295). -/
def State.graceEnd (s : State) : State :=
  match s.chip.mbx.act with
  | none => s
  | some a =>
    if a.fellBack then s
    else
      let s := s.on fun c =>
        let c := (c.setFlt { c.flt with aliveStall := true }).setB .FLT_STATUS_STALL_SEEN 0 true
        let c := c.report 0xB001 0x50C 0
        if a.previous = 2 then (c.setMbx { c.mbx with act := none }).restrict
        else c.setMbx { c.mbx with act := some ⟨a.previous, a.slot, false, true⟩ }
      if s.chip.frozen then s else s.ownFails 6

def execActivationGraceExpiry (s : State) : Host.Outcome State Fault Refusal :=
  onStateS (fun s => s.aon State.graceEnd) s

/-! ### The rows of the commands -/

/-- IDENTIFY (R333). -/
def execIdentify (r : Req) (s : State) : Host.Outcome State Fault Refusal := mbxRow cmdIdentify r s

/-- GET_STATE (R333). -/
def execGetState (r : Req) (s : State) : Host.Outcome State Fault Refusal := mbxRow cmdGetState r s

/-- RESET (R334). -/
def execReset (r : Req) (s : State) : Host.Outcome State Fault Refusal := mbxRow cmdReset r s

/-- CLAIM (R314). -/
def execClaim (r : Req) (s : State) : Host.Outcome State Fault Refusal := mbxRow cmdClaim r s

/-- RELEASE (R317). -/
def execRelease (r : Req) (s : State) : Host.Outcome State Fault Refusal := mbxRow cmdRelease r s

/-- CANCEL_TIMED (R310). -/
def execCancelTimed (r : Req) (s : State) : Host.Outcome State Fault Refusal := mbxRow cmdCancelTimed r s

/-- LIST_TIMED (R333). -/
def execListTimed (r : Req) (s : State) : Host.Outcome State Fault Refusal := mbxRow cmdListTimed r s

/-- FW_BEGIN (R323). -/
def execFwBegin (r : Req) (s : State) : Host.Outcome State Fault Refusal := mbxRow cmdFwBegin r s

/-- FW_WRITE (R335). -/
def execFwWrite (r : Req) (s : State) : Host.Outcome State Fault Refusal := mbxRow cmdFwWrite r s

/-- FW_VERIFY (R323). -/
def execFwVerify (r : Req) (s : State) : Host.Outcome State Fault Refusal := mbxRow cmdFwVerify r s

/-- FW_ACTIVATE (R325). -/
def execFwActivate (r : Req) (s : State) : Host.Outcome State Fault Refusal := mbxRow cmdFwActivate r s

/-- FW_QUERY (R335). -/
def execFwQuery (r : Req) (s : State) : Host.Outcome State Fault Refusal := mbxRow cmdFwQuery r s

/-- FW_SET_MIN_SEC (R335). -/
def execFwSetMinSec (r : Req) (s : State) : Host.Outcome State Fault Refusal := mbxRow cmdFwSetMinSec r s

/-- SAFF_INFO (R336). -/
def execSaffInfo (r : Req) (s : State) : Host.Outcome State Fault Refusal := mbxRow cmdSaffInfo r s

/-- SAFF_READ (R336). -/
def execSaffRead (r : Req) (s : State) : Host.Outcome State Fault Refusal := mbxRow cmdSaffRead r s

/-- SAFF_CLEAR (R367). -/
def execSaffClear (r : Req) (s : State) : Host.Outcome State Fault Refusal := mbxRow cmdSaffClear r s

/-- TIME_GET (R337). -/
def execTimeGet (r : Req) (s : State) : Host.Outcome State Fault Refusal := mbxRow cmdTimeGet r s

/-- TIME_LOAD (R337). -/
def execTimeLoad (r : Req) (s : State) : Host.Outcome State Fault Refusal := mbxRow cmdTimeLoad r s

/-- TIME_STEP (R337). -/
def execTimeStep (r : Req) (s : State) : Host.Outcome State Fault Refusal := mbxRow cmdTimeStep r s

/-- TIME_CFG (R337). -/
def execTimeCfg (r : Req) (s : State) : Host.Outcome State Fault Refusal := mbxRow cmdTimeCfg r s

/-- TIME_SRC_SET (R337). -/
def execTimeSrcSet (r : Req) (s : State) : Host.Outcome State Fault Refusal := mbxRow cmdTimeSrcSet r s

/-- TIME_SRC_READMIT (R75). -/
def execTimeSrcReadmit (r : Req) (s : State) : Host.Outcome State Fault Refusal := mbxRow cmdTimeSrcReadmit r s

/-- TIME_SRC_GET (R337). -/
def execTimeSrcGet (r : Req) (s : State) : Host.Outcome State Fault Refusal := mbxRow cmdTimeSrcGet r s

/-- TIME_PORT_SET (R337). -/
def execTimePortSet (r : Req) (s : State) : Host.Outcome State Fault Refusal := mbxRow cmdTimePortSet r s

/-- TIME_CLEAR_SUSPECT (R337). -/
def execTimeClearSuspect (r : Req) (s : State) : Host.Outcome State Fault Refusal := mbxRow cmdTimeClearSuspect r s

/-- PTP_INST_SET (R338). -/
def execPtpInstSet (r : Req) (s : State) : Host.Outcome State Fault Refusal := mbxRow cmdPtpInstSet r s

/-- PTP_INST_DELETE (R338). -/
def execPtpInstDelete (r : Req) (s : State) : Host.Outcome State Fault Refusal := mbxRow cmdPtpInstDelete r s

/-- PTP_INST_GET (R337). -/
def execPtpInstGet (r : Req) (s : State) : Host.Outcome State Fault Refusal := mbxRow cmdPtpInstGet r s

/-- PORT_GROUP_SET (R339). -/
def execPortGroupSet (r : Req) (s : State) : Host.Outcome State Fault Refusal := mbxRow cmdPortGroupSet r s

/-- PORT_SET (R339). -/
def execPortSet (r : Req) (s : State) : Host.Outcome State Fault Refusal := mbxRow cmdPortSet r s

/-- PORT_GET (R339). -/
def execPortGet (r : Req) (s : State) : Host.Outcome State Fault Refusal := mbxRow cmdPortGet r s

/-- PORT_GROUP_GET (R339). -/
def execPortGroupGet (r : Req) (s : State) : Host.Outcome State Fault Refusal := mbxRow cmdPortGroupGet r s

/-- MM_RESTART (R179). -/
def execMmRestart (r : Req) (s : State) : Host.Outcome State Fault Refusal := mbxRow cmdMmRestart r s

/-- PROFILE_SET (R339). -/
def execProfileSet (r : Req) (s : State) : Host.Outcome State Fault Refusal := mbxRow cmdProfileSet r s

/-- PORT_LOOKUP_SET (R339). -/
def execPortLookupSet (r : Req) (s : State) : Host.Outcome State Fault Refusal := mbxRow cmdPortLookupSet r s

/-- HANDLE_CREATE (R339). -/
def execHandleCreate (r : Req) (s : State) : Host.Outcome State Fault Refusal := mbxRow cmdHandleCreate r s

/-- HANDLE_WRITE (R339). -/
def execHandleWrite (r : Req) (s : State) : Host.Outcome State Fault Refusal := mbxRow cmdHandleWrite r s

/-- HANDLE_DELETE (R85). -/
def execHandleDelete (r : Req) (s : State) : Host.Outcome State Fault Refusal := mbxRow cmdHandleDelete r s

/-- KEY_INSERT (R83). -/
def execKeyInsert (r : Req) (s : State) : Host.Outcome State Fault Refusal := mbxRow cmdKeyInsert r s

/-- KEY_DELETE (R339). -/
def execKeyDelete (r : Req) (s : State) : Host.Outcome State Fault Refusal := mbxRow cmdKeyDelete r s

/-- KEY_LOOKUP (R339). -/
def execKeyLookup (r : Req) (s : State) : Host.Outcome State Fault Refusal := mbxRow cmdKeyLookup r s

/-- EGRESS_SET (R98). -/
def execEgressSet (r : Req) (s : State) : Host.Outcome State Fault Refusal := mbxRow cmdEgressSet r s

/-- METER_SET (R106). -/
def execMeterSet (r : Req) (s : State) : Host.Outcome State Fault Refusal := mbxRow cmdMeterSet r s

/-- GATE_CFG_SET (R339). -/
def execGateCfgSet (r : Req) (s : State) : Host.Outcome State Fault Refusal := mbxRow cmdGateCfgSet r s

/-- GATE_LIST_WRITE (R339). -/
def execGateListWrite (r : Req) (s : State) : Host.Outcome State Fault Refusal := mbxRow cmdGateListWrite r s

/-- GATE_COMMIT (R103). -/
def execGateCommit (r : Req) (s : State) : Host.Outcome State Fault Refusal := mbxRow cmdGateCommit r s

/-- STREAM_GET (R339). -/
def execStreamGet (r : Req) (s : State) : Host.Outcome State Fault Refusal := mbxRow cmdStreamGet r s

/-- STREAM_CLEAR (R339). -/
def execStreamClear (r : Req) (s : State) : Host.Outcome State Fault Refusal := mbxRow cmdStreamClear r s

/-- FILTER_UNLATCH (R339). -/
def execFilterUnlatch (r : Req) (s : State) : Host.Outcome State Fault Refusal := mbxRow cmdFilterUnlatch r s

/-- STRM_USAGE_GET (R339). -/
def execStrmUsageGet (r : Req) (s : State) : Host.Outcome State Fault Refusal := mbxRow cmdStrmUsageGet r s

/-- PORT_STRM_CNT_GET (R339). -/
def execPortStrmCntGet (r : Req) (s : State) : Host.Outcome State Fault Refusal := mbxRow cmdPortStrmCntGet r s

/-- BERTH_SET (R339). -/
def execBerthSet (r : Req) (s : State) : Host.Outcome State Fault Refusal := mbxRow cmdBerthSet r s

/-- BERTH_GET (R126). -/
def execBerthGet (r : Req) (s : State) : Host.Outcome State Fault Refusal := mbxRow cmdBerthGet r s

/-- BERTH_RELEASE (R112). -/
def execBerthRelease (r : Req) (s : State) : Host.Outcome State Fault Refusal := mbxRow cmdBerthRelease r s

/-- TIDE_CFG_SET (R339). -/
def execTideCfgSet (r : Req) (s : State) : Host.Outcome State Fault Refusal := mbxRow cmdTideCfgSet r s

/-- TIDE_WRITE (R339). -/
def execTideWrite (r : Req) (s : State) : Host.Outcome State Fault Refusal := mbxRow cmdTideWrite r s

/-- TIDE_COMMIT (R137). -/
def execTideCommit (r : Req) (s : State) : Host.Outcome State Fault Refusal := mbxRow cmdTideCommit r s

/-- TIDE_GET (R339). -/
def execTideGet (r : Req) (s : State) : Host.Outcome State Fault Refusal := mbxRow cmdTideGet r s

/-- TIDE_READ (R339). -/
def execTideRead (r : Req) (s : State) : Host.Outcome State Fault Refusal := mbxRow cmdTideRead r s

/-- PORT_HANDOVER (R127). -/
def execPortHandover (r : Req) (s : State) : Host.Outcome State Fault Refusal := mbxRow cmdPortHandover r s

/-- BRKW_SET (R340). -/
def execBrkwSet (r : Req) (s : State) : Host.Outcome State Fault Refusal := mbxRow cmdBrkwSet r s

/-- BRKW_GET (R340). -/
def execBrkwGet (r : Req) (s : State) : Host.Outcome State Fault Refusal := mbxRow cmdBrkwGet r s

/-- BRKW_PATH_GET (R340). -/
def execBrkwPathGet (r : Req) (s : State) : Host.Outcome State Fault Refusal := mbxRow cmdBrkwPathGet r s

/-- BRKW_RESET_SEQ (R196). -/
def execBrkwResetSeq (r : Req) (s : State) : Host.Outcome State Fault Refusal := mbxRow cmdBrkwResetSeq r s

/-- BRKW_CLEAR (R340). -/
def execBrkwClear (r : Req) (s : State) : Host.Outcome State Fault Refusal := mbxRow cmdBrkwClear r s

/-- BRKW_POOL_GET (R340). -/
def execBrkwPoolGet (r : Req) (s : State) : Host.Outcome State Fault Refusal := mbxRow cmdBrkwPoolGet r s

/-- REGION_CREATE (R221). -/
def execRegionCreate (r : Req) (s : State) : Host.Outcome State Fault Refusal := mbxRow cmdRegionCreate r s

/-- REGION_RESIZE (R222). -/
def execRegionResize (r : Req) (s : State) : Host.Outcome State Fault Refusal := mbxRow cmdRegionResize r s

/-- REGION_DELETE (R222). -/
def execRegionDelete (r : Req) (s : State) : Host.Outcome State Fault Refusal := mbxRow cmdRegionDelete r s

/-- REGION_GET (R340). -/
def execRegionGet (r : Req) (s : State) : Host.Outcome State Fault Refusal := mbxRow cmdRegionGet r s

/-- HOLD_SET (R223). -/
def execHoldSet (r : Req) (s : State) : Host.Outcome State Fault Refusal := mbxRow cmdHoldSet r s

/-- HOLD_FORCE (R223). -/
def execHoldForce (r : Req) (s : State) : Host.Outcome State Fault Refusal := mbxRow cmdHoldForce r s

/-- RECORD_SET (R340). -/
def execRecordSet (r : Req) (s : State) : Host.Outcome State Fault Refusal := mbxRow cmdRecordSet r s

/-- RECORD_ARM (R229). -/
def execRecordArm (r : Req) (s : State) : Host.Outcome State Fault Refusal := mbxRow cmdRecordArm r s

/-- REPLAY_START (R233). -/
def execReplayStart (r : Req) (s : State) : Host.Outcome State Fault Refusal := mbxRow cmdReplayStart r s

/-- REPLAY_STOP (R234). -/
def execReplayStop (r : Req) (s : State) : Host.Outcome State Fault Refusal := mbxRow cmdReplayStop r s

/-- REPLAY_GET (R340). -/
def execReplayGet (r : Req) (s : State) : Host.Outcome State Fault Refusal := mbxRow cmdReplayGet r s

/-- STORE_GET (R340). -/
def execStoreGet (r : Req) (s : State) : Host.Outcome State Fault Refusal := mbxRow cmdStoreGet r s

/-- SCRUB_SET (R340). -/
def execScrubSet (r : Req) (s : State) : Host.Outcome State Fault Refusal := mbxRow cmdScrubSet r s

/-- PAGEMAP_GET (R340). -/
def execPagemapGet (r : Req) (s : State) : Host.Outcome State Fault Refusal := mbxRow cmdPagemapGet r s

/-- SPILL_PREPARE (R341). -/
def execSpillPrepare (r : Req) (s : State) : Host.Outcome State Fault Refusal := mbxRow cmdSpillPrepare r s

/-- SPILL_SET (R341). -/
def execSpillSet (r : Req) (s : State) : Host.Outcome State Fault Refusal := mbxRow cmdSpillSet r s

/-- SPILL_GET (R341). -/
def execSpillGet (r : Req) (s : State) : Host.Outcome State Fault Refusal := mbxRow cmdSpillGet r s

/-- SLOT_POWER (R341). -/
def execSlotPower (r : Req) (s : State) : Host.Outcome State Fault Refusal := mbxRow cmdSlotPower r s

/-- SLOT_LOCATE (R341). -/
def execSlotLocate (r : Req) (s : State) : Host.Outcome State Fault Refusal := mbxRow cmdSlotLocate r s

/-- DUO_GET (R342). -/
def execDuoGet (r : Req) (s : State) : Host.Outcome State Fault Refusal := mbxRow cmdDuoGet r s

/-- DUO_CFG (R342). -/
def execDuoCfg (r : Req) (s : State) : Host.Outcome State Fault Refusal := mbxRow cmdDuoCfg r s

/-- DUO_JOIN (R388). -/
def execDuoJoin (r : Req) (s : State) : Host.Outcome State Fault Refusal := mbxRow cmdDuoJoin r s

/-- DUO_LEAVE (R392). -/
def execDuoLeave (r : Req) (s : State) : Host.Outcome State Fault Refusal := mbxRow cmdDuoLeave r s

/-- DUO_SWAP (R391). -/
def execDuoSwap (r : Req) (s : State) : Host.Outcome State Fault Refusal := mbxRow cmdDuoSwap r s

/-- FLT_GET (R343). -/
def execFltGet (r : Req) (s : State) : Host.Outcome State Fault Refusal := mbxRow cmdFltGet r s

/-- FLT_LOG_READ (R352). -/
def execFltLogRead (r : Req) (s : State) : Host.Outcome State Fault Refusal := mbxRow cmdFltLogRead r s

/-- FLT_CFG (R343). -/
def execFltCfg (r : Req) (s : State) : Host.Outcome State Fault Refusal := mbxRow cmdFltCfg r s

/-- FLT_CLEAR_FIRST (R353). -/
def execFltClearFirst (r : Req) (s : State) : Host.Outcome State Fault Refusal := mbxRow cmdFltClearFirst r s

/-- PWR_GET (R343). -/
def execPwrGet (r : Req) (s : State) : Host.Outcome State Fault Refusal := mbxRow cmdPwrGet r s

/-- PWR_DOMAIN_SET (R404). -/
def execPwrDomainSet (r : Req) (s : State) : Host.Outcome State Fault Refusal := mbxRow cmdPwrDomainSet r s

/-- SLACK_SET (R343). -/
def execSlackSet (r : Req) (s : State) : Host.Outcome State Fault Refusal := mbxRow cmdSlackSet r s

/-- AVS_SET (R343). -/
def execAvsSet (r : Req) (s : State) : Host.Outcome State Fault Refusal := mbxRow cmdAvsSet r s

/-- STAGE_LEAD_SET (R343). -/
def execStageLeadSet (r : Req) (s : State) : Host.Outcome State Fault Refusal := mbxRow cmdStageLeadSet r s

/-- CORE_GET (R343). -/
def execCoreGet (r : Req) (s : State) : Host.Outcome State Fault Refusal := mbxRow cmdCoreGet r s

/-- MON_ACCESS (R411). -/
def execMonAccess (r : Req) (s : State) : Host.Outcome State Fault Refusal := mbxRow cmdMonAccess r s

/-- FREEZE (R344). -/
def execFreeze (r : Req) (s : State) : Host.Outcome State Fault Refusal := mbxRow cmdFreeze r s

/-- CAPTURE_READ (R344). -/
def execCaptureRead (r : Req) (s : State) : Host.Outcome State Fault Refusal := mbxRow cmdCaptureRead r s

/-- CAPTURE_RELEASE (R420). -/
def execCaptureRelease (r : Req) (s : State) : Host.Outcome State Fault Refusal := mbxRow cmdCaptureRelease r s

end Sys2Proof.Machine
end

