-- ==== Sys2Proof/Machine/DuoLog.lean ====
section
/-!
DEFINITION. Machine/DuoLog.lean: what the standby applies from a step record (R375, R378), and the join (R388, R389).
-/
namespace Sys2Proof.Machine

/-! ### An entry at its instant -/

/-- A change as of an instant of device time: the entry's own instant counts, not the instant at which it is applied
(R130, R144, R375). -/
def State.asOf (s : State) (at_ : Nat) (f : State → State) : State :=
  let t := s.chip.time
  let s := f (s.on fun c => c.setRaw (unpackTime at_ * 65536))
  s.on fun c => { c with time := { c.time with ctr0 := t.ctr0, ctr1 := t.ctr1, ctr2 := t.ctr2 } }

/-! ### Runs (R378) -/

/-- A number that the active accepted (R193, R194, R378): the standby's instance follows, without counting. -/
def Brkw.follow (x : Brkw) (k : Nat) : Brkw :=
  let h := x.cfg.histLen
  if x.cfg.algo = 1 then
    { x with top := if x.takeAny || decide (0 < dist 32 k x.top) then k else x.top, last := some k, takeAny := false,
             silent := false }
  else if x.takeAny then { x with top := k, last := some k, seen := [k], takeAny := false, silent := false }
  else if 0 < dist 32 k x.top then
    { x with top := k, last := some k, silent := false, seen := k :: x.seen.filter fun y => decide (dist 32 k y < h) }
  else { x with last := some k, seen := if x.seen.contains k then x.seen else k :: x.seen, silent := false }

/-- The numbers of a run. -/
def runNumbers (rx n : Nat) : List Nat := (List.range n).map fun i => (rx + i) % 2 ^ 32

/-- The copies kept that a run of the numbers ks confirms are handled, oldest first; a further copy of such a number is a
duplicate, where the instance recovers (R193, R378). -/
def State.matchPend (s : State) (h : Nat) (ks : List Nat) : State :=
  s.chip.duo.pend.foldl (fun s x =>
    let gone (s : State) : State := s.on fun c => c.setDuo { c.duo with pend := c.duo.pend.filter fun y => y != x }
    if x.on.h ≠ h then s
    else match s.chip.findRun h x.num x.launch.isSome with
      | none =>
        if x.launch.isNone && ks.contains x.num && (s.chip.inst h).cfg.mode != modeOff then
          (gone s).on fun c => (c.learnOn h x.path x.num x.f.ts).discarded h
        else s
      | some run =>
        match x.launch with
        | some l => (gone s).release8 x.on x.f x.num l x.x x.bypass
        | none => (gone s).confirmed x.on x.path x.num x.f run x.x) s

/-- A RUN entry (R375, R378): recovery state, history and GEN_NEXT follow, the run waits for its copies, and the copies
that wait for it are handled. Of an ALIGN instance, an entry with an anchor tells of acceptances, one without of numbers
taken at release (notes/assumptions/55.md). -/
def State.applyRun (s : State) (h n rx gen anchor : Nat) : State :=
  let ks := runNumbers rx n
  let align := decide ((s.chip.inst h).cfg.mode = modeAlign)
  let rel := align && anchor == 0
  let was := (s.chip.inst h).seen
  let s := s.on fun c =>
    let x := c.inst h
    let x := if x.cfg.mode = modeOff ∨ rel then x else ks.foldl Brkw.follow x
    let x := if x.cfg.gen = 0 || (align && !rel) then x else { x with cfg := { x.cfg with genNext := (gen + n) % 2 ^ 32 } }
    (c.setInst h x).setDuo { c.duo with log := c.duo.log ++ [⟨h, rel, rx, gen, anchor, ks, none⟩] }
  let s := if rel then s else ks.foldl (fun s k => s.historySync h k was) s
  s.matchPend h (if rel then [] else ks)

/-! ### Entries (R375) -/

/-- A COMMAND entry (R332, R375): the command's effects, as of its acceptance. The time commands act on the unit's own
time (R379). A PORT_HANDOVER that comes as a COMMAND has joined a hand-over that was running and changes nothing. The
DUO_LEAVE of the active unit takes place at the next epoch boundary, as a swap does (R392). -/
def State.applyCommand (s : State) (op at_ : Nat) (p : Bytes) : State :=
  if op = 0xB004 then s.on fun c =>
    c.setDuo { c.duo with swapEpoch := some (c.fld .DUO_STATUS_EPOCH 0), swapAcked := true, leave := true }
  else if op = 0x7010 then s
  else match findCmd op with
    | none => s
    | some k =>
      let run (s : State) : State :=
        let r := k.body p s
        if r.status = 0 then r.st.on fun c => c.marked (k.writes s.chip p) else s.used r.st.chip
      if op / 4096 = 4 then run s else s.asOf at_ run

/-- An entry of a step record on the standby (R130, R144, R234, R311, R375, R391). -/
def State.applyEntry (s : State) (e : StepEntry) : State :=
  match e with
  | .run h n rx gen anchor => s.applyRun h n rx gen anchor
  | .command op at_ p => s.applyCommand op at_ p
  | .timed h op exec p =>
    s.on fun c => c.setMbx { c.mbx with timed := (c.mbx.timed.filter fun t => t.handle != h) ++ [⟨h, op, unpackTime exec, p⟩] }
  | .handover p at_ => s.on fun c => c.handLogged p (unpackTime at_)
  | .tide p op at_ start =>
    s.on fun c => match op with
      | 0 => c.tideCommitAt p (unpackTime at_) (some (unpackTime start))
      | 1 => c.tideCancel p
      | _ => c.tideStop p
  | .replay k op l =>
    s.on fun c => if op = 5 then c.endCursor k 4
      else if (c.cursor k).state = 1 then c.setCursor k { c.cursor k with l := l } else c
  | .swap ep => s.on fun c => c.setDuo { c.duo with swapEpoch := some ep, swapAcked := true }
  | .empty _ => s

/-- A step record is applied and acknowledged (R375). What it does to port 248 may be a loss of the duo link (R383). A unit
that has become ACTIVE at a swap takes the last runs of the former active unit, and its epochs go on (R391). -/
def State.applyRecord (s : State) (r : StepRecord) : State :=
  let s := s.watchLink fun s => r.entries.foldl State.applyEntry s
  s.on fun c =>
    (if c.duoActive then c else c.setF .DUO_STATUS_EPOCH 0 ((r.epoch + 1) % 2 ^ 48)).emit (.stepAck r.epoch)

/-- STEP_RECORD_RX (R375, R389): a standby applies it; a joiner keeps it until the STREAM epoch has ended. -/
def State.recordRx (s : State) (r : StepRecord) : State :=
  let c := s.chip
  if !(c.follows || (c.duoState == 2 && c.duoActive)) || c.link 248 != 3 then s
  else
    let s := s.on fun c => c.setB .DUO_STATUS_LINK_UP 0 true
    if c.duoState = 1 ∧ c.fld .DUO_STATUS_JOIN_EPOCH 0 ≠ 3 then
      s.on fun c => c.setDuo { c.duo with queued := c.duo.queued ++ [r] }
    else s.applyRecord r

def execStepRecordRx (rec : StepRecord) (s : State) : Host.Outcome State Fault Refusal :=
  duoRow (fun s => s.recordRx rec) s

/-! ### The start of a join (R388) -/

/-- The two units do not combine (R388). -/
def Chip.cannotJoin (c : Chip) (q : PeerInfo) : Bool :=
  q.part != (if c.ident.half then 0x2560 else 0x5120) || q.filMajor != c.filNow / 256 ||
    q.stepLog != leNat (slice c.mbx.image 0x0A 2) || q.rank == c.secondary

/-- JOINING begins: role 0 serves, role 1 joins (R383, R388, R394). -/
def Chip.startJoin (c : Chip) (q : PeerInfo) (role : Nat) : Chip :=
  let c := c.duoQuiet.setDuo { c.duoQuiet.duo with peer := some q, unacked := [], log := [], pend := [] }
  let c := ((c.setF .DUO_STATUS_JOIN_EPOCH 0 1).setF .DUO_JOIN_PROG_PAGES_COPIED 0 0).setF .DUO_JOIN_PROG_PAGES_TOTAL 0 0
  (c.duoGo 1 role 0).peerRecord

/-- The mailbox slot whose DUO_JOIN waits is answered (R388). -/
def Chip.answerJoin (c : Chip) (status : Nat) : Chip :=
  match c.duo.asked with
  | none => c
  | some i =>
    let c := c.setDuo { c.duo with asked := none }
    if (c.slot i).st = 2 then c.respond i (hdrOf (c.slot i).buf) c.fenedState status 0 [] else c

/-- The exchange of a join attempt that comes to nothing (R388, R394). -/
def Chip.exchanged (c : Chip) (q : PeerInfo) : Chip := (c.setDuo { c.duo with peer := some q }).peerRecord

/-- A peer asks to join (R388): a SOLO unit in duo mode serves it, unless the two differ or a claim is held. If this unit
has asked as well and the peer is SOLO too, the SECONDARY joins and the PRIMARY serves. -/
def Chip.peerAsks (c : Chip) (q : PeerInfo) : Chip :=
  if !c.is .DUO_CFG_ENABLE 0 || c.duoState != 0 || c.link 248 != 3 then c
  else if c.cannotJoin q || c.anyClaim || q.claims then (c.exchanged q).emit (.duoMessage 2)
  else
    let joins := c.duo.asked.isSome && c.secondary && q.solo
    let c := if joins then c else c.emit (.duoMessage 1)
    (c.answerJoin 0).startJoin q (bit joins)

/-- The peer answers this unit's DUO_JOIN (R388). -/
def Chip.peerAnswers (c : Chip) (q : PeerInfo) : Chip :=
  if c.duo.asked.isNone then c
  else if !q.solo then (c.exchanged q).answerJoin rNotFound
  else if c.cannotJoin q then (c.exchanged q).answerJoin stIncompatible
  else if q.claims || c.anyClaim then (c.exchanged q).answerJoin rInUse
  else if !c.is .DUO_CFG_ENABLE 0 || (c.duoState != 0 && c.duoState != 3) then (c.exchanged q).answerJoin stReject
  else (c.answerJoin 0).startJoin q 1

/-- PEER_JOIN_ACCEPTED (R388): the peer's request, or its answer to this unit's. -/
def execPeerJoinAccepted (peer : PeerInfo) (s : State) : Host.Outcome State Fault Refusal :=
  duoRow (fun s => s.on fun c => if peer.asks then c.peerAsks peer else c.peerAnswers peer) s

/-! ### The STREAM and STORE epochs (R389) -/

/-- A ring as the STREAM epoch brings it: its records, whose pages have still to be copied; what lies on the serving
unit's spill drive stays a gap (R389). -/
def Ring.uncopied (g : Ring) : Ring :=
  { g with recs := g.recs.map fun r => { r with gap := true }, pages := g.pages.map fun p => { p with drive := none } }

/-- The STREAM epoch on the joiner (R389): the states, then the queued records. -/
def State.joinStream (s : State) (d : PeerData) : State :=
  let s := s.on fun c =>
    let berths := d.plane.berths.map fun (e : Nat × BerthS) => (e.1, { e.2 with queue := (c.berth e.1).queue, inRace := false })
    let plane : PlaneS := { c.plane with berths := berths, ovh := d.plane.ovh, tide := d.plane.tide }
    let stor : StorS := { c.stor with
      regions := d.stor.regions.map fun (e : Nat × Region) =>
        (e.1, { e.2 with rings := e.2.rings.map fun (g : Nat × Ring) => (g.1, g.2.uncopied) }),
      cursors := d.stor.cursors }
    let brkw : BrkwS := { c.brkw with inst := d.brkw.inst, stepAt := d.brkw.stepAt }
    { c with strm := { c.strm with meterQ := d.strm.meterQ, gateQ := d.strm.gateQ }, plane := plane, brkw := brkw,
             stor := stor }
  let l := s.chip.duo.queued
  let s := s.on fun c => (c.setDuo { c.duo with queued := [] }).setF .DUO_STATUS_JOIN_EPOCH 0 3
  l.foldl State.applyRecord s

/-- A record lies on one of these pages. -/
def Ring.copied (g : Ring) (quad : Nat) (pages : List Nat) : Ring :=
  let onPage (r : Rec) : Bool := g.pages.any fun p => pages.contains (storeAddr quad p.no 0) && decide (p.start ≤ r.off) &&
    decide (r.off < p.start + 65536)
  { g with recs := g.recs.map fun r => if onPage r then { r with gap := false } else r }

/-- The STORE epoch on the joiner (R389): the copied pages, by store address. -/
def State.joinStore (s : State) (pages : List (Nat × Bytes)) : State :=
  let s := pages.foldl (fun s p => s.storeWrite p.1 p.2) s
  let as := pages.map fun p => p.1
  s.on fun c => c.setStor { c.stor with regions := c.stor.regions.map fun (e : Nat × Region) =>
    (e.1, { e.2 with rings := e.2.rings.map fun (g : Nat × Ring) => (g.1, g.2.copied e.2.quad as) }) }

/-- What the serving unit has sent in an epoch of a join (R389): its configuration and its states as of E0, and its pages. -/
def State.sent (s : State) (k : Nat) : Output :=
  if k = 3 then .duoPages s.storePages else .duoData k (s.chip.duo.e0.getD s.chip.peerData)

/-- An epoch of a join ends: on the serving unit, with what it has sent. -/
def joinEpoch (k : Nat) (joiner : State → State) (s : State) : Host.Outcome State Fault Refusal :=
  duoRow (fun s =>
    if s.chip.duoState ≠ 1 ∨ s.chip.fld .DUO_STATUS_JOIN_EPOCH 0 ≠ k then s
    else
      let s := if s.chip.duoActive then s.on fun c => c.emit (s.sent k) else joiner s
      s.on fun c =>
        if k = 1 then c.setF .DUO_STATUS_JOIN_EPOCH 0 2
        else if k = 2 then (c.setF .DUO_STATUS_JOIN_EPOCH 0 3).setF .DUO_JOIN_PROG_PAGES_TOTAL 0 c.pagesInUse
        else
          let n := if c.duoActive then c.fld .DUO_JOIN_PROG_PAGES_TOTAL 0 else c.fld .DUO_JOIN_PROG_PAGES_COPIED 0
          (c.setF .DUO_JOIN_PROG_PAGES_COPIED 0 n).setDuo { c.duo with caught := true }) s

/-- CONFIG_EPOCH_END (R389). -/
def execConfigEpochEnd (data : PeerData) (s : State) : Host.Outcome State Fault Refusal :=
  joinEpoch 1 (fun s => s.joinConfig data) s

/-- STREAM_EPOCH_END (R389). -/
def execStreamEpochEnd (data : PeerData) (s : State) : Host.Outcome State Fault Refusal :=
  joinEpoch 2 (fun s => s.joinStream data) s

/-- STORE_CATCHUP_END (R389). -/
def execStoreCatchupEnd (pages : List (Nat × Bytes)) (s : State) : Host.Outcome State Fault Refusal :=
  joinEpoch 3 (fun s => (s.joinStore pages).on fun c => c.setF .DUO_JOIN_PROG_PAGES_COPIED 0 pages.length) s

end Sys2Proof.Machine
end

