-- ==== Sys2Proof/Machine/Mmio.lean ====
section
/-!
DEFINITION. Machine/Mmio.lean: BAR0 as the two paths see it: which register an offset names (R443), access widths and
halves (R445-R448), claims (R313), the write of every register, the mailbox buffers, event ring and MSI-X tables, the
accesses that a hand-over copy holds (R129), and Fened's heartbeat (R360).
-/
namespace Sys2Proof.Machine

/-! ### The map (R443) -/

/-- The instance of a register that lies at an offset. -/
def RegDesc.at? (d : RegDesc) (off : Nat) : Option Nat :=
  if off < d.base then none
  else
    let x := off - d.base
    if d.count = 1 then (if x = 0 then some 0 else none)
    else if d.n2 = 1 then (if x % d.s1 = 0 ∧ x / d.s1 < d.count then some (x / d.s1) else none)
    else
      let k := x % d.s1
      let i := x / d.s1 * d.n2 + k / d.s2
      if k % d.s2 = 0 ∧ k / d.s2 < d.n2 ∧ i < d.count then some i else none

/-- The block that an offset lies in. -/
def blockAt (off : Nat) : Option Block :=
  if off < 0x10000 then some .HOST
  else if off < 0x20000 then some .MBX
  else if off < 0x30000 then some .MSIX
  else if off < 0x40000 then some .DMA
  else if off < 0x48000 then some .FLT
  else if off < 0x50000 then some .SAFF
  else if off < 0x60000 then some .TIME
  else if off < 0x70000 then some .DUO
  else if off < 0x80000 then some .PWR
  else if off < 0x100000 then some .CORE
  else if off < 0x300000 then some .PORT
  else if off < 0x400000 then none
  else if off < 0x800000 then some .TIDE
  else if off < 0xA00000 then some .SCHD
  else if off < 0xB00000 then some .STRM
  else if off < 0xC00000 then some .BRKW
  else if off < 0xD00000 then some .STOR
  else if off < 0xE00000 then some .SPIL
  else if off < 0xF00000 then some .DBG
  else none

/-- The register and instance at an offset. -/
def regAt (off : Nat) : Option (RegDesc × Nat) :=
  match blockAt off with
  | none => none
  | some b => b.regs.findSome? fun d => (d.at? off).map fun i => (d, i)

/-- The 64-bit register whose high half lies at an offset. -/
def highAt (off : Nat) : Option (RegDesc × Nat) :=
  if off < 4 then none
  else match regAt (off - 4) with
    | some (d, i) => if d.width = 64 then some (d, i) else none
    | none => none

/-- The companion of a read-only pair (R448). -/
def hiOf : Reg → Option Reg
  | .TIME_NOW => some .TIME_NOW_HI
  | .TIME_PPS_IN_TS => some .TIME_PPS_IN_HI
  | .TIDE_PEND_START => some .TIDE_PEND_START_HI
  | .TIDE_OPER_BASE => some .TIDE_OPER_BASE_HI
  | .TIDE_OPER_SWITCH => some .TIDE_OPER_SWITCH_HI
  | .FLT_FIRST_CAUSE => some .FLT_FIRST_CAUSE_HI
  | .FLT_FIRST_TIME => some .FLT_FIRST_TIME_HI
  | .FLT_LOG_DATA => some .FLT_LOG_DATA_HI
  | .DBG_FREEZE_START => some .DBG_FREEZE_START_HI
  | .DBG_FREEZE_END => some .DBG_FREEZE_END_HI
  | _ => none

/-- A register is the companion of such a pair. -/
def isHi (r : Reg) : Bool :=
  [Reg.TIME_NOW_HI, .TIME_PPS_IN_HI, .TIDE_PEND_START_HI, .TIDE_OPER_BASE_HI, .TIDE_OPER_SWITCH_HI, .FLT_FIRST_CAUSE_HI,
   .FLT_FIRST_TIME_HI, .FLT_LOG_DATA_HI, .DBG_FREEZE_START_HI, .DBG_FREEZE_END_HI].contains r

/-! ### Buffers and tables (R248, R299, R312) -/

/-- The slot buffers, the event ring, the MSI-X table and the pending bits. -/
inductive Area where
  | buffer (slot off : Nat)
  | ring (off : Nat)
  | table (vector off : Nat)
  | pba (off : Nat)
  deriving DecidableEq, Repr

/-- The area that an offset lies in. -/
def areaAt (off : Nat) : Option Area :=
  if 0x11000 ≤ off ∧ off < 0x19000 then some (.buffer ((off - 0x11000) / 0x1000) (off % 0x1000))
  else if 0x19000 ≤ off ∧ off < 0x1A000 then some (.ring (off - 0x19000))
  else if 0x20000 ≤ off ∧ off < 0x28000 then some (.table ((off - 0x20000) / 16) (off % 16))
  else if 0x28000 ≤ off ∧ off < 0x28100 then some (.pba (off - 0x28000))
  else none

/-- The pending bits of 32 vectors. -/
def Chip.pbaWord (c : Chip) (o : Nat) : Nat :=
  ((List.range 32).map fun k => bit (kGet false c.host.pba (8 * o + k)) * 2 ^ k).sum

/-- A double word of an area. -/
def Chip.areaWord (c : Chip) (a : Area) : Nat :=
  match a with
  | .buffer i o => leNat (slice (c.slot i).buf o 4)
  | .ring o => leNat (slice (kGet [] c.mbx.ring (o / 64)) (o % 64) 4)
  | .table v o =>
    let e := kGet MsixEntry.init c.host.msix v
    if o = 0 then e.addr % 2 ^ 32 else if o = 4 then e.addr / 2 ^ 32 else if o = 8 then e.data else bit e.masked
  | .pba o => c.pbaWord o

/-- A double word of an area is written: the ring and the pending bits are read-only. -/
def Chip.areaWrite (c : Chip) (a : Area) (v : Nat) : Chip :=
  match a with
  | .buffer i o => c.bufWrite i o (toLE 4 v)
  | .table k o =>
    let e := kGet MsixEntry.init c.host.msix k
    c.setMsix k (if o = 0 then { e with addr := e.addr / 2 ^ 32 * 2 ^ 32 + v } else if o = 4 then
      { e with addr := e.addr % 2 ^ 32 + v * 2 ^ 32 } else if o = 8 then { e with data := v } else { e with masked := v.testBit 0 })
  | _ => c

/-! ### Reads (R445, R447, R448) -/

/-- A register as a path reads it: the companion of a read-only pair gives the value latched for the path (R448), one of a
dark block zero (R2, R451). -/
def State.pathShow (s : State) (src : Src) (d : RegDesc) (i : Nat) : Nat :=
  if s.chip.dark d i then 0
  else if isHi d.reg then kGet 0 (s.chip.path src).hi (d.off i) else s.regShow d i

/-- The double word at an offset, as it stands for a path: zero where no register is (R244). -/
def State.word (s : State) (src : Src) (off : Nat) : Nat :=
  match areaAt off with
  | some a => s.chip.areaWord a
  | none => match regAt off with
    | some (d, i) => s.pathShow src d i % 2 ^ 32
    | none => match highAt off with
      | some (d, i) => s.pathShow src d i / 2 ^ 32
      | none => 0

/-- A read of a 64-bit register latches its companion for the path (R448). -/
def State.latchHi (s : State) (src : Src) (d : RegDesc) (i : Nat) : State :=
  match hiOf d.reg with
  | none => s
  | some h => match h.desc? d.block with
    | none => s
    | some e => s.on fun c => c.setPath src { c.path src with hi := kInsert (c.path src).hi (e.off i) (s.regShow e i) }

/-- A read of a double word that starts on a multiple of 4 (R447, R448). -/
def State.read4 (s : State) (src : Src) (off : Nat) : Nat × State :=
  let p := s.chip.path src
  let s := s.on fun c => c.dropHalves src
  match areaAt off, regAt off, highAt off with
  | some a, _, _ => (s.chip.areaWord a, s)
  | none, some (d, i), _ =>
    let v := s.pathShow src d i
    if d.width = 64 then
      (v % 2 ^ 32, (s.latchHi src d i).on fun c =>
        c.setPath src { c.path src with highCap := some (off + 4, v / 2 ^ 32) })
    else (v % 2 ^ 32, s)
  | none, none, some (d, i) =>
    match p.highCap with
    | some (o, v) => (if o = off then v else s.pathShow src d i / 2 ^ 32, s)
    | none => (s.pathShow src d i / 2 ^ 32, s)
  | none, none, none => (0, s)

/-- A read of BAR0 that is served: its data (R244, R445-R448). -/
def State.readBar (s : State) (src : Src) (off len : Nat) : Nat × State :=
  if len = 4 ∧ off % 4 = 0 then s.read4 src off
  else if len = 8 then
    match areaAt off, regAt off with
    | none, some (d, i) =>
      if d.width = 64 then
        (s.pathShow src d i, (s.on fun c => c.dropHalves src).latchHi src d i)
      else
        let (a, s) := s.read4 src off
        let (b, s) := s.read4 src (off + 4)
        (a + b * 2 ^ 32, s.on fun c => c.dropHalves src)
    | _, _ =>
      let (a, s) := s.read4 src off
      let (b, s) := s.read4 src (off + 4)
      (a + b * 2 ^ 32, s.on fun c => c.dropHalves src)
  else
    let base := off / 8 * 8
    let v := s.word src base + s.word src (base + 4) * 2 ^ 32
    (v / 256 ^ (off % 8) % 256 ^ len, s.on fun c => c.dropHalves src)

/-- The port whose hand-over copy holds accesses to a register (R129). -/
def Chip.heldBy (c : Chip) (d : RegDesc) (i : Nat) : Option Nat :=
  if d.block = .SCHD then c.copyingOf i
  else if d.reg = .TIDE_PORT_CFG ∧ (c.port i).hand.isSome then some i
  else none

/-- The hand-over copy that holds a read of its register. -/
def Chip.readHeldBy (c : Chip) (off : Nat) : Option Nat :=
  match regAt (off / 8 * 8) with
  | some (d, i) => c.heldBy d i
  | none => none

/-- What holds a read: the copy that holds its register (R129), or an earlier posted write of the host driver (R254). -/
def Chip.readWaits (c : Chip) (src : Src) (off : Nat) : Option Nat :=
  match c.readHeldBy off with
  | some p => some p
  | none => if src == .host then c.hostWriteHeld else none

/-- A read that nothing holds is answered. -/
def State.readAnswer (s : State) (src : Src) (off len : Nat) : State :=
  let (v, s) := s.readBar src off len
  s.on fun c => c.emit (.readData src 0 len v)

/-- REGISTER_READ (R244, R251, R254, R267, R414, R445-R448): the answer is sent, or the read waits (R129, R254). -/
def State.regRead (s : State) (src : Src) (off len : Nat) : State :=
  let c := s.chip
  let served := match src with
    | .host => c.hostServed
    | .mon => c.pwr.aonReady && !c.inReset && (!c.frozen || (0x40000 ≤ off && off < 0x50000) || 0xE00000 ≤ off)
  if !served then
    match src with
    | .host => if c.inReset || !c.is .HOST_STATUS_LINK_UP 0 then s
      else s.on fun c => (c.dropHalves src).emit (.readData src (if c.frozen then 3 else 1) len 0)
    | .mon => s.on fun c => c.dropHalves src
  else if badAccess off len then s.on fun c => (c.dropHalves src).emit (.readData src 1 len 0)
  else match c.readWaits src off with
    | some p => s.on fun c => (c.dropHalves src).holdAcc p (.read (src == .host) off len)
    | none => s.readAnswer src off len

def execRegisterRead (src : Src) (off len : Nat) (s : State) : Host.Outcome State Fault Refusal :=
  onState (fun s => s.regRead src off len) s

/-! ### Writes (R11, R313, R445, R447) -/

/-- Every writable field of a register is RW1C (R313). -/
def RegDesc.onlyRw1c (d : RegDesc) : Bool :=
  (d.fields.any fun f => f.acc == .rw1c) && d.fields.all fun f => f.acc == .ro || f.acc == .rw1c

/-- A register takes a value by its block's rules. -/
def State.setReg (s : State) (d : RegDesc) (i v : Nat) : State :=
  let off := d.off i
  let plain (s : State) : State := s.on fun c => c.writeFields d.fields i v
  match d.reg with
  | .HOST_STATUS => s.on fun c => c.wrHostStatus v
  | .HOST_APER_BASE => s.on fun c => c.wrAperBase v
  | .HOST_VEC_MAP => s.on fun c => c.wrVecMap i v
  | .MBX_DOORBELL => s.on fun c => c.wrDoorbell v
  | .DMA_CH_RING_BASE => s.on fun c => c.wrDmaBase i v
  | .DMA_CH_CFG => s.on fun c => c.wrDmaCfg i v
  | .DMA_CH_CMD => s.on fun c => c.wrDmaCmd i v
  | .DMA_CH_TAIL => s.on fun c => c.wrDmaTail i v
  | .DMA_REQ_00 => s.on fun c => c.wrDmaReq i v
  | .FLT_CMD => s.on fun c => c.wrFltCmd v
  | .FLT_CFG => s.on fun c => c.wrFltCfg v
  | .FLT_ALIVE_CFG => s.on fun c => c.wrAliveCfg v
  | .SAFF_READ_CTRL => s.wrSaffCtrl v
  | .TIME_CMD => s.wrTimeCmd v
  | .TIME_INCR => s.on fun c => c.wrTimeIncr v
  | .TIME_SERVO_CFG => s.on fun c => c.timeWrite (servoCfgOk v) 0x1000 off 0 .TIME_SERVO_CFG v
  | .TIME_CHECK_CFG => s.on fun c => c.timeWrite (checkCfgOk v) 0x1000 off 0 .TIME_CHECK_CFG v
  | .TIME_PPS_CFG => s.on fun c => c.wrPpsCfg v
  | .TIME_PORT_CFG => s.on fun c => c.timeWrite (portCfgOk v) 0x1000 off i .TIME_PORT_CFG v
  | .DUO_CFG => s.on fun c => c.wrDuoCfg v
  | .PWR_DOMAIN_CTRL => s.wrDomains v
  | .CORE_SLACK_CTRL => s.on fun c => c.wrSlackCtrl i v
  | .CORE_SLACK_CFG => s.on fun c => c.wrSlackCfg i v
  | .CORE_AVS_CTRL => s.on fun c => c.wrAvsCtrl v
  | .CORE_AVS_LIMITS => s.on fun c => c.wrAvsLimits v
  | .CORE_STAGE_LEAD => s.on fun c => c.wrStageLead i v
  | .PORT_GRP_CFG => s.on fun c => c.wrGrpCfg i v
  | .PORT_LASER_CFG => s.on fun c => c.wrLaserCfg i v
  | .PORT_CFG => s.on fun c => c.wrPortCfg i v
  | .PORT_FEC_CFG => s.on fun c => c.wrFecCfg i v
  | .PORT_MM_CFG => s.on fun c => c.wrMmCfg i v
  | .TIDE_CTRL => s.on fun c => c.wrTideCtrl i v
  | .TIDE_PORT_CFG => s.on fun c => c.wrTidePort i v
  | .TIDE_ADMIN_BASE => s.on fun c => c.wrTideAdmin i off fun c => c.writeFields d.fields i v
  | .TIDE_ADMIN_BASE_HI => s.on fun c => c.wrTideAdmin i off fun c => c.writeFields d.fields i v
  | .TIDE_ADMIN_CYCLE => s.on fun c => c.wrTideAdmin i off fun c => c.writeFields d.fields i v
  | .TIDE_ADMIN_ENTRY => s.on fun c => c.wrTideAdmin (i / 1024) off fun c => c.setAdmin (i / 1024) (i % 1024) v
  | .SCHD_BERTH_CFG => s.on fun c => c.wrBerthCfg i v
  | .SCHD_BERTH_SHAPER => s.on fun c => c.wrBerthShaper i v
  | .SCHD_BERTH_STATE => s.on fun c => c.wrBerthState i v
  | .STRM_CMD => s.on fun c => c.wrStrmCmd v
  | .STRM_PROFILE => s.on fun c => c.wrProfile i v
  | .STRM_PORT_CFG => s.on fun c => c.wrStrmPort i v
  | .BRKW_CMD => s.on fun c => c.wrBrkwCmd v
  | .STOR_CMD => s.on fun c => c.wrStorCmd v
  | .STOR_SCRUB_CFG => if bits v 15 0 = 0 then s.on fun c => c.report 0x7020 0x407 off else plain s
  | .STOR_SPILL_CFG => if spillCfgOk v then plain s else s.on fun c => c.report 0x7020 0x407 off
  | .SPIL_SLOT_CTRL => s.on fun c => c.wrSlotCtrl i v
  | .SPIL_SLOT_STATUS => s.on fun c => c.wrSlotStatus i v
  | _ => plain s

/-- A whole register is written by a path: an unclaimed function drops it (R313), a dark block ignores it (R2, R5, R451),
a hand-over copy holds it (R129), and so does the copy of a replica if it is a STRM write (R405). Writes of SCHD_BERTH_STATE and SCHD_BERTH_CNT are not held. `half` says that v carries
a new high half alone, above the present low half (R447). -/
def State.writeReg (s : State) (src : Src) (d : RegDesc) (i v : Nat) (half : Bool) : State :=
  let c := s.chip
  if c.dark d i then s
  else if !c.mayWrite d.block && !d.onlyRw1c then s.on fun c => c.unclaimedWrite (d.off i)
  else
    let holds := [Reg.SCHD_BERTH_CFG, .SCHD_BERTH_SHAPER, .TIDE_PORT_CFG].contains d.reg
    let strm := d.block == .STRM && c.replicaCopy
    match (if strm then some replicaHold else if holds then c.heldBy d i else none) with
    | some p => s.on fun c => c.holdAcc p (.write (src == .host) (d.off i) half v)
    | none => s.setReg d i v

/-- The present low half of a 64-bit register as a write of its high half alone carries it: WO and RW1C fields are zero
(R447). -/
def State.lowHalf (s : State) (d : RegDesc) (i : Nat) : Nat :=
  ((d.fields.map fun f => if f.acc = .wo ∨ f.acc = .rw1c then 0 else s.showF f.fld i * 2 ^ f.lo).sum) % 2 ^ 32

/-- A write of a double word that starts on a multiple of 4 (R447). -/
def State.write4 (s : State) (src : Src) (off v : Nat) : State :=
  let held := (s.chip.path src).lowHeld
  let s := s.on fun c => c.dropHalves src
  match areaAt off, regAt off, highAt off with
  | some a, _, _ => s.on fun c => c.areaWrite a v
  | none, some (d, i), _ =>
    if d.width = 64 then s.on fun c => c.setPath src { c.path src with lowHeld := some (off, v) }
    else s.writeReg src d i v false
  | none, none, some (d, i) =>
    let own : State := s.writeReg src d i (s.lowHalf d i + v * 2 ^ 32) true
    match held with
    | some (o, x) => if o + 4 = off then s.writeReg src d i (x + v * 2 ^ 32) false else own
    | none => own
  | none, none, none => s

/-- A write to BAR0 that is served (R244, R445, R447). -/
def State.writeBar (s : State) (src : Src) (off len v : Nat) : State :=
  let bad (s : State) : State := s.on fun c => (c.dropHalves src).count 64 .HOST_CNT_BAD_ACCESS 0
  if badAccess off len then bad s
  else if len = 4 ∧ off % 4 = 0 then s.write4 src off (v % 2 ^ 32)
  else if len = 8 then
    match areaAt off, regAt off with
    | none, some (d, i) =>
      if d.width = 64 then (s.on fun c => c.dropHalves src).writeReg src d i (v % 2 ^ 64) false
      else (s.write4 src off (v % 2 ^ 32)).write4 src (off + 4) (v / 2 ^ 32 % 2 ^ 32)
    | some (.buffer k o), _ => s.on fun c => (c.dropHalves src).bufWrite k o (toLE 8 v)
    | _, _ => (s.write4 src off (v % 2 ^ 32)).write4 src (off + 4) (v / 2 ^ 32 % 2 ^ 32)
  else bad s

/-- The path reaches the block at an offset; the monitor writes no block that belongs to the host driver (R251, R411,
R414). -/
def Chip.mayReach (c : Chip) (src : Src) (off : Nat) : Bool :=
  match blockAt off with
  | some b => c.reaches src b
  | none => match src with
    | .host => c.hostServed
    | .mon => c.pwr.aonReady && !c.inReset && c.monWrite && !c.frozen

/-- REGISTER_WRITE (R11, R313, R444-R447): a write that takes port 248 out of UP is a loss of the duo link (R383). -/
def State.regWrite (s : State) (src : Src) (off len data : Nat) : State :=
  if !s.chip.mayReach src off then s.on fun c => c.dropHalves src
  else s.watchLink fun s => s.writeBar src off len data

def execRegisterWrite (src : Src) (off len data : Nat) (s : State) : Host.Outcome State Fault Refusal :=
  onStateS (fun s => s.regWrite src off len data) s

/-! ### Heartbeat (R360) -/

/-- Fened beats: it runs, or it has been started and is still in BOOT (R360, R401 step 3). -/
def Chip.beats (c : Chip) : Bool := c.mbx.fened == .up || (c.mbx.fened == .boot && c.imageLoaded && c.mbx.act.isNone)

/-- FENED_HEARTBEAT (R360, R365): a beat of Fened. The digests whose second has passed are written, and a DUO_JOIN that
the peer left unanswered ends (R388); a standby in its decision window judges anew (R384). -/
def State.beat (s : State) : State :=
  if !s.chip.beats then s
  else
    let s := s.on fun c =>
      let c := (c.setFlt { c.flt with aliveStall := false }).judgeWindow
      (c.setMbx { c.mbx with stalled := false }).resumed.digestTick
    s.joinUnanswered

def execFenedHeartbeat (s : State) : Host.Outcome State Fault Refusal := onStateS (fun s => s.core State.beat) s

end Sys2Proof.Machine
end

