-- ==== Sys2Proof/Machine/Monitor.lean ====
section
/-!
DEFINITION. Machine/Monitor.lean: the commands of the Hjelpofel serial monitor (R410-R414, R420) and factory test mode
(R423-R425). A command is one row; what the monitor prints is one output: its data lines, the answer and the prompt.
-/
namespace Sys2Proof.Machine

/-! ### Text (R412, R413) -/

/-- Characters as bytes. -/
def ascii (s : String) : Bytes := s.toList.map fun c => BitVec.ofNat 8 c.toNat

/-- A hexadecimal digit. -/
def hexDigit (n : Nat) : Byte := BitVec.ofNat 8 (if n < 10 then 48 + n else 55 + n)

/-- A number as n hexadecimal digits. -/
def hexNat : Nat → Nat → Bytes
  | 0, _ => []
  | n + 1, v => hexNat n (v / 16) ++ [hexDigit (v % 16)]

/-- Bytes as hexadecimal digits, in their order. -/
def hexBytes (b : Bytes) : Bytes := b.flatMap fun x => hexNat 2 x.toNat

/-- The end of a line. -/
def crlf : Bytes := [13, 10]

/-- Data lines of 32 bytes each, from an offset. The first argument bounds the lines. -/
def dataLines : Nat → Nat → Bytes → Bytes
  | 0, _, _ => []
  | n + 1, o, b => if b = [] then [] else hexNat 8 o ++ ascii ": " ++ hexBytes (b.take 32) ++ crlf ++ dataLines n (o + 32) (b.drop 32)

/-- The data lines of a byte string. -/
def textLines (o : Nat) (b : Bytes) : Bytes := dataLines (b.length / 32 + 1) o b

/-- What the monitor prints: data lines, OK, and the prompt. -/
def Chip.say (c : Chip) (lines : Bytes) : Chip := c.emit (.monText (lines ++ ascii "OK" ++ crlf ++ ascii "hj> "))

/-- What the monitor prints on an error. -/
def Chip.sayErr (c : Chip) (word : String) : Chip :=
  c.emit (.monText (ascii "ERR " ++ ascii word ++ crlf ++ ascii "hj> "))

/-- The monitor still works on a command: an RD whose words a hand-over copy holds, so that no prompt has followed yet. -/
def Chip.monBusy (c : Chip) : Bool :=
  c.plane.ports.any fun e => match e.2.hand with
    | some h => h.held.any fun a => match a with
      | .words _ _ => true
      | _ => false
    | none => false

/-- A line that arrives before the prompt is discarded and counted (R412). -/
def Chip.monEarly (c : Chip) : Chip := c.count 64 .DBG_CNT_MON_ERRORS 0

/-- A monitor command: the monitor runs once the always-on domain is ready, also through a freeze (R410, R415). -/
def monRow (f : State → State) (s : State) : Host.Outcome State Fault Refusal :=
  onStateS (fun s => s.aon fun s => if s.chip.monBusy then s.on Chip.monEarly else f s) s

/-- A command of the write class: a read-only monitor answers LOCKED (R411). -/
def State.monLocked (s : State) (f : State → State) : State :=
  if s.chip.monWrite then f s else s.on fun c => c.sayErr "LOCKED"

/-- The row of a write-class command. -/
def monWriteRow (f : State → State) (s : State) : Host.Outcome State Fault Refusal := monRow (fun s => s.monLocked f) s

/-! ### Read class -/

/-- MON_ID (R413): the IDENTIFY response, then the state that Fened shows and the duo state. -/
def State.monId (s : State) : State :=
  let b := (cmdIdentify.body [] s).data ++ toLE 1 s.chip.fenedState ++ toLE 1 s.chip.duoState
  s.on fun c => c.say (textLines 0 b)

def execMonId (s : State) : Host.Outcome State Fault Refusal := monRow State.monId s

/-- An offset lies in the blocks that a freeze leaves open to the monitor (R414): FLT, SAFF and DBG. -/
def openInFreeze (off : Nat) : Bool :=
  match blockAt off with
  | some .FLT => true
  | some .SAFF => true
  | some .DBG => true
  | _ => false

/-- The domain of the block at an offset is off (R404, R451): of a PORT or TIDE block or of SPIL at any of its offsets, of
CORE at those registers that a quadrant's domain holds. -/
def Chip.domainOff (c : Chip) (off : Nat) : Bool :=
  let quadOff (q : Nat) : Bool := !c.domainOn (40 + q)
  match blockAt off with
  | some .SPIL => !c.domainOn 45
  | some .PORT => quadOff (quadOf ((off - 0x100000) / 0x10000))
  | some .TIDE => quadOff (quadOfPort ((off - 0x400000) / 0x4000))
  | some .CORE =>
    if off < 0x80400 then decide (off % 0x100 < 0x20) && quadOff ((off - 0x80000) / 0x100)
    else decide (0x82000 ≤ off) && decide (off < 0x82100) && quadOff (quadOf ((off - 0x82000) / 8))
  | _ => false

/-- Words read one after another. -/
def State.monWords (s : State) : Nat → Nat → Bytes × State
  | 0, _ => ([], s)
  | n + 1, off =>
    let (v, s) := s.readBar .mon off 8
    let (b, s) := State.monWords s n (off + 8)
    (toLE 8 v ++ b, s)

/-- The hand-over copy that holds a read of words, the first that any of them needs (R129). -/
def Chip.wordsHeldBy (c : Chip) (words : List Nat) : Option Nat := words.findSome? c.readHeldBy

/-- The monitor reads words and prints them. -/
def State.monPrint (s : State) (off n : Nat) : State :=
  let (b, s) := s.monWords n off
  s.on fun c => c.say (textLines off b)

/-- MON_RD (R129, R413, R414). -/
def State.monRd (s : State) (off n : Nat) : State :=
  let words := (List.range n).map fun k => off + 8 * k
  if off % 8 ≠ 0 ∨ n < 1 ∨ 64 < n ∨ 2 ^ 24 < off + 8 * n then s.on fun c => c.sayErr "PARAM"
  else if s.chip.frozen && !words.all openInFreeze then s.on fun c => (c.dropHalves .mon).sayErr "FROZEN"
  else if words.any s.chip.domainOff then s.on fun c => (c.dropHalves .mon).sayErr "DOMAIN_OFF"
  else match s.chip.wordsHeldBy words with
    | some p => s.on fun c => c.holdAcc p (.words off n)
    | none => s.monPrint off n

/-- MON_SAFF (R336, R413). -/
def State.monSaff (s : State) (k seq n : Nat) : State :=
  if 5 < k ∨ 2 ^ 32 ≤ seq ∨ n < 1 ∨ 16 < n then s.on fun c => c.sayErr "PARAM"
  else s.on fun c => c.say (textLines 0 (s.mram.readAt k seq n).2.flatten)

def execMonSaff (sect seq n : Nat) (s : State) : Host.Outcome State Fault Refusal :=
  monRow (fun s => s.monSaff sect seq n) s

/-- MON_CAP (R413, R420). -/
def Chip.monCap (c : Chip) (off n : Nat) : Chip :=
  if off % 32 ≠ 0 ∨ n % 32 ≠ 0 ∨ 65536 < n then c.sayErr "PARAM"
  else if !c.capHeld then c.sayErr "NOCAPTURE"
  else if c.capLen < off + n then c.sayErr "PARAM"
  else c.say (textLines off (c.capRead off n))

def execMonCap (off n : Nat) (s : State) : Host.Outcome State Fault Refusal := monRow (fun s => s.on fun c => c.monCap off n) s

/-- The rates of the monitor (R410). -/
def baudRates : List Nat := [115200, 230400, 460800, 921600, 1000000, 2000000, 3000000]

/-- MON_BAUD (R410). -/
def Chip.monBaud (c : Chip) (rate : Nat) : Chip :=
  if !baudRates.contains rate then c.sayErr "PARAM" else (c.setDbg { c.dbg with baud := rate }).say []

def execMonBaud (rate : Nat) (s : State) : Host.Outcome State Fault Refusal := monRow (fun s => s.on fun c => c.monBaud rate) s

/-! ### Write class -/

/-- A write of a word is dropped for want of a claim (R313, R414): its block belongs to an unclaimed function, and not every
register that it covers takes a write without a claim. -/
def Chip.wordUnclaimed (c : Chip) (off : Nat) : Bool :=
  match blockAt off with
  | none => false
  | some b => !c.mayWrite b && !(
      let l := [off, off + 4].filterMap regAt
      decide (l ≠ []) && l.all fun e => e.1.onlyRw1c)

/-- MON_WR (R413, R414). -/
def State.monWr (s : State) (off v : Nat) : State :=
  if off % 8 ≠ 0 ∨ 2 ^ 24 ≤ off ∨ 2 ^ 64 ≤ v then s.on fun c => c.sayErr "PARAM"
  else if s.chip.frozen && !openInFreeze off then s.on fun c => (c.dropHalves .mon).sayErr "FROZEN"
  else if off < 0x40000 then s.on fun c => (c.dropHalves .mon).sayErr "HOSTONLY"
  else if s.chip.domainOff off then s.on fun c => (c.dropHalves .mon).sayErr "DOMAIN_OFF"
  else
    let bad := s.chip.wordUnclaimed off
    let s := s.regWrite .mon off 8 v
    s.on fun c => if bad then c.sayErr "UNCLAIMED" else c.say []

/-- MON_FREEZE (R415). -/
def Chip.monFreeze (c : Chip) : Chip := ((c.setDbg { c.dbg with latchMon := true }).startFreeze 1).say []

def execMonFreeze (s : State) : Host.Outcome State Fault Refusal :=
  monWriteRow (fun s => s.on Chip.monFreeze) s

/-- MON_THAW (R417). -/
def State.monThaw (s : State) : State := s.clearLatches.on fun c => c.say []

def execMonThaw (s : State) : Host.Outcome State Fault Refusal :=
  monWriteRow State.monThaw s

/-- MON_CAPREL (R420). -/
def execMonCaprel (s : State) : Host.Outcome State Fault Refusal :=
  monWriteRow (fun s => s.on fun c => c.capRelease.say []) s

/-! ### Factory test mode (R423-R425) -/

/-- A condition bars entry (R423). -/
def State.ftestBarred (s : State) : Bool :=
  !s.chip.is .PWR_STRAPS_FTEST 0 || s.chip.is .DUO_CFG_ENABLE 0 || decide (256 ≤ s.mram.permanent)

/-- The permanent records that wait to be written count as used (R366). -/
def Chip.ftestWaiting (c : Chip) : Nat := (c.flt.queue.filter fun r => r.sect == 5 && r.typ == 2).length

/-- MON_FTEST (R423): a fresh challenge, as four groups of 8 digits. -/
def State.monFtest (s : State) : State :=
  if s.ftestBarred || decide (256 ≤ s.mram.permanent + s.chip.ftestWaiting) then s.on fun c => c.sayErr "BARRED"
  else if 3 ≤ s.chip.dbg.fails then s.on fun c => c.sayErr "DENIED"
  else s.on fun c =>
    let (v, c) := c.fresh
    let v := v % 2 ^ 128
    let group (k : Nat) : Bytes := hexNat 8 (v / 2 ^ (32 * (3 - k)))
    (c.setDbg { c.dbg with challenge := some (v, c.now) }).say
      (group 0 ++ [32] ++ group 1 ++ [32] ++ group 2 ++ [32] ++ group 3 ++ crlf)

def execMonFtest (s : State) : Host.Outcome State Fault Refusal := monRow State.monFtest s

/-- A response is valid (R423): the signature of the challenge outstanding, given within 60 s. -/
def Chip.ftestValid (c : Chip) (resp : Bytes) : Bool :=
  match c.dbg.challenge with
  | none => false
  | some (v, t) => resp.length == 96 && decide (c.now ≤ t + 60 * secT) && Config.testSigned v c.ident.serial resp

/-- Factory test mode is entered (R366, R423): the session number of the record is not given. -/
def Chip.ftestEnter (c : Chip) : Chip :=
  let (n, c) := c.fresh
  ((c.setB .DBG_STATUS_FTEST 0 true).submit 5 2 0 (toLE 4 n) true).lifeUp 7

/-- MON_FTEST_RESP (R423). -/
def State.monFtestResp (s : State) (resp : Bytes) : State :=
  if s.ftestBarred || decide (256 ≤ s.mram.permanent + s.chip.ftestWaiting) then s.on fun c => c.sayErr "BARRED"
  else s.on fun c =>
    let ok := c.ftestValid resp && decide (c.dbg.fails < 3)
    let c := c.setDbg { c.dbg with challenge := none }
    if ok then c.ftestEnter.say []
    else ((c.setDbg { c.dbg with fails := c.dbg.fails + 1 }).count 64 .DBG_CNT_CHALLENGE_FAILS 0).sayErr "DENIED"

def execMonFtestResp (response : Bytes) (s : State) : Host.Outcome State Fault Refusal :=
  monRow (fun s => s.monFtestResp response) s

/-- MON_INJECT (R424). -/
def Chip.inject (c : Chip) (source kind addr : Nat) : Chip :=
  if !c.is .DBG_STATUS_FTEST 0 then c.sayErr "NOTFTEST"
  else if 2 ^ 16 ≤ source ∨ !kindListed kind ∨ 2 ^ 64 ≤ addr then c.sayErr "PARAM"
  else ((c.reportSeen ⟨source, kind, addr, true⟩).count 64 .DBG_CNT_INJECTIONS 0).say []

def execMonInject (source kind addr : Nat) (s : State) : Host.Outcome State Fault Refusal :=
  monWriteRow (fun s => s.on fun c => c.inject source kind addr) s

/-- MON_INJECT_ECC (R424): symbols of the line that holds the store address. -/
def Chip.injectEcc (c : Chip) (addr symbols : Nat) : Chip :=
  let line := addr / 64 * 64
  if !c.is .DBG_STATUS_FTEST 0 then c.sayErr "NOTFTEST"
  else if 2 ^ 38 ≤ addr ∨ symbols < 1 ∨ 2 < symbols then c.sayErr "PARAM"
  else
    let c := c.setStor { c.stor with ecc := kInsert c.stor.ecc line (kGet 0 c.stor.ecc line + symbols) }
    (c.count 64 .DBG_CNT_INJECTIONS 0).say []

def execMonInjectEcc (addr symbols : Nat) (s : State) : Host.Outcome State Fault Refusal :=
  monWriteRow (fun s => s.on fun c => c.injectEcc addr symbols) s

/-! ### Lines (R412, R413) -/

/-- A character in capitals. -/
def upper (b : Byte) : Byte := if 97 ≤ b.toNat ∧ b.toNat ≤ 122 then b - 32 else b

/-- The words of a line. -/
def lineWords (l : Bytes) : List Bytes := (l.splitOnP fun b => b == 32 || b == 9).filter fun w => w ≠ []

/-- The value of a digit of a base. -/
def digit (base : Nat) (b : Byte) : Option Nat :=
  let n := b.toNat
  let v := if 48 ≤ n ∧ n ≤ 57 then n - 48 else if 65 ≤ n ∧ n ≤ 70 then n - 55 else if 97 ≤ n ∧ n ≤ 102 then n - 87 else base
  if v < base then some v else none

/-- The value of a word of digits of a base. -/
def digits (base : Nat) (w : Bytes) : Option Nat :=
  if w = [] then none
  else w.foldl (fun a b => match a, digit base b with
    | some x, some v => some (x * base + v)
    | _, _ => none) (some 0)

/-- A number: hexadecimal with the 0x prefix, or decimal without it (R412). -/
def number (w : Bytes) : Option Nat :=
  if (w.take 2).map upper = ascii "0X" then digits 16 (w.drop 2) else digits 10 w

/-- The numbers of words, if all are. -/
def numbers (l : List Bytes) : Option (List Nat) := l.mapM number

/-- The bytes of a test response: 12 groups of 16 hexadecimal digits (R423). -/
def response (l : List Bytes) : Option Bytes :=
  if l.length = 12 ∧ l.all (fun w => w.length == 16) then
    (l.mapM (digits 16)).map fun vs => vs.flatMap fun v => (toLE 8 v).reverse
  else none

/-- A command of the table of R413, by its words. -/
def State.monCommand (s : State) (word : Bytes) (args : List Bytes) : State :=
  let is (w : String) : Bool := word.map upper == ascii w
  let param : State := s.on fun c => c.sayErr "PARAM"
  let ns := numbers args
  if is "ID" then (if args = [] then s.monId else param)
  else if is "RD" then (match ns with
    | some [a] => s.monRd a 1
    | some [a, n] => s.monRd a n
    | _ => param)
  else if is "WR" then s.monLocked fun s => (match ns with
    | some [a, v] => s.monWr a v
    | _ => param)
  else if is "SAFF" then (match ns with
    | some [k, q] => s.monSaff k q 1
    | some [k, q, n] => s.monSaff k q n
    | _ => param)
  else if is "CAP" then (match ns with
    | some [o, n] => s.on fun c => c.monCap o n
    | _ => param)
  else if is "FREEZE" then s.monLocked fun s => if args = [] then s.on Chip.monFreeze else param
  else if is "THAW" then s.monLocked fun s => if args = [] then s.monThaw else param
  else if is "CAPREL" then s.monLocked fun s => if args = [] then s.on fun c => c.capRelease.say [] else param
  else if is "BAUD" then (match ns with
    | some [r] => s.on fun c => c.monBaud r
    | _ => param)
  else if is "FTEST" then (match args with
    | [] => s.monFtest
    | w :: l => if w.map upper == ascii "RESP" then (match response l with
        | some b => s.monFtestResp b
        | none => param) else param)
  else if is "INJECT" then s.monLocked fun s => (match ns with
    | some [a, k, v] => s.on fun c => c.inject a k v
    | _ => param)
  else if is "INJECT_ECC" then s.monLocked fun s => (match ns with
    | some [a, n] => s.on fun c => c.injectEcc a n
    | _ => param)
  else s.on fun c => c.sayErr "UNKNOWN"

/-- A line that comes in over MON_RX (R412, R413; notes/assumptions/188.md). -/
def State.monLine (s : State) (early : Bool) (text : Bytes) : State :=
  if early then s.on Chip.monEarly
  else if 256 < text.length then s.on fun c => c.sayErr "LENGTH"
  else match lineWords text with
    | [] => s.on fun c => c.emit (.monText (ascii "hj> "))
    | w :: l => s.monCommand w l

/-- MON_RD (R413, R414). -/
def execMonRd (off : MonArg) (n : Nat) (s : State) : Host.Outcome State Fault Refusal :=
  monRow (fun s => match off with
    | .num o => s.monRd o n
    | .line early text => s.monLine early text) s

/-- MON_WR (R413, R414). -/
def execMonWr (off : MonArg) (data : Nat) (s : State) : Host.Outcome State Fault Refusal :=
  monRow (fun s => match off with
    | .num o => s.monLocked fun s => s.monWr o data
    | .line early text => s.monLine early text) s

/-! ### The end of a hand-over copy (R128, R129) -/

/-- A held write, or a command of Fened whose access was held, is carried out; each Berth of the port, and each of `also`,
whose shadow it changes is marked (R129). -/
def State.landed (s : State) (p : Nat) (also : List Nat) (f : State → State) : State :=
  let t := f s
  let bs := (s.chip.berthsOf p ++ t.chip.berthsOf p ++ also).eraseDups
  t.on fun c => bs.foldl (fun c b =>
    if c.shadow b = s.chip.shadow b then c else c.setB .SCHD_BERTH_STATE_SHADOW_LATE b true) c

/-- A held access is carried out (R129): a write lands as any write does, and marks a changed shadow. A slot that was
freed meanwhile has nothing to carry out; a read of the host that a further write still holds waits on (R254). -/
def State.release (p : Nat) (s : State) (a : HeldAcc) : State :=
  match a with
  | .read host off len =>
    let src : Src := if host then .host else .mon
    match (if host then s.chip.hostWriteHeld else none) with
    | some q => s.on fun c => c.holdAcc q a
    | none => s.readAnswer src off len
  | .aper off len =>
    match s.chip.hostWriteHeld with
    | some q => s.on fun c => c.holdAcc q a
    | none => s.aperData off len
  | .write _ off half v =>
    match regAt off with
    | some (d, i) =>
      let v := if half then s.lowHalf d i + v / 2 ^ 32 * 2 ^ 32 else v
      s.landed p (if d.block = .SCHD then [i] else []) fun s => s.setReg d i v
    | none => s
  | .slot i => if (s.chip.slot i).st = 2 then s.landed p [] fun s => s.carryOut i findCmd else s
  | .timed h =>
    match s.chip.mbx.timed.find? fun t => t.handle == h with
    | some t => s.landed p [] fun s => s.runTimed t
    | none => s
  | .words off n => s.monRd off n
  | .command req => s.landed p [] fun s => s.carryOrphan req findCmd
  | .gateOp _ commit cancel v => s.on fun c => (c.gateOps commit cancel).wrStrmCmd v

/-- HANDOVER_COPY_END (R128, R129, R309): the exchange ends, the held accesses follow in order, and the timed hand-overs
that it ends are done. -/
def State.handEnds (s : State) (p : Nat) : State :=
  let done := match (s.chip.port p).hand with
    | some h => h.done
    | none => []
  let (held, c) := s.chip.handEnd p
  let c := done.foldl (fun c h => c.timedEvent h 0x7010 0) c
  held.foldl (State.release p) (s.withChip c)

/-- DOMAIN_READY (R404, R405): a requested domain becomes ready; with the end of the last copy of a replica the STRM writes
that wait for it follow in order. -/
def State.domainReady (s : State) (d : Nat) : State :=
  let s := s.on fun c =>
    let c := c.domainReady d
    if 40 ≤ d then c.setPwr { c.pwr with copying := c.pwr.copying - (c.pwr.copying &&& 2 ^ (d - 40)) } else c
  if s.chip.replicaCopy then s
  else s.chip.pwr.held.foldl (State.release replicaHold) (s.on fun c => c.setPwr { c.pwr with held := [] })

def execDomainReady (d : Nat) (s : State) : Host.Outcome State Fault Refusal :=
  onStateS (fun s => s.core fun s => s.domainReady d) s

def execHandoverCopyEnd (p : Nat) (s : State) : Host.Outcome State Fault Refusal :=
  onStateS (fun s => s.core fun s => s.handEnds p) s

end Sys2Proof.Machine
end

