-- ==== Sys2Proof/Machine/Dispatch.lean ====
section
/-!
DEFINITION. Machine/Dispatch.lean: the one table from a command to its meaning.
-/
namespace Sys2Proof.Machine

/-- The effect of a command on everything but the queue. -/
def exec (i : Instr) (s : State) : Host.Outcome State Fault Refusal :=
  match i with
  | .registerWrite src off len data => Sys2Proof.Machine.execRegisterWrite src off len data s
  | .frameRxStart p ts path bytes => Sys2Proof.Machine.execFrameRxStart p ts path bytes s
  | .frameRxEnd p len fcsOk => Sys2Proof.Machine.execFrameRxEnd p len fcsOk s
  | .mpacketRx p m => Sys2Proof.Machine.execMpacketRx p m s
  | .verifyMpacketRx p => Sys2Proof.Machine.execVerifyMpacketRx p s
  | .responseMpacketRx p => Sys2Proof.Machine.execResponseMpacketRx p s
  | .schedulerSelection p => Sys2Proof.Machine.execSchedulerSelection p s
  | .handOffTime p => Sys2Proof.Machine.execHandOffTime p s
  | .shaperCreditReturn b => Sys2Proof.Machine.execShaperCreditReturn b s
  | .quayArrival g transit => Sys2Proof.Machine.execQuayArrival g transit s
  | .quayLaunch p => Sys2Proof.Machine.execQuayLaunch p s
  | .tideEntryStart p => Sys2Proof.Machine.execTideEntryStart p s
  | .holdAdvanceEvent p => Sys2Proof.Machine.execHoldAdvanceEvent p s
  | .releaseAdvanceEvent p => Sys2Proof.Machine.execReleaseAdvanceEvent p s
  | .tideSwitch p => Sys2Proof.Machine.execTideSwitch p s
  | .tideMirrorCopyEnd p => Sys2Proof.Machine.execTideMirrorCopyEnd p s
  | .tideCtrlCommit src p data => Sys2Proof.Machine.execTideCtrlCommit src p data s
  | .tideCtrlCancel src p data => Sys2Proof.Machine.execTideCtrlCancel src p data s
  | .tideCtrlStop src p data => Sys2Proof.Machine.execTideCtrlStop src p data s
  | .handover src b data => Sys2Proof.Machine.execHandover src b data s
  | .handoverCopyEnd p => Sys2Proof.Machine.execHandoverCopyEnd p s
  | .schdBerthCfgWrite src b data => Sys2Proof.Machine.execSchdBerthCfgWrite src b data s
  | .schdBerthShaperWrite src b data => Sys2Proof.Machine.execSchdBerthShaperWrite src b data s
  | .streamGateSwitch gate => Sys2Proof.Machine.execStreamGateSwitch gate s
  | .streamGateEntry gate => Sys2Proof.Machine.execStreamGateEntry gate s
  | .egressPoolFree => Sys2Proof.Machine.execEgressPoolFree s
  | .strmKeyInsert src data => Sys2Proof.Machine.execStrmKeyInsert src data s
  | .strmKeyDelete src data => Sys2Proof.Machine.execStrmKeyDelete src data s
  | .strmKeyLookup src data => Sys2Proof.Machine.execStrmKeyLookup src data s
  | .strmHandleWrite src data => Sys2Proof.Machine.execStrmHandleWrite src data s
  | .strmHandleDelete src data => Sys2Proof.Machine.execStrmHandleDelete src data s
  | .strmEgressWrite src data => Sys2Proof.Machine.execStrmEgressWrite src data s
  | .strmMeterWrite src data => Sys2Proof.Machine.execStrmMeterWrite src data s
  | .strmGateCfgWrite src data => Sys2Proof.Machine.execStrmGateCfgWrite src data s
  | .strmGateCommit src data => Sys2Proof.Machine.execStrmGateCommit src data s
  | .strmGateCancel src data => Sys2Proof.Machine.execStrmGateCancel src data s
  | .strmGateListWrite src data => Sys2Proof.Machine.execStrmGateListWrite src data s
  | .strmCountersClear src data => Sys2Proof.Machine.execStrmCountersClear src data s
  | .strmRead src data => Sys2Proof.Machine.execStrmRead src data s
  | .slackWindow q periods tj => Sys2Proof.Machine.execSlackWindow q periods tj s
  | .avsLower => Sys2Proof.Machine.execAvsLower s
  | .avsSettle => Sys2Proof.Machine.execAvsSettle s
  | .avsReadVoutPoll => Sys2Proof.Machine.execAvsReadVoutPoll s
  | .pmbusTransactionDone e data => Sys2Proof.Machine.execPmbusTransactionDone e data s
  | .avsAlert => Sys2Proof.Machine.execAvsAlert s
  | .coreAvsCtrlWrite src data => Sys2Proof.Machine.execCoreAvsCtrlWrite src data s
  | .coreAvsLimitsWrite src data => Sys2Proof.Machine.execCoreAvsLimitsWrite src data s
  | .coreStageLeadWrite src g data => Sys2Proof.Machine.execCoreStageLeadWrite src g data s
  | .refLoss => Sys2Proof.Machine.execRefLoss s
  | .refReturn => Sys2Proof.Machine.execRefReturn s
  | .timeCtrReload k value => Sys2Proof.Machine.execTimeCtrReload k value s
  | .timeVoteSplit c0 c1 c2 => Sys2Proof.Machine.execTimeVoteSplit c0 c1 c2 s
  | .timeCmdStep src data => Sys2Proof.Machine.execTimeCmdStep src data s
  | .timeCmdLoad src data => Sys2Proof.Machine.execTimeCmdLoad src data s
  | .setValid src data => Sys2Proof.Machine.execSetValid src data s
  | .clearSuspect src data => Sys2Proof.Machine.execClearSuspect src data s
  | .ppsInEdge rising => Sys2Proof.Machine.execPpsInEdge rising s
  | .ppsInTimeout => Sys2Proof.Machine.execPpsInTimeout s
  | .ppsOutPulse => Sys2Proof.Machine.execPpsOutPulse s
  | .servoUpdate => Sys2Proof.Machine.execServoUpdate s
  | .ptpInterval inst p msg => Sys2Proof.Machine.execPtpInterval inst p msg s
  | .syncReceived inst p offset => Sys2Proof.Machine.execSyncReceived inst p offset s
  | .delayExchange inst p delay => Sys2Proof.Machine.execDelayExchange inst p delay s
  | .suspectedStepTimeout x => Sys2Proof.Machine.execSuspectedStepTimeout x s
  | .syncTimeout x => Sys2Proof.Machine.execSyncTimeout x s
  | .confirmExpiry x => Sys2Proof.Machine.execConfirmExpiry x s
  | .readmitExpiry x => Sys2Proof.Machine.execReadmitExpiry x s
  | .holdSpecExpiry => Sys2Proof.Machine.execHoldSpecExpiry s
  | .splitWrite src g data => Sys2Proof.Machine.execSplitWrite src g data s
  | .engineEnWrite src g data => Sys2Proof.Machine.execEngineEnWrite src g data s
  | .engineStartDone g laser mcodeMin mcodeMax => Sys2Proof.Machine.execEngineStartDone g laser mcodeMin mcodeMax s
  | .laserSample g input => Sys2Proof.Machine.execLaserSample g input s
  | .laserHoldEnd g => Sys2Proof.Machine.execLaserHoldEnd g s
  | .engineTempSample g temp => Sys2Proof.Machine.execEngineTempSample g temp s
  | .tempHoldEnd g => Sys2Proof.Machine.execTempHoldEnd g s
  | .portEnableWrite src p data => Sys2Proof.Machine.execPortEnableWrite src p data s
  | .receiveAligned p lanes => Sys2Proof.Machine.execReceiveAligned p lanes s
  | .upHoldExpiry p => Sys2Proof.Machine.execUpHoldExpiry p s
  | .localFault p lanes => Sys2Proof.Machine.execLocalFault p lanes s
  | .remoteFault p => Sys2Proof.Machine.execRemoteFault p s
  | .downHoldExpiry p => Sys2Proof.Machine.execDownHoldExpiry p s
  | .fecWindow p lane symbols corr uncorr => Sys2Proof.Machine.execFecWindow p lane symbols corr uncorr s
  | .verifyTimeout p => Sys2Proof.Machine.execVerifyTimeout p s
  | .portMmRestart src p data => Sys2Proof.Machine.execPortMmRestart src p data s
  | .brkwCfgWrite src data => Sys2Proof.Machine.execBrkwCfgWrite src data s
  | .brkwPathsWrite src data => Sys2Proof.Machine.execBrkwPathsWrite src data s
  | .brkwRead src data => Sys2Proof.Machine.execBrkwRead src data s
  | .brkwCountersClear src data => Sys2Proof.Machine.execBrkwCountersClear src data s
  | .brkwPathCntClear src data => Sys2Proof.Machine.execBrkwPathCntClear src data s
  | .brkwOpResetSeq src data => Sys2Proof.Machine.execBrkwOpResetSeq src data s
  | .alignRelease n path => Sys2Proof.Machine.execAlignRelease n path s
  | .resetMsSilence n => Sys2Proof.Machine.execResetMsSilence n s
  | .latentPeriod n => Sys2Proof.Machine.execLatentPeriod n s
  | .latentReset n => Sys2Proof.Machine.execLatentReset n s
  | .storRegionWrite src data => Sys2Proof.Machine.execStorRegionWrite src data s
  | .storRegionDelete src data => Sys2Proof.Machine.execStorRegionDelete src data s
  | .storHoldWrite src data => Sys2Proof.Machine.execStorHoldWrite src data s
  | .storRecordWrite src data => Sys2Proof.Machine.execStorRecordWrite src data s
  | .storCountersClear src data => Sys2Proof.Machine.execStorCountersClear src data s
  | .storReplayStart src data => Sys2Proof.Machine.execStorReplayStart src data s
  | .storReplayStop src data => Sys2Proof.Machine.execStorReplayStop src data s
  | .storRead src data => Sys2Proof.Machine.execStorRead src data s
  | .holdStateChange r => Sys2Proof.Machine.execHoldStateChange r s
  | .holdDrainRead r => Sys2Proof.Machine.execHoldDrainRead r s
  | .replayRead cur => Sys2Proof.Machine.execReplayRead cur s
  | .scrubPass => Sys2Proof.Machine.execScrubPass s
  | .spillPageWritten slot r => Sys2Proof.Machine.execSpillPageWritten slot r s
  | .spillReadComplete slot r => Sys2Proof.Machine.execSpillReadComplete slot r s
  | .spillIo slot why => Sys2Proof.Machine.execSpillIo slot why s
  | .spillCplTimeout slot => Sys2Proof.Machine.execSpillCplTimeout slot s
  | .perstNAssert => Sys2Proof.Machine.execPerstNAssert s
  | .perstNRelease => Sys2Proof.Machine.execPerstNRelease s
  | .functionReady => Sys2Proof.Machine.execFunctionReady s
  | .hotReset => Sys2Proof.Machine.execHotReset s
  | .initiateFlr => Sys2Proof.Machine.execInitiateFlr s
  | .flrComplete => Sys2Proof.Machine.execFlrComplete s
  | .hostLinkDown => Sys2Proof.Machine.execHostLinkDown s
  | .hostLinkUp speed width => Sys2Proof.Machine.execHostLinkUp speed width s
  | .busMasterEnableClear => Sys2Proof.Machine.execBusMasterEnableClear s
  | .busMasterEnableSet => Sys2Proof.Machine.execBusMasterEnableSet s
  | .configSpaceWrite off data => Sys2Proof.Machine.execConfigSpaceWrite off data s
  | .resizableBarWrite data => Sys2Proof.Machine.execResizableBarWrite data s
  | .pmControlWrite data => Sys2Proof.Machine.execPmControlWrite data s
  | .pmeTurnOff => Sys2Proof.Machine.execPmeTurnOff s
  | .aspmL1Entry => Sys2Proof.Machine.execAspmL1Entry s
  | .aspmL1Exit => Sys2Proof.Machine.execAspmL1Exit s
  | .msixVectorUnmask v => Sys2Proof.Machine.execMsixVectorUnmask v s
  | .apertureRead off len => Sys2Proof.Machine.execApertureRead off len s
  | .apertureWrite off bytes poisoned => Sys2Proof.Machine.execApertureWrite off bytes poisoned s
  | .hostAperBaseWrite src data => Sys2Proof.Machine.execHostAperBaseWrite src data s
  | .barAccessError write off len => Sys2Proof.Machine.execBarAccessError write off len s
  | .completionReceived tag cpl => Sys2Proof.Machine.execCompletionReceived tag cpl s
  | .completionTimeout tag => Sys2Proof.Machine.execCompletionTimeout tag s
  | .tagQuarantineEnd tag => Sys2Proof.Machine.execTagQuarantineEnd tag s
  | .slotPresenceChange slot drive => Sys2Proof.Machine.execSlotPresenceChange slot drive s
  | .slotPowerFault pin => Sys2Proof.Machine.execSlotPowerFault pin s
  | .attentionButtonPress pin => Sys2Proof.Machine.execAttentionButtonPress pin s
  | .buttonSequenceTimeout slot => Sys2Proof.Machine.execButtonSequenceTimeout slot s
  | .nvmeShutdownComplete slot => Sys2Proof.Machine.execNvmeShutdownComplete slot s
  | .spillLinkChange slot up speed width => Sys2Proof.Machine.execSpillLinkChange slot up speed width s
  | .dmaStart src ch data => Sys2Proof.Machine.execDmaStart src ch data s
  | .dmaStop src ch data => Sys2Proof.Machine.execDmaStop src ch data s
  | .dmaReset src ch data => Sys2Proof.Machine.execDmaReset src ch data s
  | .dmaTailWrite src ch data => Sys2Proof.Machine.execDmaTailWrite src ch data s
  | .dmaChCfgWrite src ch data => Sys2Proof.Machine.execDmaChCfgWrite src ch data s
  | .descriptorFetched ch bytes => Sys2Proof.Machine.execDescriptorFetched ch bytes s
  | .descriptorExecute ch => Sys2Proof.Machine.execDescriptorExecute ch s
  | .descriptorComplete ch => Sys2Proof.Machine.execDescriptorComplete ch s
  | .rxClassDelivery ch => Sys2Proof.Machine.execRxClassDelivery ch s
  | .dmaReqEnable src r data => Sys2Proof.Machine.execDmaReqEnable src r data s
  | .requestBurst r => Sys2Proof.Machine.execRequestBurst r s
  | .mbxPost src data => Sys2Proof.Machine.execMbxPost src data s
  | .mbxRelease src data => Sys2Proof.Machine.execMbxRelease src data s
  | .mbxAccept => Sys2Proof.Machine.execMbxAccept s
  | .timedExecute => Sys2Proof.Machine.execTimedExecute s
  | .identify r => Sys2Proof.Machine.execIdentify r s
  | .getState r => Sys2Proof.Machine.execGetState r s
  | .reset r => Sys2Proof.Machine.execReset r s
  | .claim r => Sys2Proof.Machine.execClaim r s
  | .release r => Sys2Proof.Machine.execRelease r s
  | .cancelTimed r => Sys2Proof.Machine.execCancelTimed r s
  | .listTimed r => Sys2Proof.Machine.execListTimed r s
  | .fwBegin r => Sys2Proof.Machine.execFwBegin r s
  | .fwWrite r => Sys2Proof.Machine.execFwWrite r s
  | .fwVerify r => Sys2Proof.Machine.execFwVerify r s
  | .fwActivate r => Sys2Proof.Machine.execFwActivate r s
  | .activationLoadDone ok => Sys2Proof.Machine.execActivationLoadDone ok s
  | .fenedTakeover => Sys2Proof.Machine.execFenedTakeover s
  | .activationGraceExpiry => Sys2Proof.Machine.execActivationGraceExpiry s
  | .fwQuery r => Sys2Proof.Machine.execFwQuery r s
  | .fwSetMinSec r => Sys2Proof.Machine.execFwSetMinSec r s
  | .saffInfo r => Sys2Proof.Machine.execSaffInfo r s
  | .saffRead r => Sys2Proof.Machine.execSaffRead r s
  | .saffClear r => Sys2Proof.Machine.execSaffClear r s
  | .timeGet r => Sys2Proof.Machine.execTimeGet r s
  | .timeLoad r => Sys2Proof.Machine.execTimeLoad r s
  | .timeStep r => Sys2Proof.Machine.execTimeStep r s
  | .timeCfg r => Sys2Proof.Machine.execTimeCfg r s
  | .timeSrcSet r => Sys2Proof.Machine.execTimeSrcSet r s
  | .timeSrcReadmit r => Sys2Proof.Machine.execTimeSrcReadmit r s
  | .timeSrcGet r => Sys2Proof.Machine.execTimeSrcGet r s
  | .timePortSet r => Sys2Proof.Machine.execTimePortSet r s
  | .timeClearSuspect r => Sys2Proof.Machine.execTimeClearSuspect r s
  | .ptpInstSet r => Sys2Proof.Machine.execPtpInstSet r s
  | .ptpInstDelete r => Sys2Proof.Machine.execPtpInstDelete r s
  | .ptpInstGet r => Sys2Proof.Machine.execPtpInstGet r s
  | .portGroupSet r => Sys2Proof.Machine.execPortGroupSet r s
  | .portSet r => Sys2Proof.Machine.execPortSet r s
  | .portGet r => Sys2Proof.Machine.execPortGet r s
  | .portGroupGet r => Sys2Proof.Machine.execPortGroupGet r s
  | .mmRestart r => Sys2Proof.Machine.execMmRestart r s
  | .profileSet r => Sys2Proof.Machine.execProfileSet r s
  | .portLookupSet r => Sys2Proof.Machine.execPortLookupSet r s
  | .handleCreate r => Sys2Proof.Machine.execHandleCreate r s
  | .handleWrite r => Sys2Proof.Machine.execHandleWrite r s
  | .handleDelete r => Sys2Proof.Machine.execHandleDelete r s
  | .keyInsert r => Sys2Proof.Machine.execKeyInsert r s
  | .keyDelete r => Sys2Proof.Machine.execKeyDelete r s
  | .keyLookup r => Sys2Proof.Machine.execKeyLookup r s
  | .egressSet r => Sys2Proof.Machine.execEgressSet r s
  | .meterSet r => Sys2Proof.Machine.execMeterSet r s
  | .gateCfgSet r => Sys2Proof.Machine.execGateCfgSet r s
  | .gateListWrite r => Sys2Proof.Machine.execGateListWrite r s
  | .gateCommit r => Sys2Proof.Machine.execGateCommit r s
  | .streamGet r => Sys2Proof.Machine.execStreamGet r s
  | .streamClear r => Sys2Proof.Machine.execStreamClear r s
  | .filterUnlatch r => Sys2Proof.Machine.execFilterUnlatch r s
  | .strmUsageGet r => Sys2Proof.Machine.execStrmUsageGet r s
  | .portStrmCntGet r => Sys2Proof.Machine.execPortStrmCntGet r s
  | .berthSet r => Sys2Proof.Machine.execBerthSet r s
  | .berthGet r => Sys2Proof.Machine.execBerthGet r s
  | .berthRelease r => Sys2Proof.Machine.execBerthRelease r s
  | .tideCfgSet r => Sys2Proof.Machine.execTideCfgSet r s
  | .tideWrite r => Sys2Proof.Machine.execTideWrite r s
  | .tideCommit r => Sys2Proof.Machine.execTideCommit r s
  | .tideGet r => Sys2Proof.Machine.execTideGet r s
  | .tideRead r => Sys2Proof.Machine.execTideRead r s
  | .portHandover r => Sys2Proof.Machine.execPortHandover r s
  | .brkwSet r => Sys2Proof.Machine.execBrkwSet r s
  | .brkwGet r => Sys2Proof.Machine.execBrkwGet r s
  | .brkwPathGet r => Sys2Proof.Machine.execBrkwPathGet r s
  | .brkwResetSeq r => Sys2Proof.Machine.execBrkwResetSeq r s
  | .brkwClear r => Sys2Proof.Machine.execBrkwClear r s
  | .brkwPoolGet r => Sys2Proof.Machine.execBrkwPoolGet r s
  | .regionCreate r => Sys2Proof.Machine.execRegionCreate r s
  | .regionResize r => Sys2Proof.Machine.execRegionResize r s
  | .regionDelete r => Sys2Proof.Machine.execRegionDelete r s
  | .regionGet r => Sys2Proof.Machine.execRegionGet r s
  | .holdSet r => Sys2Proof.Machine.execHoldSet r s
  | .holdForce r => Sys2Proof.Machine.execHoldForce r s
  | .recordSet r => Sys2Proof.Machine.execRecordSet r s
  | .recordArm r => Sys2Proof.Machine.execRecordArm r s
  | .replayStart r => Sys2Proof.Machine.execReplayStart r s
  | .replayStop r => Sys2Proof.Machine.execReplayStop r s
  | .replayGet r => Sys2Proof.Machine.execReplayGet r s
  | .storeGet r => Sys2Proof.Machine.execStoreGet r s
  | .scrubSet r => Sys2Proof.Machine.execScrubSet r s
  | .pagemapGet r => Sys2Proof.Machine.execPagemapGet r s
  | .spillPrepare r => Sys2Proof.Machine.execSpillPrepare r s
  | .spillSet r => Sys2Proof.Machine.execSpillSet r s
  | .spillGet r => Sys2Proof.Machine.execSpillGet r s
  | .slotPower r => Sys2Proof.Machine.execSlotPower r s
  | .slotLocate r => Sys2Proof.Machine.execSlotLocate r s
  | .duoGet r => Sys2Proof.Machine.execDuoGet r s
  | .duoCfg r => Sys2Proof.Machine.execDuoCfg r s
  | .duoJoin r => Sys2Proof.Machine.execDuoJoin r s
  | .duoLeave r => Sys2Proof.Machine.execDuoLeave r s
  | .duoSwap r => Sys2Proof.Machine.execDuoSwap r s
  | .fltGet r => Sys2Proof.Machine.execFltGet r s
  | .fltLogRead r => Sys2Proof.Machine.execFltLogRead r s
  | .fltCfg r => Sys2Proof.Machine.execFltCfg r s
  | .fltClearFirst r => Sys2Proof.Machine.execFltClearFirst r s
  | .pwrGet r => Sys2Proof.Machine.execPwrGet r s
  | .pwrDomainSet r => Sys2Proof.Machine.execPwrDomainSet r s
  | .slackSet r => Sys2Proof.Machine.execSlackSet r s
  | .avsSet r => Sys2Proof.Machine.execAvsSet r s
  | .stageLeadSet r => Sys2Proof.Machine.execStageLeadSet r s
  | .coreGet r => Sys2Proof.Machine.execCoreGet r s
  | .monAccess r => Sys2Proof.Machine.execMonAccess r s
  | .freeze r => Sys2Proof.Machine.execFreeze r s
  | .captureRead r => Sys2Proof.Machine.execCaptureRead r s
  | .captureRelease r => Sys2Proof.Machine.execCaptureRelease r s
  | .faultReport r => Sys2Proof.Machine.execFaultReport r s
  | .faultBatchClose => Sys2Proof.Machine.execFaultBatchClose s
  | .pairClose source kind => Sys2Proof.Machine.execPairClose source kind s
  | .quietPeriodExpiry aonMs => Sys2Proof.Machine.execQuietPeriodExpiry aonMs s
  | .fatalConditionClear aonMs => Sys2Proof.Machine.execFatalConditionClear aonMs s
  | .fenedStall => Sys2Proof.Machine.execFenedStall s
  | .fltCmdClearFirst src data => Sys2Proof.Machine.execFltCmdClearFirst src data s
  | .saffRecordWrite mismatches => Sys2Proof.Machine.execSaffRecordWrite mismatches s
  | .saffReadCtrlStart src data => Sys2Proof.Machine.execSaffReadCtrlStart src data s
  | .lifetimeSnapshot => Sys2Proof.Machine.execLifetimeSnapshot s
  | .epochEnd => Sys2Proof.Machine.execEpochEnd s
  | .stepRecordRx rec => Sys2Proof.Machine.execStepRecordRx rec s
  | .stepAckRx epoch roundTrip => Sys2Proof.Machine.execStepAckRx epoch roundTrip s
  | .ackTimeout => Sys2Proof.Machine.execAckTimeout s
  | .recordSilence => Sys2Proof.Machine.execRecordSilence s
  | .peerPinChange reading => Sys2Proof.Machine.execPeerPinChange reading s
  | .decisionWindowOpen => Sys2Proof.Machine.execDecisionWindowOpen s
  | .decisionWindowEnd => Sys2Proof.Machine.execDecisionWindowEnd s
  | .takeoverComplete => Sys2Proof.Machine.execTakeoverComplete s
  | .soleActionStop => Sys2Proof.Machine.execSoleActionStop s
  | .orphanExpiry => Sys2Proof.Machine.execOrphanExpiry s
  | .missingExpiry => Sys2Proof.Machine.execMissingExpiry s
  | .configEpochEnd data => Sys2Proof.Machine.execConfigEpochEnd data s
  | .streamEpochEnd data => Sys2Proof.Machine.execStreamEpochEnd data s
  | .storeCatchupEnd pages => Sys2Proof.Machine.execStoreCatchupEnd pages s
  | .joinAbort => Sys2Proof.Machine.execJoinAbort s
  | .rstNAssert => Sys2Proof.Machine.execRstNAssert s
  | .rstNRelease straps => Sys2Proof.Machine.execRstNRelease straps s
  | .supplyOutOfWindow supply => Sys2Proof.Machine.execSupplyOutOfWindow supply s
  | .alwaysOnReady => Sys2Proof.Machine.execAlwaysOnReady s
  | .bootRomLoadDone => Sys2Proof.Machine.execBootRomLoadDone s
  | .memoryTrainingDone m ok => Sys2Proof.Machine.execMemoryTrainingDone m ok s
  | .fenedReady => Sys2Proof.Machine.execFenedReady s
  | .pwrDomainCtrlWrite src data => Sys2Proof.Machine.execPwrDomainCtrlWrite src data s
  | .domainReady d => Sys2Proof.Machine.execDomainReady d s
  | .bridgeDown d => Sys2Proof.Machine.execBridgeDown d s
  | .bridgeRetrain d ok => Sys2Proof.Machine.execBridgeRetrain d ok s
  | .storeStackFail m => Sys2Proof.Machine.execStoreStackFail m s
  | .stackAutoRetrain m => Sys2Proof.Machine.execStackAutoRetrain m s
  | .freezePin => Sys2Proof.Machine.execFreezePin s
  | .freezePinLow => Sys2Proof.Machine.execFreezePinLow s
  | .captureCopyDone => Sys2Proof.Machine.execCaptureCopyDone s
  | .mailboxLatchExpiry => Sys2Proof.Machine.execMailboxLatchExpiry s
  | .monId => Sys2Proof.Machine.execMonId s
  | .monRd off n => Sys2Proof.Machine.execMonRd off n s
  | .monWr off data => Sys2Proof.Machine.execMonWr off data s
  | .monSaff sect seq n => Sys2Proof.Machine.execMonSaff sect seq n s
  | .monCap off n => Sys2Proof.Machine.execMonCap off n s
  | .monFreeze => Sys2Proof.Machine.execMonFreeze s
  | .monThaw => Sys2Proof.Machine.execMonThaw s
  | .monCaprel => Sys2Proof.Machine.execMonCaprel s
  | .monBaud rate => Sys2Proof.Machine.execMonBaud rate s
  | .monFtest => Sys2Proof.Machine.execMonFtest s
  | .monFtestResp response => Sys2Proof.Machine.execMonFtestResp response s
  | .monInject source kind addr => Sys2Proof.Machine.execMonInject source kind addr s
  | .monInjectEcc addr symbols => Sys2Proof.Machine.execMonInjectEcc addr symbols s
  | .jtagExtest boundary => Sys2Proof.Machine.execJtagExtest boundary s
  | .jtagIdcode => Sys2Proof.Machine.execJtagIdcode s
  | .jtagSamplePreload boundary => Sys2Proof.Machine.execJtagSamplePreload boundary s
  | .jtagFreeze => Sys2Proof.Machine.execJtagFreeze s
  | .jtagThaw => Sys2Proof.Machine.execJtagThaw s
  | .jtagCapRead off n => Sys2Proof.Machine.execJtagCapRead off n s
  | .jtagSaffRead off => Sys2Proof.Machine.execJtagSaffRead off s
  | .jtagCapRelease => Sys2Proof.Machine.execJtagCapRelease s
  | .jtagBypass tdi => Sys2Proof.Machine.execJtagBypass tdi s
  | .fenedHeartbeat => Sys2Proof.Machine.execFenedHeartbeat s
  | .aliveEdge => Sys2Proof.Machine.execAliveEdge s
  | .ppsOutPulseEnd => Sys2Proof.Machine.execPpsOutPulseEnd s
  | .registerRead src off len => Sys2Proof.Machine.execRegisterRead src off len s
  | .peerJoinAccepted peer => Sys2Proof.Machine.execPeerJoinAccepted peer s
  | .announceReceived inst p a => Sys2Proof.Machine.execAnnounceReceived inst p a s
  | .supplyInWindow supply => Sys2Proof.Machine.execSupplyInWindow supply s
  | .powerRemoval => Sys2Proof.Machine.execPowerRemoval s

end Sys2Proof.Machine
end

