-- ==== Sys2Proof/Machine/Step.lean ====
section
/-!
DEFINITION. Machine/Step.lean: one step of the device: the command at the front of the queue is carried out; on an empty
queue one edge of the time reference passes (R52).
-/
namespace Sys2Proof.Machine

/-- The state with its waiting commands replaced. -/
def State.withPending (s : State) (l : List Instr) : State := { s with pending := l }

/-- One step. On an empty queue nothing is commanded and the device's counters take the next edge of the reference
(R52; DESIGN CHOICE, notes/assumptions/18.md). -/
def step (s : State) : Host.Outcome State Fault Refusal :=
  match s.pending with
  | [] => .next { s with chip := s.chip.idle }
  | i :: rest => exec i (s.withPending rest)

/-- The state with the command that a word spells put at the front of the queue; unchanged where it spells none. -/
def State.withFetchWord (s : State) (nbits w : Nat) : State :=
  match decodeTableWord nbits w with
  | none => s
  | some i => s.withPending (i :: s.pending)

end Sys2Proof.Machine
end

