-- ==== Sys2Proof/WellFormed.lean ====
section
/-!
DEFINITION. WellFormed.lean: the commands the outside world can send: every number of an object within what the spec
gives the machine, every value within its width. `exec` answers on ill-formed commands too, and claims nothing of them.
-/
namespace Sys2Proof

open Sys2Proof.Machine

/-- The first operand of a monitor row: a BAR0 offset, or a line of text (R412). -/
def monOk : MonArg → Bool
  | .num o => decide (o < 16777216)
  | .line _ _ => true

/-- An instruction code that selects the bypass register: 0xFF, or one of 8 bits that R421 does not list. -/
def bypassOk (code : Nat) : Bool := decide (code < 256) && !([0, 1, 2, 0x10, 0x11, 0x12, 0x13, 0x14].contains code)

/-- One of the 256 ports (R4). -/
def portOk (p : Nat) : Bool := decide (p < 256)

/-- One of the 32 port groups (R4). -/
def groupOk (g : Nat) : Bool := decide (g < 32)

/-- One of the 65,536 Berths. -/
def berthOk (b : Nat) : Bool := decide (b < 65536)

/-- One of the 4,096 stream gates. -/
def gateOk (g : Nat) : Bool := decide (g < 4096)

/-- One of the four quadrants. -/
def quadOk (q : Nat) : Bool := decide (q < 4)

/-- The longest periods of a quadrant's 16 slack sensors over a window (R36). -/
def sensorsOk (l : List Nat) : Bool := decide (l.length = 16)

/-- One of the 16 DMA channels. -/
def channelOk (ch : Nat) : Bool := decide (ch < 16)

/-- One of the two spill slots. -/
def slotOk (s : Nat) : Bool := decide (s < 2)

/-- A 14-bit request tag of the host endpoint. -/
def tagOk (t : Nat) : Bool := decide (t < 16384)

/-- One of the 2,048 MSI-X vectors (R248). -/
def vectorOk (v : Nat) : Bool := decide (v < 2048)

/-- A device time in units of 2^-16 ns (R9). -/
def stampOk (t : Nat) : Bool := decide (t < 2 ^ 48 * secT)

/-- A value of a time counter (R52), in units of 2^-32 ns. -/
def rawOk (t : Nat) : Bool := decide (t < 2 ^ 48 * secT * 65536)

/-- One of the 1,024 replay cursors (R233). -/
def cursorOk (c : Nat) : Bool := decide (c < 1024)

/-- A supply that PWR_SUPPLY shows. -/
def supplyOk (s : Nat) : Bool := decide (s < 8)

/-- One of the eight PTP instances. -/
def ptpOk (i : Nat) : Bool := decide (i < 8)

/-- One of the nine time sources. -/
def sourceOk (s : Nat) : Bool := decide (s < 9)

/-- A section of the Saffron record (R362). -/
def sectionOk (s : Nat) : Bool := decide (s < 6)

/-- One of the three time counters (R52). -/
def counterOk (k : Nat) : Bool := decide (k < 3)

/-- One of the eight memory stacks (R215). -/
def stackOk (m : Nat) : Bool := decide (m < 8)

/-- A switched power domain (R343). -/
def domainOk (d : Nat) : Bool := decide (d < 46)

/-- A direction of the die bridge. -/
def dirOk (d : Nat) : Bool := decide (d < 2)

/-- One of the 131,072 store regions. -/
def regionOk (r : Nat) : Bool := decide (r < 131072)

/-- One of the 64 request lines. -/
def lineOk (r : Nat) : Bool := decide (r < 64)

/-- One of the 65,536 Breakwater instances. -/
def instanceOk (n : Nat) : Bool := decide (n < 65536)

/-- What a register write carries: 64 bits at most. -/
def dataOk (v : Nat) : Bool := decide (v < 2 ^ 64)

/-- An offset of BAR0 (R243): 16 MiB. -/
def barOk (o : Nat) : Bool := decide (o < 16777216)

/-- The bytes of one register access (R244). -/
def accessOk (n : Nat) : Bool := decide (1 ≤ n ∧ n ≤ 8)

/-- A lane of a port. -/
def laneOk (l : Nat) : Bool := decide (l < 8)

/-- At most eight lanes. -/
def lanesOk (l : List LaneState) : Bool := decide (l.length ≤ 8)

/-- A source and a kind as a fault message holds them (R345). -/
def reportOk (source kind : Nat) : Bool := decide (source < 65536) && decide (kind < 65536)

/-- A frame that has its two addresses and its type, no longer than any port takes (R167). -/
def frameOk (b : Bytes) : Bool := decide (14 ≤ b.length) && decide (b.length < 16384)

/-- A descriptor of 64 bytes (R277). -/
def descriptorOk (b : Bytes) : Bool := decide (b.length % 64 = 0)

/-- At most one page in one request. -/
def burstOk (n : Nat) : Bool := decide (n ≤ 4096)

/-- The response of the factory test challenge (R423). -/
def responseOk (b : Bytes) : Bool := decide (b.length ≤ 256)

/-- A request of the host driver (R299, R303): one of eight slots, header fields within their widths. -/
def Req.wf (r : Req) : Bool :=
  decide (r.slot < 8) && decide (r.filMajor < 256) && decide (r.filMinor < 256) && decide (r.tag < 2 ^ 64) &&
    decide (r.execTime < 2 ^ 96) && decide (r.params.length ≤ 4064)

/-- An mPacket (R183). -/
def MPacket.wf (m : MPacket) : Bool := decide (m.frameCount < 4)

/-- A completion of PCI Express. -/
def Completion.wf (c : Completion) : Bool := [0, 1, 2, 4].contains c.status

/-- A step record with its epoch number (R375). -/
def StepRecord.wf (r : StepRecord) : Bool := decide (r.epoch < 2 ^ 48)

/-- The command is one the outside world can send. -/
def Instr.wf (i : Instr) : Bool :=
  match i with
  | .registerWrite _ off len data => barOk off && (accessOk len && dataOk data)
  | .frameRxStart p ts _ bytes => portOk p && (stampOk ts && frameOk bytes)
  | .frameRxEnd p _ _ => portOk p
  | .mpacketRx p m => portOk p && m.wf
  | .verifyMpacketRx p => portOk p
  | .responseMpacketRx p => portOk p
  | .schedulerSelection p => portOk p
  | .handOffTime p => portOk p
  | .shaperCreditReturn b => berthOk b
  | .quayArrival g _ => groupOk g
  | .quayLaunch p => portOk p
  | .tideEntryStart p => portOk p
  | .holdAdvanceEvent p => portOk p
  | .releaseAdvanceEvent p => portOk p
  | .tideSwitch p => portOk p
  | .tideMirrorCopyEnd p => portOk p
  | .tideCtrlCommit _ p data => portOk p && dataOk data
  | .tideCtrlCancel _ p data => portOk p && dataOk data
  | .tideCtrlStop _ p data => portOk p && dataOk data
  | .handover _ b data => berthOk b && dataOk data
  | .handoverCopyEnd p => portOk p
  | .schdBerthCfgWrite _ b data => berthOk b && dataOk data
  | .schdBerthShaperWrite _ b data => berthOk b && dataOk data
  | .streamGateSwitch gate => gateOk gate
  | .streamGateEntry gate => gateOk gate
  | .egressPoolFree => true
  | .strmKeyInsert _ data => dataOk data
  | .strmKeyDelete _ data => dataOk data
  | .strmKeyLookup _ data => dataOk data
  | .strmHandleWrite _ data => dataOk data
  | .strmHandleDelete _ data => dataOk data
  | .strmEgressWrite _ data => dataOk data
  | .strmMeterWrite _ data => dataOk data
  | .strmGateCfgWrite _ data => dataOk data
  | .strmGateCommit _ data => dataOk data
  | .strmGateCancel _ data => dataOk data
  | .strmGateListWrite _ data => dataOk data
  | .strmCountersClear _ data => dataOk data
  | .strmRead _ data => dataOk data
  | .slackWindow q periods _ => quadOk q && sensorsOk periods
  | .avsLower => true
  | .avsSettle => true
  | .avsReadVoutPoll => true
  | .pmbusTransactionDone _ data => dataOk data
  | .avsAlert => true
  | .coreAvsCtrlWrite _ data => dataOk data
  | .coreAvsLimitsWrite _ data => dataOk data
  | .coreStageLeadWrite _ g data => groupOk g && dataOk data
  | .refLoss => true
  | .refReturn => true
  | .timeCtrReload k value => counterOk k && rawOk value
  | .timeVoteSplit c0 c1 c2 => rawOk c0 && (rawOk c1 && rawOk c2)
  | .timeCmdStep _ data => dataOk data
  | .timeCmdLoad _ data => dataOk data
  | .setValid _ data => dataOk data
  | .clearSuspect _ data => dataOk data
  | .ppsInEdge _ => true
  | .ppsInTimeout => true
  | .ppsOutPulse => true
  | .servoUpdate => true
  | .ptpInterval inst p _ => portOk p && ptpOk inst
  | .syncReceived inst p _ => portOk p && ptpOk inst
  | .delayExchange inst p _ => portOk p && ptpOk inst
  | .suspectedStepTimeout x => sourceOk x
  | .syncTimeout x => sourceOk x
  | .confirmExpiry x => sourceOk x
  | .readmitExpiry x => sourceOk x
  | .holdSpecExpiry => true
  | .splitWrite _ g data => groupOk g && dataOk data
  | .engineEnWrite _ g data => groupOk g && dataOk data
  | .engineStartDone g _ _ _ => groupOk g
  | .laserSample g _ => groupOk g
  | .laserHoldEnd g => groupOk g
  | .engineTempSample g _ => groupOk g
  | .tempHoldEnd g => groupOk g
  | .portEnableWrite _ p data => portOk p && dataOk data
  | .receiveAligned p lanes => portOk p && lanesOk lanes
  | .upHoldExpiry p => portOk p
  | .localFault p lanes => portOk p && lanesOk lanes
  | .remoteFault p => portOk p
  | .downHoldExpiry p => portOk p
  | .fecWindow p lane _ _ _ => portOk p && laneOk lane
  | .verifyTimeout p => portOk p
  | .portMmRestart _ p data => portOk p && dataOk data
  | .brkwCfgWrite _ data => dataOk data
  | .brkwPathsWrite _ data => dataOk data
  | .brkwRead _ data => dataOk data
  | .brkwCountersClear _ data => dataOk data
  | .brkwPathCntClear _ data => dataOk data
  | .brkwOpResetSeq _ data => dataOk data
  | .alignRelease n _ => instanceOk n
  | .resetMsSilence n => instanceOk n
  | .latentPeriod n => instanceOk n
  | .latentReset n => instanceOk n
  | .storRegionWrite _ data => dataOk data
  | .storRegionDelete _ data => dataOk data
  | .storHoldWrite _ data => dataOk data
  | .storRecordWrite _ data => dataOk data
  | .storCountersClear _ data => dataOk data
  | .storReplayStart _ data => dataOk data
  | .storReplayStop _ data => dataOk data
  | .storRead _ data => dataOk data
  | .holdStateChange r => regionOk r
  | .holdDrainRead r => regionOk r.no
  | .replayRead cur => cursorOk cur.no
  | .scrubPass => true
  | .spillPageWritten slot r => slotOk slot && regionOk r
  | .spillReadComplete slot r => slotOk slot && regionOk r
  | .spillIo slot _ => slotOk slot
  | .spillCplTimeout slot => slotOk slot
  | .perstNAssert => true
  | .perstNRelease => true
  | .functionReady => true
  | .hotReset => true
  | .initiateFlr => true
  | .flrComplete => true
  | .hostLinkDown => true
  | .hostLinkUp _ _ => true
  | .busMasterEnableClear => true
  | .busMasterEnableSet => true
  | .configSpaceWrite _ data => dataOk data
  | .resizableBarWrite data => dataOk data
  | .pmControlWrite data => dataOk data
  | .pmeTurnOff => true
  | .aspmL1Entry => true
  | .aspmL1Exit => true
  | .msixVectorUnmask v => vectorOk v
  | .apertureRead _ _ => true
  | .apertureWrite _ bytes _ => burstOk bytes.length
  | .hostAperBaseWrite _ data => dataOk data
  | .barAccessError _ _ _ => true
  | .completionReceived tag cpl => tagOk tag && cpl.wf
  | .completionTimeout tag => tagOk tag
  | .tagQuarantineEnd tag => tagOk tag
  | .slotPresenceChange slot _ => slotOk slot
  | .slotPowerFault pin => slotOk pin.slot
  | .attentionButtonPress pin => slotOk pin.slot
  | .buttonSequenceTimeout slot => slotOk slot
  | .nvmeShutdownComplete slot => slotOk slot
  | .spillLinkChange slot _ _ _ => slotOk slot
  | .dmaStart _ ch data => channelOk ch && dataOk data
  | .dmaStop _ ch data => channelOk ch && dataOk data
  | .dmaReset _ ch data => channelOk ch && dataOk data
  | .dmaTailWrite _ ch data => channelOk ch && dataOk data
  | .dmaChCfgWrite _ ch data => channelOk ch && dataOk data
  | .descriptorFetched ch bytes => channelOk ch && descriptorOk bytes
  | .descriptorExecute ch => channelOk ch
  | .descriptorComplete ch => channelOk ch
  | .rxClassDelivery ch => channelOk ch
  | .dmaReqEnable _ r data => lineOk r && dataOk data
  | .requestBurst r => lineOk r
  | .mbxPost _ data => dataOk data
  | .mbxRelease _ data => dataOk data
  | .mbxAccept => true
  | .timedExecute => true
  | .identify r => r.wf
  | .getState r => r.wf
  | .reset r => r.wf
  | .claim r => r.wf
  | .release r => r.wf
  | .cancelTimed r => r.wf
  | .listTimed r => r.wf
  | .fwBegin r => r.wf
  | .fwWrite r => r.wf
  | .fwVerify r => r.wf
  | .fwActivate r => r.wf
  | .activationLoadDone _ => true
  | .fenedTakeover => true
  | .activationGraceExpiry => true
  | .fwQuery r => r.wf
  | .fwSetMinSec r => r.wf
  | .saffInfo r => r.wf
  | .saffRead r => r.wf
  | .saffClear r => r.wf
  | .timeGet r => r.wf
  | .timeLoad r => r.wf
  | .timeStep r => r.wf
  | .timeCfg r => r.wf
  | .timeSrcSet r => r.wf
  | .timeSrcReadmit r => r.wf
  | .timeSrcGet r => r.wf
  | .timePortSet r => r.wf
  | .timeClearSuspect r => r.wf
  | .ptpInstSet r => r.wf
  | .ptpInstDelete r => r.wf
  | .ptpInstGet r => r.wf
  | .portGroupSet r => r.wf
  | .portSet r => r.wf
  | .portGet r => r.wf
  | .portGroupGet r => r.wf
  | .mmRestart r => r.wf
  | .profileSet r => r.wf
  | .portLookupSet r => r.wf
  | .handleCreate r => r.wf
  | .handleWrite r => r.wf
  | .handleDelete r => r.wf
  | .keyInsert r => r.wf
  | .keyDelete r => r.wf
  | .keyLookup r => r.wf
  | .egressSet r => r.wf
  | .meterSet r => r.wf
  | .gateCfgSet r => r.wf
  | .gateListWrite r => r.wf
  | .gateCommit r => r.wf
  | .streamGet r => r.wf
  | .streamClear r => r.wf
  | .filterUnlatch r => r.wf
  | .strmUsageGet r => r.wf
  | .portStrmCntGet r => r.wf
  | .berthSet r => r.wf
  | .berthGet r => r.wf
  | .berthRelease r => r.wf
  | .tideCfgSet r => r.wf
  | .tideWrite r => r.wf
  | .tideCommit r => r.wf
  | .tideGet r => r.wf
  | .tideRead r => r.wf
  | .portHandover r => r.wf
  | .brkwSet r => r.wf
  | .brkwGet r => r.wf
  | .brkwPathGet r => r.wf
  | .brkwResetSeq r => r.wf
  | .brkwClear r => r.wf
  | .brkwPoolGet r => r.wf
  | .regionCreate r => r.wf
  | .regionResize r => r.wf
  | .regionDelete r => r.wf
  | .regionGet r => r.wf
  | .holdSet r => r.wf
  | .holdForce r => r.wf
  | .recordSet r => r.wf
  | .recordArm r => r.wf
  | .replayStart r => r.wf
  | .replayStop r => r.wf
  | .replayGet r => r.wf
  | .storeGet r => r.wf
  | .scrubSet r => r.wf
  | .pagemapGet r => r.wf
  | .spillPrepare r => r.wf
  | .spillSet r => r.wf
  | .spillGet r => r.wf
  | .slotPower r => r.wf
  | .slotLocate r => r.wf
  | .duoGet r => r.wf
  | .duoCfg r => r.wf
  | .duoJoin r => r.wf
  | .duoLeave r => r.wf
  | .duoSwap r => r.wf
  | .fltGet r => r.wf
  | .fltLogRead r => r.wf
  | .fltCfg r => r.wf
  | .fltClearFirst r => r.wf
  | .pwrGet r => r.wf
  | .pwrDomainSet r => r.wf
  | .slackSet r => r.wf
  | .avsSet r => r.wf
  | .stageLeadSet r => r.wf
  | .coreGet r => r.wf
  | .monAccess r => r.wf
  | .freeze r => r.wf
  | .captureRead r => r.wf
  | .captureRelease r => r.wf
  | .faultReport r => reportOk r.source r.kind
  | .faultBatchClose => true
  | .pairClose source kind => reportOk source kind
  | .quietPeriodExpiry _ => true
  | .fatalConditionClear _ => true
  | .fenedStall => true
  | .fltCmdClearFirst _ data => dataOk data
  | .saffRecordWrite _ => true
  | .saffReadCtrlStart _ data => dataOk data
  | .lifetimeSnapshot => true
  | .epochEnd => true
  | .stepRecordRx rec => rec.wf
  | .stepAckRx _ _ => true
  | .ackTimeout => true
  | .recordSilence => true
  | .peerPinChange _ => true
  | .decisionWindowOpen => true
  | .decisionWindowEnd => true
  | .takeoverComplete => true
  | .soleActionStop => true
  | .orphanExpiry => true
  | .missingExpiry => true
  | .configEpochEnd _ => true
  | .streamEpochEnd _ => true
  | .storeCatchupEnd _ => true
  | .joinAbort => true
  | .rstNAssert => true
  | .rstNRelease _ => true
  | .supplyOutOfWindow supply => supplyOk supply
  | .alwaysOnReady => true
  | .bootRomLoadDone => true
  | .memoryTrainingDone m _ => stackOk m
  | .fenedReady => true
  | .pwrDomainCtrlWrite _ data => dataOk data
  | .domainReady d => domainOk d
  | .bridgeDown d => dirOk d
  | .bridgeRetrain d _ => dirOk d
  | .storeStackFail m => stackOk m
  | .stackAutoRetrain m => stackOk m
  | .freezePin => true
  | .freezePinLow => true
  | .captureCopyDone => true
  | .mailboxLatchExpiry => true
  | .monId => true
  | .monRd off _ => monOk off
  | .monWr off data => monOk off && dataOk data
  | .monSaff sect _ _ => sectionOk sect
  | .monCap _ _ => true
  | .monFreeze => true
  | .monThaw => true
  | .monCaprel => true
  | .monBaud _ => true
  | .monFtest => true
  | .monFtestResp response => responseOk response
  | .monInject source kind _ => reportOk source kind
  | .monInjectEcc _ _ => true
  | .jtagExtest _ => true
  | .jtagIdcode => true
  | .jtagSamplePreload _ => true
  | .jtagFreeze => true
  | .jtagThaw => true
  | .jtagCapRead _ _ => true
  | .jtagSaffRead _ => true
  | .jtagCapRelease => true
  | .jtagBypass x => bypassOk x.code
  | .fenedHeartbeat => true
  | .aliveEdge => true
  | .ppsOutPulseEnd => true
  | .registerRead _ off len => barOk off && accessOk len
  | .peerJoinAccepted _ => true
  | .announceReceived inst p _ => portOk p && ptpOk inst
  | .supplyInWindow supply => supplyOk supply
  | .powerRemoval => true

end Sys2Proof
end

