-- ==== Sys2Proof/Laws/PerInstr.lean ====
section
/-!
SUPPORT. Laws/PerInstr.lean: facts of the commands as syntax, one lemma per constructor. PortRange: a well-formed
command that names a port names one of the 256 ports.
-/
namespace Sys2Proof.Laws

open Sys2Proof.Machine

/-- The port that a command names as an operand. -/
def portOf (i : Instr) : Option Nat :=
  match i with
  | .frameRxStart p _ _ _ => some p
  | .frameRxEnd p _ _ => some p
  | .mpacketRx p _ => some p
  | .verifyMpacketRx p => some p
  | .responseMpacketRx p => some p
  | .schedulerSelection p => some p
  | .handOffTime p => some p
  | .quayLaunch p => some p
  | .tideEntryStart p => some p
  | .holdAdvanceEvent p => some p
  | .releaseAdvanceEvent p => some p
  | .tideSwitch p => some p
  | .tideMirrorCopyEnd p => some p
  | .tideCtrlCommit _ p _ => some p
  | .tideCtrlCancel _ p _ => some p
  | .tideCtrlStop _ p _ => some p
  | .handoverCopyEnd p => some p
  | .ptpInterval _ p _ => some p
  | .syncReceived _ p _ => some p
  | .delayExchange _ p _ => some p
  | .portEnableWrite _ p _ => some p
  | .receiveAligned p _ => some p
  | .upHoldExpiry p => some p
  | .localFault p _ => some p
  | .remoteFault p => some p
  | .downHoldExpiry p => some p
  | .fecWindow p _ _ _ _ => some p
  | .verifyTimeout p => some p
  | .portMmRestart _ p _ => some p
  | .announceReceived _ p _ => some p
  | _ => none

/-- A well-formed command names a port within the range of ports. -/
def PortRange.Statement (i : Instr) : Prop := i.wf = true → ∀ p, portOf i = some p → p < 256

theorem PortRange.of_none {i : Instr} (h : portOf i = none) : PortRange.Statement i := by
  intro _ p hp
  rw [h] at hp
  cases hp

theorem PortRange.of_port {i : Instr} {p : Nat} (hp : portOf i = some p) (h : i.wf = portOk p) :
    PortRange.Statement i := by
  intro hw q hq
  rw [hp] at hq
  cases hq
  rw [h] at hw
  exact of_decide_eq_true hw

theorem PortRange.of_port_and {i : Instr} {p : Nat} {b : Bool} (hp : portOf i = some p) (h : i.wf = (portOk p && b)) :
    PortRange.Statement i := by
  intro hw q hq
  rw [hp] at hq
  cases hq
  rw [h] at hw
  exact of_decide_eq_true (Bool.and_eq_true_iff.mp hw).1

theorem PortRange.registerWrite (src : Src) (off : Nat) (len : Nat) (data : Nat) : PortRange.Statement (.registerWrite src off len data) :=
  PortRange.of_none rfl

theorem PortRange.frameRxStart (p : Nat) (ts : Nat) (path : Path) (bytes : Bytes) : PortRange.Statement (.frameRxStart p ts path bytes) :=
  PortRange.of_port_and rfl rfl

theorem PortRange.frameRxEnd (p : Nat) (len : Nat) (fcsOk : Bool) : PortRange.Statement (.frameRxEnd p len fcsOk) :=
  PortRange.of_port rfl rfl

theorem PortRange.mpacketRx (p : Nat) (m : MPacket) : PortRange.Statement (.mpacketRx p m) :=
  PortRange.of_port_and rfl rfl

theorem PortRange.verifyMpacketRx (p : Nat) : PortRange.Statement (.verifyMpacketRx p) :=
  PortRange.of_port rfl rfl

theorem PortRange.responseMpacketRx (p : Nat) : PortRange.Statement (.responseMpacketRx p) :=
  PortRange.of_port rfl rfl

theorem PortRange.schedulerSelection (p : Nat) : PortRange.Statement (.schedulerSelection p) :=
  PortRange.of_port rfl rfl

theorem PortRange.handOffTime (p : Nat) : PortRange.Statement (.handOffTime p) :=
  PortRange.of_port rfl rfl

theorem PortRange.shaperCreditReturn (b : Nat) : PortRange.Statement (.shaperCreditReturn b) :=
  PortRange.of_none rfl

theorem PortRange.quayArrival (g : Nat) (transit : Nat) : PortRange.Statement (.quayArrival g transit) :=
  PortRange.of_none rfl

theorem PortRange.quayLaunch (p : Nat) : PortRange.Statement (.quayLaunch p) :=
  PortRange.of_port rfl rfl

theorem PortRange.tideEntryStart (p : Nat) : PortRange.Statement (.tideEntryStart p) :=
  PortRange.of_port rfl rfl

theorem PortRange.holdAdvanceEvent (p : Nat) : PortRange.Statement (.holdAdvanceEvent p) :=
  PortRange.of_port rfl rfl

theorem PortRange.releaseAdvanceEvent (p : Nat) : PortRange.Statement (.releaseAdvanceEvent p) :=
  PortRange.of_port rfl rfl

theorem PortRange.tideSwitch (p : Nat) : PortRange.Statement (.tideSwitch p) :=
  PortRange.of_port rfl rfl

theorem PortRange.tideMirrorCopyEnd (p : Nat) : PortRange.Statement (.tideMirrorCopyEnd p) :=
  PortRange.of_port rfl rfl

theorem PortRange.tideCtrlCommit (src : Src) (p : Nat) (data : Nat) : PortRange.Statement (.tideCtrlCommit src p data) :=
  PortRange.of_port_and rfl rfl

theorem PortRange.tideCtrlCancel (src : Src) (p : Nat) (data : Nat) : PortRange.Statement (.tideCtrlCancel src p data) :=
  PortRange.of_port_and rfl rfl

theorem PortRange.tideCtrlStop (src : Src) (p : Nat) (data : Nat) : PortRange.Statement (.tideCtrlStop src p data) :=
  PortRange.of_port_and rfl rfl

theorem PortRange.handover (src : Src) (b : Nat) (data : Nat) : PortRange.Statement (.handover src b data) :=
  PortRange.of_none rfl

theorem PortRange.handoverCopyEnd (p : Nat) : PortRange.Statement (.handoverCopyEnd p) :=
  PortRange.of_port rfl rfl

theorem PortRange.schdBerthCfgWrite (src : Src) (b : Nat) (data : Nat) : PortRange.Statement (.schdBerthCfgWrite src b data) :=
  PortRange.of_none rfl

theorem PortRange.schdBerthShaperWrite (src : Src) (b : Nat) (data : Nat) : PortRange.Statement (.schdBerthShaperWrite src b data) :=
  PortRange.of_none rfl

theorem PortRange.streamGateSwitch (gate : Nat) : PortRange.Statement (.streamGateSwitch gate) :=
  PortRange.of_none rfl

theorem PortRange.streamGateEntry (gate : Nat) : PortRange.Statement (.streamGateEntry gate) :=
  PortRange.of_none rfl

theorem PortRange.egressPoolFree : PortRange.Statement (.egressPoolFree) :=
  PortRange.of_none rfl

theorem PortRange.strmKeyInsert (src : Src) (data : Nat) : PortRange.Statement (.strmKeyInsert src data) :=
  PortRange.of_none rfl

theorem PortRange.strmKeyDelete (src : Src) (data : Nat) : PortRange.Statement (.strmKeyDelete src data) :=
  PortRange.of_none rfl

theorem PortRange.strmKeyLookup (src : Src) (data : Nat) : PortRange.Statement (.strmKeyLookup src data) :=
  PortRange.of_none rfl

theorem PortRange.strmHandleWrite (src : Src) (data : Nat) : PortRange.Statement (.strmHandleWrite src data) :=
  PortRange.of_none rfl

theorem PortRange.strmHandleDelete (src : Src) (data : Nat) : PortRange.Statement (.strmHandleDelete src data) :=
  PortRange.of_none rfl

theorem PortRange.strmEgressWrite (src : Src) (data : Nat) : PortRange.Statement (.strmEgressWrite src data) :=
  PortRange.of_none rfl

theorem PortRange.strmMeterWrite (src : Src) (data : Nat) : PortRange.Statement (.strmMeterWrite src data) :=
  PortRange.of_none rfl

theorem PortRange.strmGateCfgWrite (src : Src) (data : Nat) : PortRange.Statement (.strmGateCfgWrite src data) :=
  PortRange.of_none rfl

theorem PortRange.strmGateCommit (src : Src) (data : Nat) : PortRange.Statement (.strmGateCommit src data) :=
  PortRange.of_none rfl

theorem PortRange.strmGateCancel (src : Src) (data : Nat) : PortRange.Statement (.strmGateCancel src data) :=
  PortRange.of_none rfl

theorem PortRange.strmGateListWrite (src : Src) (data : Nat) : PortRange.Statement (.strmGateListWrite src data) :=
  PortRange.of_none rfl

theorem PortRange.strmCountersClear (src : Src) (data : Nat) : PortRange.Statement (.strmCountersClear src data) :=
  PortRange.of_none rfl

theorem PortRange.strmRead (src : Src) (data : Nat) : PortRange.Statement (.strmRead src data) :=
  PortRange.of_none rfl

theorem PortRange.slackWindow (q : Nat) (periods : List Nat) (tj : Int) : PortRange.Statement (.slackWindow q periods tj) :=
  PortRange.of_none rfl

theorem PortRange.avsLower : PortRange.Statement (.avsLower) :=
  PortRange.of_none rfl

theorem PortRange.avsSettle : PortRange.Statement (.avsSettle) :=
  PortRange.of_none rfl

theorem PortRange.avsReadVoutPoll : PortRange.Statement (.avsReadVoutPoll) :=
  PortRange.of_none rfl

theorem PortRange.pmbusTransactionDone (e : PmbusEnd) (data : Nat) : PortRange.Statement (.pmbusTransactionDone e data) :=
  PortRange.of_none rfl

theorem PortRange.avsAlert : PortRange.Statement (.avsAlert) :=
  PortRange.of_none rfl

theorem PortRange.coreAvsCtrlWrite (src : Src) (data : Nat) : PortRange.Statement (.coreAvsCtrlWrite src data) :=
  PortRange.of_none rfl

theorem PortRange.coreAvsLimitsWrite (src : Src) (data : Nat) : PortRange.Statement (.coreAvsLimitsWrite src data) :=
  PortRange.of_none rfl

theorem PortRange.coreStageLeadWrite (src : Src) (g : Nat) (data : Nat) : PortRange.Statement (.coreStageLeadWrite src g data) :=
  PortRange.of_none rfl

theorem PortRange.refLoss : PortRange.Statement (.refLoss) :=
  PortRange.of_none rfl

theorem PortRange.refReturn : PortRange.Statement (.refReturn) :=
  PortRange.of_none rfl

theorem PortRange.timeCtrReload (k : Nat) (value : Nat) : PortRange.Statement (.timeCtrReload k value) :=
  PortRange.of_none rfl

theorem PortRange.timeVoteSplit (c0 : Nat) (c1 : Nat) (c2 : Nat) : PortRange.Statement (.timeVoteSplit c0 c1 c2) :=
  PortRange.of_none rfl

theorem PortRange.timeCmdStep (src : Src) (data : Nat) : PortRange.Statement (.timeCmdStep src data) :=
  PortRange.of_none rfl

theorem PortRange.timeCmdLoad (src : Src) (data : Nat) : PortRange.Statement (.timeCmdLoad src data) :=
  PortRange.of_none rfl

theorem PortRange.setValid (src : Src) (data : Nat) : PortRange.Statement (.setValid src data) :=
  PortRange.of_none rfl

theorem PortRange.clearSuspect (src : Src) (data : Nat) : PortRange.Statement (.clearSuspect src data) :=
  PortRange.of_none rfl

theorem PortRange.ppsInEdge (rising : Bool) : PortRange.Statement (.ppsInEdge rising) :=
  PortRange.of_none rfl

theorem PortRange.ppsInTimeout : PortRange.Statement (.ppsInTimeout) :=
  PortRange.of_none rfl

theorem PortRange.ppsOutPulse : PortRange.Statement (.ppsOutPulse) :=
  PortRange.of_none rfl

theorem PortRange.servoUpdate : PortRange.Statement (.servoUpdate) :=
  PortRange.of_none rfl

theorem PortRange.ptpInterval (inst : Nat) (p : Nat) (msg : PtpSend) : PortRange.Statement (.ptpInterval inst p msg) :=
  PortRange.of_port_and rfl rfl

theorem PortRange.syncReceived (inst : Nat) (p : Nat) (offset : Int) : PortRange.Statement (.syncReceived inst p offset) :=
  PortRange.of_port_and rfl rfl

theorem PortRange.delayExchange (inst : Nat) (p : Nat) (delay : Int) : PortRange.Statement (.delayExchange inst p delay) :=
  PortRange.of_port_and rfl rfl

theorem PortRange.suspectedStepTimeout (x : Nat) : PortRange.Statement (.suspectedStepTimeout x) :=
  PortRange.of_none rfl

theorem PortRange.syncTimeout (x : Nat) : PortRange.Statement (.syncTimeout x) :=
  PortRange.of_none rfl

theorem PortRange.confirmExpiry (x : Nat) : PortRange.Statement (.confirmExpiry x) :=
  PortRange.of_none rfl

theorem PortRange.readmitExpiry (x : Nat) : PortRange.Statement (.readmitExpiry x) :=
  PortRange.of_none rfl

theorem PortRange.holdSpecExpiry : PortRange.Statement (.holdSpecExpiry) :=
  PortRange.of_none rfl

theorem PortRange.splitWrite (src : Src) (g : Nat) (data : Nat) : PortRange.Statement (.splitWrite src g data) :=
  PortRange.of_none rfl

theorem PortRange.engineEnWrite (src : Src) (g : Nat) (data : Nat) : PortRange.Statement (.engineEnWrite src g data) :=
  PortRange.of_none rfl

theorem PortRange.engineStartDone (g : Nat) (laser : Nat) (mcodeMin : Nat) (mcodeMax : Nat) : PortRange.Statement (.engineStartDone g laser mcodeMin mcodeMax) :=
  PortRange.of_none rfl

theorem PortRange.laserSample (g : Nat) (input : Int) : PortRange.Statement (.laserSample g input) :=
  PortRange.of_none rfl

theorem PortRange.laserHoldEnd (g : Nat) : PortRange.Statement (.laserHoldEnd g) :=
  PortRange.of_none rfl

theorem PortRange.engineTempSample (g : Nat) (temp : Int) : PortRange.Statement (.engineTempSample g temp) :=
  PortRange.of_none rfl

theorem PortRange.tempHoldEnd (g : Nat) : PortRange.Statement (.tempHoldEnd g) :=
  PortRange.of_none rfl

theorem PortRange.portEnableWrite (src : Src) (p : Nat) (data : Nat) : PortRange.Statement (.portEnableWrite src p data) :=
  PortRange.of_port_and rfl rfl

theorem PortRange.receiveAligned (p : Nat) (lanes : List LaneState) : PortRange.Statement (.receiveAligned p lanes) :=
  PortRange.of_port_and rfl rfl

theorem PortRange.upHoldExpiry (p : Nat) : PortRange.Statement (.upHoldExpiry p) :=
  PortRange.of_port rfl rfl

theorem PortRange.localFault (p : Nat) (lanes : List LaneState) : PortRange.Statement (.localFault p lanes) :=
  PortRange.of_port_and rfl rfl

theorem PortRange.remoteFault (p : Nat) : PortRange.Statement (.remoteFault p) :=
  PortRange.of_port rfl rfl

theorem PortRange.downHoldExpiry (p : Nat) : PortRange.Statement (.downHoldExpiry p) :=
  PortRange.of_port rfl rfl

theorem PortRange.fecWindow (p : Nat) (lane : Nat) (symbols : Nat) (corr : Nat) (uncorr : Nat) : PortRange.Statement (.fecWindow p lane symbols corr uncorr) :=
  PortRange.of_port_and rfl rfl

theorem PortRange.verifyTimeout (p : Nat) : PortRange.Statement (.verifyTimeout p) :=
  PortRange.of_port rfl rfl

theorem PortRange.portMmRestart (src : Src) (p : Nat) (data : Nat) : PortRange.Statement (.portMmRestart src p data) :=
  PortRange.of_port_and rfl rfl

theorem PortRange.brkwCfgWrite (src : Src) (data : Nat) : PortRange.Statement (.brkwCfgWrite src data) :=
  PortRange.of_none rfl

theorem PortRange.brkwPathsWrite (src : Src) (data : Nat) : PortRange.Statement (.brkwPathsWrite src data) :=
  PortRange.of_none rfl

theorem PortRange.brkwRead (src : Src) (data : Nat) : PortRange.Statement (.brkwRead src data) :=
  PortRange.of_none rfl

theorem PortRange.brkwCountersClear (src : Src) (data : Nat) : PortRange.Statement (.brkwCountersClear src data) :=
  PortRange.of_none rfl

theorem PortRange.brkwPathCntClear (src : Src) (data : Nat) : PortRange.Statement (.brkwPathCntClear src data) :=
  PortRange.of_none rfl

theorem PortRange.brkwOpResetSeq (src : Src) (data : Nat) : PortRange.Statement (.brkwOpResetSeq src data) :=
  PortRange.of_none rfl

theorem PortRange.alignRelease (n : Nat) (path : Path) : PortRange.Statement (.alignRelease n path) :=
  PortRange.of_none rfl

theorem PortRange.resetMsSilence (n : Nat) : PortRange.Statement (.resetMsSilence n) :=
  PortRange.of_none rfl

theorem PortRange.latentPeriod (n : Nat) : PortRange.Statement (.latentPeriod n) :=
  PortRange.of_none rfl

theorem PortRange.latentReset (n : Nat) : PortRange.Statement (.latentReset n) :=
  PortRange.of_none rfl

theorem PortRange.storRegionWrite (src : Src) (data : Nat) : PortRange.Statement (.storRegionWrite src data) :=
  PortRange.of_none rfl

theorem PortRange.storRegionDelete (src : Src) (data : Nat) : PortRange.Statement (.storRegionDelete src data) :=
  PortRange.of_none rfl

theorem PortRange.storHoldWrite (src : Src) (data : Nat) : PortRange.Statement (.storHoldWrite src data) :=
  PortRange.of_none rfl

theorem PortRange.storRecordWrite (src : Src) (data : Nat) : PortRange.Statement (.storRecordWrite src data) :=
  PortRange.of_none rfl

theorem PortRange.storCountersClear (src : Src) (data : Nat) : PortRange.Statement (.storCountersClear src data) :=
  PortRange.of_none rfl

theorem PortRange.storReplayStart (src : Src) (data : Nat) : PortRange.Statement (.storReplayStart src data) :=
  PortRange.of_none rfl

theorem PortRange.storReplayStop (src : Src) (data : Nat) : PortRange.Statement (.storReplayStop src data) :=
  PortRange.of_none rfl

theorem PortRange.storRead (src : Src) (data : Nat) : PortRange.Statement (.storRead src data) :=
  PortRange.of_none rfl

theorem PortRange.holdStateChange (r : Nat) : PortRange.Statement (.holdStateChange r) :=
  PortRange.of_none rfl

theorem PortRange.holdDrainRead (r : StoreRead) : PortRange.Statement (.holdDrainRead r) :=
  PortRange.of_none rfl

theorem PortRange.replayRead (cur : StoreRead) : PortRange.Statement (.replayRead cur) :=
  PortRange.of_none rfl

theorem PortRange.scrubPass : PortRange.Statement (.scrubPass) :=
  PortRange.of_none rfl

theorem PortRange.spillPageWritten (slot : Nat) (r : Nat) : PortRange.Statement (.spillPageWritten slot r) :=
  PortRange.of_none rfl

theorem PortRange.spillReadComplete (slot : Nat) (r : Nat) : PortRange.Statement (.spillReadComplete slot r) :=
  PortRange.of_none rfl

theorem PortRange.spillIo (slot : Nat) (why : SpillFault) : PortRange.Statement (.spillIo slot why) :=
  PortRange.of_none rfl

theorem PortRange.spillCplTimeout (slot : Nat) : PortRange.Statement (.spillCplTimeout slot) :=
  PortRange.of_none rfl

theorem PortRange.perstNAssert : PortRange.Statement (.perstNAssert) :=
  PortRange.of_none rfl

theorem PortRange.perstNRelease : PortRange.Statement (.perstNRelease) :=
  PortRange.of_none rfl

theorem PortRange.functionReady : PortRange.Statement (.functionReady) :=
  PortRange.of_none rfl

theorem PortRange.hotReset : PortRange.Statement (.hotReset) :=
  PortRange.of_none rfl

theorem PortRange.initiateFlr : PortRange.Statement (.initiateFlr) :=
  PortRange.of_none rfl

theorem PortRange.flrComplete : PortRange.Statement (.flrComplete) :=
  PortRange.of_none rfl

theorem PortRange.hostLinkDown : PortRange.Statement (.hostLinkDown) :=
  PortRange.of_none rfl

theorem PortRange.hostLinkUp (speed : Nat) (width : Nat) : PortRange.Statement (.hostLinkUp speed width) :=
  PortRange.of_none rfl

theorem PortRange.busMasterEnableClear : PortRange.Statement (.busMasterEnableClear) :=
  PortRange.of_none rfl

theorem PortRange.busMasterEnableSet : PortRange.Statement (.busMasterEnableSet) :=
  PortRange.of_none rfl

theorem PortRange.configSpaceWrite (off : Nat) (data : Nat) : PortRange.Statement (.configSpaceWrite off data) :=
  PortRange.of_none rfl

theorem PortRange.resizableBarWrite (data : Nat) : PortRange.Statement (.resizableBarWrite data) :=
  PortRange.of_none rfl

theorem PortRange.pmControlWrite (data : Nat) : PortRange.Statement (.pmControlWrite data) :=
  PortRange.of_none rfl

theorem PortRange.pmeTurnOff : PortRange.Statement (.pmeTurnOff) :=
  PortRange.of_none rfl

theorem PortRange.aspmL1Entry : PortRange.Statement (.aspmL1Entry) :=
  PortRange.of_none rfl

theorem PortRange.aspmL1Exit : PortRange.Statement (.aspmL1Exit) :=
  PortRange.of_none rfl

theorem PortRange.msixVectorUnmask (v : Nat) : PortRange.Statement (.msixVectorUnmask v) :=
  PortRange.of_none rfl

theorem PortRange.apertureRead (off : Nat) (len : Nat) : PortRange.Statement (.apertureRead off len) :=
  PortRange.of_none rfl

theorem PortRange.apertureWrite (off : Nat) (bytes : Bytes) (poisoned : Bool) : PortRange.Statement (.apertureWrite off bytes poisoned) :=
  PortRange.of_none rfl

theorem PortRange.hostAperBaseWrite (src : Src) (data : Nat) : PortRange.Statement (.hostAperBaseWrite src data) :=
  PortRange.of_none rfl

theorem PortRange.barAccessError (write : Bool) (off : Nat) (len : Nat) : PortRange.Statement (.barAccessError write off len) :=
  PortRange.of_none rfl

theorem PortRange.completionReceived (tag : Nat) (cpl : Completion) : PortRange.Statement (.completionReceived tag cpl) :=
  PortRange.of_none rfl

theorem PortRange.completionTimeout (tag : Nat) : PortRange.Statement (.completionTimeout tag) :=
  PortRange.of_none rfl

theorem PortRange.tagQuarantineEnd (tag : Nat) : PortRange.Statement (.tagQuarantineEnd tag) :=
  PortRange.of_none rfl

theorem PortRange.slotPresenceChange (slot : Nat) (drive : Option DriveInfo) : PortRange.Statement (.slotPresenceChange slot drive) :=
  PortRange.of_none rfl

theorem PortRange.slotPowerFault (pin : SlotPin) : PortRange.Statement (.slotPowerFault pin) :=
  PortRange.of_none rfl

theorem PortRange.attentionButtonPress (pin : SlotPin) : PortRange.Statement (.attentionButtonPress pin) :=
  PortRange.of_none rfl

theorem PortRange.buttonSequenceTimeout (slot : Nat) : PortRange.Statement (.buttonSequenceTimeout slot) :=
  PortRange.of_none rfl

theorem PortRange.nvmeShutdownComplete (slot : Nat) : PortRange.Statement (.nvmeShutdownComplete slot) :=
  PortRange.of_none rfl

theorem PortRange.spillLinkChange (slot : Nat) (up : Bool) (speed : Nat) (width : Nat) : PortRange.Statement (.spillLinkChange slot up speed width) :=
  PortRange.of_none rfl

theorem PortRange.dmaStart (src : Src) (ch : Nat) (data : Nat) : PortRange.Statement (.dmaStart src ch data) :=
  PortRange.of_none rfl

theorem PortRange.dmaStop (src : Src) (ch : Nat) (data : Nat) : PortRange.Statement (.dmaStop src ch data) :=
  PortRange.of_none rfl

theorem PortRange.dmaReset (src : Src) (ch : Nat) (data : Nat) : PortRange.Statement (.dmaReset src ch data) :=
  PortRange.of_none rfl

theorem PortRange.dmaTailWrite (src : Src) (ch : Nat) (data : Nat) : PortRange.Statement (.dmaTailWrite src ch data) :=
  PortRange.of_none rfl

theorem PortRange.dmaChCfgWrite (src : Src) (ch : Nat) (data : Nat) : PortRange.Statement (.dmaChCfgWrite src ch data) :=
  PortRange.of_none rfl

theorem PortRange.descriptorFetched (ch : Nat) (bytes : Bytes) : PortRange.Statement (.descriptorFetched ch bytes) :=
  PortRange.of_none rfl

theorem PortRange.descriptorExecute (ch : Nat) : PortRange.Statement (.descriptorExecute ch) :=
  PortRange.of_none rfl

theorem PortRange.descriptorComplete (ch : Nat) : PortRange.Statement (.descriptorComplete ch) :=
  PortRange.of_none rfl

theorem PortRange.rxClassDelivery (ch : Nat) : PortRange.Statement (.rxClassDelivery ch) :=
  PortRange.of_none rfl

theorem PortRange.dmaReqEnable (src : Src) (r : Nat) (data : Nat) : PortRange.Statement (.dmaReqEnable src r data) :=
  PortRange.of_none rfl

theorem PortRange.requestBurst (r : Nat) : PortRange.Statement (.requestBurst r) :=
  PortRange.of_none rfl

theorem PortRange.mbxPost (src : Src) (data : Nat) : PortRange.Statement (.mbxPost src data) :=
  PortRange.of_none rfl

theorem PortRange.mbxRelease (src : Src) (data : Nat) : PortRange.Statement (.mbxRelease src data) :=
  PortRange.of_none rfl

theorem PortRange.mbxAccept : PortRange.Statement (.mbxAccept) :=
  PortRange.of_none rfl

theorem PortRange.timedExecute : PortRange.Statement (.timedExecute) :=
  PortRange.of_none rfl

theorem PortRange.identify (r : Req) : PortRange.Statement (.identify r) :=
  PortRange.of_none rfl

theorem PortRange.getState (r : Req) : PortRange.Statement (.getState r) :=
  PortRange.of_none rfl

theorem PortRange.reset (r : Req) : PortRange.Statement (.reset r) :=
  PortRange.of_none rfl

theorem PortRange.claim (r : Req) : PortRange.Statement (.claim r) :=
  PortRange.of_none rfl

theorem PortRange.release (r : Req) : PortRange.Statement (.release r) :=
  PortRange.of_none rfl

theorem PortRange.cancelTimed (r : Req) : PortRange.Statement (.cancelTimed r) :=
  PortRange.of_none rfl

theorem PortRange.listTimed (r : Req) : PortRange.Statement (.listTimed r) :=
  PortRange.of_none rfl

theorem PortRange.fwBegin (r : Req) : PortRange.Statement (.fwBegin r) :=
  PortRange.of_none rfl

theorem PortRange.fwWrite (r : Req) : PortRange.Statement (.fwWrite r) :=
  PortRange.of_none rfl

theorem PortRange.fwVerify (r : Req) : PortRange.Statement (.fwVerify r) :=
  PortRange.of_none rfl

theorem PortRange.fwActivate (r : Req) : PortRange.Statement (.fwActivate r) :=
  PortRange.of_none rfl

theorem PortRange.activationLoadDone (ok : Bool) : PortRange.Statement (.activationLoadDone ok) :=
  PortRange.of_none rfl

theorem PortRange.fenedTakeover : PortRange.Statement (.fenedTakeover) :=
  PortRange.of_none rfl

theorem PortRange.activationGraceExpiry : PortRange.Statement (.activationGraceExpiry) :=
  PortRange.of_none rfl

theorem PortRange.fwQuery (r : Req) : PortRange.Statement (.fwQuery r) :=
  PortRange.of_none rfl

theorem PortRange.fwSetMinSec (r : Req) : PortRange.Statement (.fwSetMinSec r) :=
  PortRange.of_none rfl

theorem PortRange.saffInfo (r : Req) : PortRange.Statement (.saffInfo r) :=
  PortRange.of_none rfl

theorem PortRange.saffRead (r : Req) : PortRange.Statement (.saffRead r) :=
  PortRange.of_none rfl

theorem PortRange.saffClear (r : Req) : PortRange.Statement (.saffClear r) :=
  PortRange.of_none rfl

theorem PortRange.timeGet (r : Req) : PortRange.Statement (.timeGet r) :=
  PortRange.of_none rfl

theorem PortRange.timeLoad (r : Req) : PortRange.Statement (.timeLoad r) :=
  PortRange.of_none rfl

theorem PortRange.timeStep (r : Req) : PortRange.Statement (.timeStep r) :=
  PortRange.of_none rfl

theorem PortRange.timeCfg (r : Req) : PortRange.Statement (.timeCfg r) :=
  PortRange.of_none rfl

theorem PortRange.timeSrcSet (r : Req) : PortRange.Statement (.timeSrcSet r) :=
  PortRange.of_none rfl

theorem PortRange.timeSrcReadmit (r : Req) : PortRange.Statement (.timeSrcReadmit r) :=
  PortRange.of_none rfl

theorem PortRange.timeSrcGet (r : Req) : PortRange.Statement (.timeSrcGet r) :=
  PortRange.of_none rfl

theorem PortRange.timePortSet (r : Req) : PortRange.Statement (.timePortSet r) :=
  PortRange.of_none rfl

theorem PortRange.timeClearSuspect (r : Req) : PortRange.Statement (.timeClearSuspect r) :=
  PortRange.of_none rfl

theorem PortRange.ptpInstSet (r : Req) : PortRange.Statement (.ptpInstSet r) :=
  PortRange.of_none rfl

theorem PortRange.ptpInstDelete (r : Req) : PortRange.Statement (.ptpInstDelete r) :=
  PortRange.of_none rfl

theorem PortRange.ptpInstGet (r : Req) : PortRange.Statement (.ptpInstGet r) :=
  PortRange.of_none rfl

theorem PortRange.portGroupSet (r : Req) : PortRange.Statement (.portGroupSet r) :=
  PortRange.of_none rfl

theorem PortRange.portSet (r : Req) : PortRange.Statement (.portSet r) :=
  PortRange.of_none rfl

theorem PortRange.portGet (r : Req) : PortRange.Statement (.portGet r) :=
  PortRange.of_none rfl

theorem PortRange.portGroupGet (r : Req) : PortRange.Statement (.portGroupGet r) :=
  PortRange.of_none rfl

theorem PortRange.mmRestart (r : Req) : PortRange.Statement (.mmRestart r) :=
  PortRange.of_none rfl

theorem PortRange.profileSet (r : Req) : PortRange.Statement (.profileSet r) :=
  PortRange.of_none rfl

theorem PortRange.portLookupSet (r : Req) : PortRange.Statement (.portLookupSet r) :=
  PortRange.of_none rfl

theorem PortRange.handleCreate (r : Req) : PortRange.Statement (.handleCreate r) :=
  PortRange.of_none rfl

theorem PortRange.handleWrite (r : Req) : PortRange.Statement (.handleWrite r) :=
  PortRange.of_none rfl

theorem PortRange.handleDelete (r : Req) : PortRange.Statement (.handleDelete r) :=
  PortRange.of_none rfl

theorem PortRange.keyInsert (r : Req) : PortRange.Statement (.keyInsert r) :=
  PortRange.of_none rfl

theorem PortRange.keyDelete (r : Req) : PortRange.Statement (.keyDelete r) :=
  PortRange.of_none rfl

theorem PortRange.keyLookup (r : Req) : PortRange.Statement (.keyLookup r) :=
  PortRange.of_none rfl

theorem PortRange.egressSet (r : Req) : PortRange.Statement (.egressSet r) :=
  PortRange.of_none rfl

theorem PortRange.meterSet (r : Req) : PortRange.Statement (.meterSet r) :=
  PortRange.of_none rfl

theorem PortRange.gateCfgSet (r : Req) : PortRange.Statement (.gateCfgSet r) :=
  PortRange.of_none rfl

theorem PortRange.gateListWrite (r : Req) : PortRange.Statement (.gateListWrite r) :=
  PortRange.of_none rfl

theorem PortRange.gateCommit (r : Req) : PortRange.Statement (.gateCommit r) :=
  PortRange.of_none rfl

theorem PortRange.streamGet (r : Req) : PortRange.Statement (.streamGet r) :=
  PortRange.of_none rfl

theorem PortRange.streamClear (r : Req) : PortRange.Statement (.streamClear r) :=
  PortRange.of_none rfl

theorem PortRange.filterUnlatch (r : Req) : PortRange.Statement (.filterUnlatch r) :=
  PortRange.of_none rfl

theorem PortRange.strmUsageGet (r : Req) : PortRange.Statement (.strmUsageGet r) :=
  PortRange.of_none rfl

theorem PortRange.portStrmCntGet (r : Req) : PortRange.Statement (.portStrmCntGet r) :=
  PortRange.of_none rfl

theorem PortRange.berthSet (r : Req) : PortRange.Statement (.berthSet r) :=
  PortRange.of_none rfl

theorem PortRange.berthGet (r : Req) : PortRange.Statement (.berthGet r) :=
  PortRange.of_none rfl

theorem PortRange.berthRelease (r : Req) : PortRange.Statement (.berthRelease r) :=
  PortRange.of_none rfl

theorem PortRange.tideCfgSet (r : Req) : PortRange.Statement (.tideCfgSet r) :=
  PortRange.of_none rfl

theorem PortRange.tideWrite (r : Req) : PortRange.Statement (.tideWrite r) :=
  PortRange.of_none rfl

theorem PortRange.tideCommit (r : Req) : PortRange.Statement (.tideCommit r) :=
  PortRange.of_none rfl

theorem PortRange.tideGet (r : Req) : PortRange.Statement (.tideGet r) :=
  PortRange.of_none rfl

theorem PortRange.tideRead (r : Req) : PortRange.Statement (.tideRead r) :=
  PortRange.of_none rfl

theorem PortRange.portHandover (r : Req) : PortRange.Statement (.portHandover r) :=
  PortRange.of_none rfl

theorem PortRange.brkwSet (r : Req) : PortRange.Statement (.brkwSet r) :=
  PortRange.of_none rfl

theorem PortRange.brkwGet (r : Req) : PortRange.Statement (.brkwGet r) :=
  PortRange.of_none rfl

theorem PortRange.brkwPathGet (r : Req) : PortRange.Statement (.brkwPathGet r) :=
  PortRange.of_none rfl

theorem PortRange.brkwResetSeq (r : Req) : PortRange.Statement (.brkwResetSeq r) :=
  PortRange.of_none rfl

theorem PortRange.brkwClear (r : Req) : PortRange.Statement (.brkwClear r) :=
  PortRange.of_none rfl

theorem PortRange.brkwPoolGet (r : Req) : PortRange.Statement (.brkwPoolGet r) :=
  PortRange.of_none rfl

theorem PortRange.regionCreate (r : Req) : PortRange.Statement (.regionCreate r) :=
  PortRange.of_none rfl

theorem PortRange.regionResize (r : Req) : PortRange.Statement (.regionResize r) :=
  PortRange.of_none rfl

theorem PortRange.regionDelete (r : Req) : PortRange.Statement (.regionDelete r) :=
  PortRange.of_none rfl

theorem PortRange.regionGet (r : Req) : PortRange.Statement (.regionGet r) :=
  PortRange.of_none rfl

theorem PortRange.holdSet (r : Req) : PortRange.Statement (.holdSet r) :=
  PortRange.of_none rfl

theorem PortRange.holdForce (r : Req) : PortRange.Statement (.holdForce r) :=
  PortRange.of_none rfl

theorem PortRange.recordSet (r : Req) : PortRange.Statement (.recordSet r) :=
  PortRange.of_none rfl

theorem PortRange.recordArm (r : Req) : PortRange.Statement (.recordArm r) :=
  PortRange.of_none rfl

theorem PortRange.replayStart (r : Req) : PortRange.Statement (.replayStart r) :=
  PortRange.of_none rfl

theorem PortRange.replayStop (r : Req) : PortRange.Statement (.replayStop r) :=
  PortRange.of_none rfl

theorem PortRange.replayGet (r : Req) : PortRange.Statement (.replayGet r) :=
  PortRange.of_none rfl

theorem PortRange.storeGet (r : Req) : PortRange.Statement (.storeGet r) :=
  PortRange.of_none rfl

theorem PortRange.scrubSet (r : Req) : PortRange.Statement (.scrubSet r) :=
  PortRange.of_none rfl

theorem PortRange.pagemapGet (r : Req) : PortRange.Statement (.pagemapGet r) :=
  PortRange.of_none rfl

theorem PortRange.spillPrepare (r : Req) : PortRange.Statement (.spillPrepare r) :=
  PortRange.of_none rfl

theorem PortRange.spillSet (r : Req) : PortRange.Statement (.spillSet r) :=
  PortRange.of_none rfl

theorem PortRange.spillGet (r : Req) : PortRange.Statement (.spillGet r) :=
  PortRange.of_none rfl

theorem PortRange.slotPower (r : Req) : PortRange.Statement (.slotPower r) :=
  PortRange.of_none rfl

theorem PortRange.slotLocate (r : Req) : PortRange.Statement (.slotLocate r) :=
  PortRange.of_none rfl

theorem PortRange.duoGet (r : Req) : PortRange.Statement (.duoGet r) :=
  PortRange.of_none rfl

theorem PortRange.duoCfg (r : Req) : PortRange.Statement (.duoCfg r) :=
  PortRange.of_none rfl

theorem PortRange.duoJoin (r : Req) : PortRange.Statement (.duoJoin r) :=
  PortRange.of_none rfl

theorem PortRange.duoLeave (r : Req) : PortRange.Statement (.duoLeave r) :=
  PortRange.of_none rfl

theorem PortRange.duoSwap (r : Req) : PortRange.Statement (.duoSwap r) :=
  PortRange.of_none rfl

theorem PortRange.fltGet (r : Req) : PortRange.Statement (.fltGet r) :=
  PortRange.of_none rfl

theorem PortRange.fltLogRead (r : Req) : PortRange.Statement (.fltLogRead r) :=
  PortRange.of_none rfl

theorem PortRange.fltCfg (r : Req) : PortRange.Statement (.fltCfg r) :=
  PortRange.of_none rfl

theorem PortRange.fltClearFirst (r : Req) : PortRange.Statement (.fltClearFirst r) :=
  PortRange.of_none rfl

theorem PortRange.pwrGet (r : Req) : PortRange.Statement (.pwrGet r) :=
  PortRange.of_none rfl

theorem PortRange.pwrDomainSet (r : Req) : PortRange.Statement (.pwrDomainSet r) :=
  PortRange.of_none rfl

theorem PortRange.slackSet (r : Req) : PortRange.Statement (.slackSet r) :=
  PortRange.of_none rfl

theorem PortRange.avsSet (r : Req) : PortRange.Statement (.avsSet r) :=
  PortRange.of_none rfl

theorem PortRange.stageLeadSet (r : Req) : PortRange.Statement (.stageLeadSet r) :=
  PortRange.of_none rfl

theorem PortRange.coreGet (r : Req) : PortRange.Statement (.coreGet r) :=
  PortRange.of_none rfl

theorem PortRange.monAccess (r : Req) : PortRange.Statement (.monAccess r) :=
  PortRange.of_none rfl

theorem PortRange.freeze (r : Req) : PortRange.Statement (.freeze r) :=
  PortRange.of_none rfl

theorem PortRange.captureRead (r : Req) : PortRange.Statement (.captureRead r) :=
  PortRange.of_none rfl

theorem PortRange.captureRelease (r : Req) : PortRange.Statement (.captureRelease r) :=
  PortRange.of_none rfl

theorem PortRange.faultReport (r : Report) : PortRange.Statement (.faultReport r) :=
  PortRange.of_none rfl

theorem PortRange.faultBatchClose : PortRange.Statement (.faultBatchClose) :=
  PortRange.of_none rfl

theorem PortRange.pairClose (source : Nat) (kind : Nat) : PortRange.Statement (.pairClose source kind) :=
  PortRange.of_none rfl

theorem PortRange.quietPeriodExpiry (aonMs : Nat) : PortRange.Statement (.quietPeriodExpiry aonMs) :=
  PortRange.of_none rfl

theorem PortRange.fatalConditionClear (aonMs : Nat) : PortRange.Statement (.fatalConditionClear aonMs) :=
  PortRange.of_none rfl

theorem PortRange.fenedStall : PortRange.Statement (.fenedStall) :=
  PortRange.of_none rfl

theorem PortRange.fltCmdClearFirst (src : Src) (data : Nat) : PortRange.Statement (.fltCmdClearFirst src data) :=
  PortRange.of_none rfl

theorem PortRange.saffRecordWrite (mismatches : Nat) : PortRange.Statement (.saffRecordWrite mismatches) :=
  PortRange.of_none rfl

theorem PortRange.saffReadCtrlStart (src : Src) (data : Nat) : PortRange.Statement (.saffReadCtrlStart src data) :=
  PortRange.of_none rfl

theorem PortRange.lifetimeSnapshot : PortRange.Statement (.lifetimeSnapshot) :=
  PortRange.of_none rfl

theorem PortRange.epochEnd : PortRange.Statement (.epochEnd) :=
  PortRange.of_none rfl

theorem PortRange.stepRecordRx (rec : StepRecord) : PortRange.Statement (.stepRecordRx rec) :=
  PortRange.of_none rfl

theorem PortRange.stepAckRx (epoch : Nat) (roundTrip : Nat) : PortRange.Statement (.stepAckRx epoch roundTrip) :=
  PortRange.of_none rfl

theorem PortRange.ackTimeout : PortRange.Statement (.ackTimeout) :=
  PortRange.of_none rfl

theorem PortRange.recordSilence : PortRange.Statement (.recordSilence) :=
  PortRange.of_none rfl

theorem PortRange.peerPinChange (reading : PeerPins) : PortRange.Statement (.peerPinChange reading) :=
  PortRange.of_none rfl

theorem PortRange.decisionWindowOpen : PortRange.Statement (.decisionWindowOpen) :=
  PortRange.of_none rfl

theorem PortRange.decisionWindowEnd : PortRange.Statement (.decisionWindowEnd) :=
  PortRange.of_none rfl

theorem PortRange.takeoverComplete : PortRange.Statement (.takeoverComplete) :=
  PortRange.of_none rfl

theorem PortRange.soleActionStop : PortRange.Statement (.soleActionStop) :=
  PortRange.of_none rfl

theorem PortRange.orphanExpiry : PortRange.Statement (.orphanExpiry) :=
  PortRange.of_none rfl

theorem PortRange.missingExpiry : PortRange.Statement (.missingExpiry) :=
  PortRange.of_none rfl

theorem PortRange.configEpochEnd (data : PeerData) : PortRange.Statement (.configEpochEnd data) :=
  PortRange.of_none rfl

theorem PortRange.streamEpochEnd (data : PeerData) : PortRange.Statement (.streamEpochEnd data) :=
  PortRange.of_none rfl

theorem PortRange.storeCatchupEnd (pages : List (Nat × Bytes)) : PortRange.Statement (.storeCatchupEnd pages) :=
  PortRange.of_none rfl

theorem PortRange.joinAbort : PortRange.Statement (.joinAbort) :=
  PortRange.of_none rfl

theorem PortRange.rstNAssert : PortRange.Statement (.rstNAssert) :=
  PortRange.of_none rfl

theorem PortRange.rstNRelease (straps : Straps) : PortRange.Statement (.rstNRelease straps) :=
  PortRange.of_none rfl

theorem PortRange.supplyOutOfWindow (supply : Nat) : PortRange.Statement (.supplyOutOfWindow supply) :=
  PortRange.of_none rfl

theorem PortRange.alwaysOnReady : PortRange.Statement (.alwaysOnReady) :=
  PortRange.of_none rfl

theorem PortRange.bootRomLoadDone : PortRange.Statement (.bootRomLoadDone) :=
  PortRange.of_none rfl

theorem PortRange.memoryTrainingDone (m : Nat) (ok : Bool) : PortRange.Statement (.memoryTrainingDone m ok) :=
  PortRange.of_none rfl

theorem PortRange.fenedReady : PortRange.Statement (.fenedReady) :=
  PortRange.of_none rfl

theorem PortRange.pwrDomainCtrlWrite (src : Src) (data : Nat) : PortRange.Statement (.pwrDomainCtrlWrite src data) :=
  PortRange.of_none rfl

theorem PortRange.domainReady (d : Nat) : PortRange.Statement (.domainReady d) :=
  PortRange.of_none rfl

theorem PortRange.bridgeDown (d : Nat) : PortRange.Statement (.bridgeDown d) :=
  PortRange.of_none rfl

theorem PortRange.bridgeRetrain (d : Nat) (ok : Bool) : PortRange.Statement (.bridgeRetrain d ok) :=
  PortRange.of_none rfl

theorem PortRange.storeStackFail (m : Nat) : PortRange.Statement (.storeStackFail m) :=
  PortRange.of_none rfl

theorem PortRange.stackAutoRetrain (m : Nat) : PortRange.Statement (.stackAutoRetrain m) :=
  PortRange.of_none rfl

theorem PortRange.freezePin : PortRange.Statement (.freezePin) :=
  PortRange.of_none rfl

theorem PortRange.freezePinLow : PortRange.Statement (.freezePinLow) :=
  PortRange.of_none rfl

theorem PortRange.captureCopyDone : PortRange.Statement (.captureCopyDone) :=
  PortRange.of_none rfl

theorem PortRange.mailboxLatchExpiry : PortRange.Statement (.mailboxLatchExpiry) :=
  PortRange.of_none rfl

theorem PortRange.monId : PortRange.Statement (.monId) :=
  PortRange.of_none rfl

theorem PortRange.monRd (off : MonArg) (n : Nat) : PortRange.Statement (.monRd off n) :=
  PortRange.of_none rfl

theorem PortRange.monWr (off : MonArg) (data : Nat) : PortRange.Statement (.monWr off data) :=
  PortRange.of_none rfl

theorem PortRange.monSaff (sect : Nat) (seq : Nat) (n : Nat) : PortRange.Statement (.monSaff sect seq n) :=
  PortRange.of_none rfl

theorem PortRange.monCap (off : Nat) (n : Nat) : PortRange.Statement (.monCap off n) :=
  PortRange.of_none rfl

theorem PortRange.monFreeze : PortRange.Statement (.monFreeze) :=
  PortRange.of_none rfl

theorem PortRange.monThaw : PortRange.Statement (.monThaw) :=
  PortRange.of_none rfl

theorem PortRange.monCaprel : PortRange.Statement (.monCaprel) :=
  PortRange.of_none rfl

theorem PortRange.monBaud (rate : Nat) : PortRange.Statement (.monBaud rate) :=
  PortRange.of_none rfl

theorem PortRange.monFtest : PortRange.Statement (.monFtest) :=
  PortRange.of_none rfl

theorem PortRange.monFtestResp (response : Bytes) : PortRange.Statement (.monFtestResp response) :=
  PortRange.of_none rfl

theorem PortRange.monInject (source : Nat) (kind : Nat) (addr : Nat) : PortRange.Statement (.monInject source kind addr) :=
  PortRange.of_none rfl

theorem PortRange.monInjectEcc (addr : Nat) (symbols : Nat) : PortRange.Statement (.monInjectEcc addr symbols) :=
  PortRange.of_none rfl

theorem PortRange.jtagExtest (boundary : Nat) : PortRange.Statement (.jtagExtest boundary) :=
  PortRange.of_none rfl

theorem PortRange.jtagIdcode : PortRange.Statement (.jtagIdcode) :=
  PortRange.of_none rfl

theorem PortRange.jtagSamplePreload (boundary : Nat) : PortRange.Statement (.jtagSamplePreload boundary) :=
  PortRange.of_none rfl

theorem PortRange.jtagFreeze : PortRange.Statement (.jtagFreeze) :=
  PortRange.of_none rfl

theorem PortRange.jtagThaw : PortRange.Statement (.jtagThaw) :=
  PortRange.of_none rfl

theorem PortRange.jtagCapRead (off : Nat) (n : Nat) : PortRange.Statement (.jtagCapRead off n) :=
  PortRange.of_none rfl

theorem PortRange.jtagSaffRead (off : Nat) : PortRange.Statement (.jtagSaffRead off) :=
  PortRange.of_none rfl

theorem PortRange.jtagCapRelease : PortRange.Statement (.jtagCapRelease) :=
  PortRange.of_none rfl

theorem PortRange.jtagBypass (scan : BypassScan) : PortRange.Statement (.jtagBypass scan) :=
  PortRange.of_none rfl

theorem PortRange.fenedHeartbeat : PortRange.Statement (.fenedHeartbeat) :=
  PortRange.of_none rfl

theorem PortRange.aliveEdge : PortRange.Statement (.aliveEdge) :=
  PortRange.of_none rfl

theorem PortRange.ppsOutPulseEnd : PortRange.Statement (.ppsOutPulseEnd) :=
  PortRange.of_none rfl

theorem PortRange.registerRead (src : Src) (off : Nat) (len : Nat) : PortRange.Statement (.registerRead src off len) :=
  PortRange.of_none rfl

theorem PortRange.peerJoinAccepted (peer : PeerInfo) : PortRange.Statement (.peerJoinAccepted peer) :=
  PortRange.of_none rfl

theorem PortRange.announceReceived (inst : Nat) (p : Nat) (a : Announce) : PortRange.Statement (.announceReceived inst p a) :=
  PortRange.of_port_and rfl rfl

theorem PortRange.supplyInWindow (supply : Nat) : PortRange.Statement (.supplyInWindow supply) :=
  PortRange.of_none rfl

theorem PortRange.powerRemoval : PortRange.Statement (.powerRemoval) :=
  PortRange.of_none rfl

end Sys2Proof.Laws
end

