-- ==== Sys2Proof/Safety.lean ====
section
/-!
DEFINITION. Safety.lean: the terms in which the claims about this device are stated.
-/
namespace Sys2Proof.Machine

/-- What every run keeps: the stream store is in its canonical form. -/
def State.safe (s : State) : Prop := Memory.wf s.mem = true

/-- A command carried out on s answers a next state, and that state has the property. -/
def Gives (i : Instr) (s : State) (P : State → Prop) : Prop := ∃ t, exec i s = .next t ∧ P t

/-- Where it answers a next state, that state has the property. -/
def Leaves (i : Instr) (s : State) (P : State → Prop) : Prop := ∀ t, exec i s = .next t → P t

/-- The core runs (R400, R401, R415): RST_N is high, the always-on domain is ready, no freeze is in progress. -/
abbrev State.up (s : State) : Prop := s.chip.live = true

/-- The always-on domain runs: RST_N is high and its start is over; a freeze does not stop it (R415). -/
abbrev State.aonUp (s : State) : Prop := s.chip.pwr.rstLow = false ∧ s.chip.pwr.aonReady = true

/-- A register write by a path reaches its block and its function is claimed (R251, R313, R414), and it need not wait for
the copy of a replica, as STRM writes do (R405). -/
abbrev Chip.admits (c : Chip) (src : Src) (b : Block) : Prop :=
  c.reaches src b = true ∧ c.mayWrite b = true ∧ (b = .STRM → c.replicaCopy = false)

/-- The monitor has printed a text, whatever else goes out behind it. -/
def Said (s t : State) (text : Bytes) : Prop := ∃ l, t.chip.out = s.chip.out ++ Output.monText text :: l

/-- An output has gone out, whatever else goes out with it. -/
def Sent (s t : State) (o : Output) : Prop := ∃ l l', t.chip.out = s.chip.out ++ l ++ o :: l'

/-- Nothing of a kind has gone out. -/
def NotSent {α : Type} (s t : State) (kind : α → Output) : Prop := ∃ l, t.chip.out = s.chip.out ++ l ∧ ∀ x, kind x ∉ l

/-- Fened has queued an event (R312): in the event ring, if the mailbox is open, Fened runs and the ring has room; with the
mailbox closed or Fened standing still it is held for them. -/
def Queued (s t : State) (code : Nat) (data : Bytes) : Prop :=
  let e : Evt := ⟨code, packTime s.chip.now, data⟩
  let w := s.chip.fld .MBX_EVT_WR_WR 0
  (s.chip.mbx.isOpen = true → s.chip.fenedRuns = true → (w + 1) % 64 ≠ s.chip.fld .MBX_EVT_RD_RD 0 →
    kFind t.chip.mbx.ring w = some (e.bytes s.chip.mbx.evtSeq) ∧ t.chip.fld .MBX_EVT_WR_WR 0 = (w + 1) % 64) ∧
  (s.chip.mbx.isOpen = false ∨ s.chip.fenedRuns = false → t.chip.mbx.heldEvts = s.chip.mbx.heldEvts ++ [e])

/-- A frame whose reading from a record in a ring succeeded, and what the store then is (R216). -/
def State.reads (s : State) (r k : Nat) (y : Rec) (f : Frame) : Prop :=
  y.gap = false ∧ y.f.rx = none ∧ (s.readRec r k y).1 = .good f

/-- A Berth takes a frame of n bytes (R31, R121, R131): it is assigned and enabled, without a byte limit, and its quadrant's
share has room. -/
def Chip.takesIn (c : Chip) (b n : Nat) : Prop :=
  c.bValid b = true ∧ 0 < (c.berth b).weight ∧ c.fld .SCHD_BERTH_CFG_MAX_KIB b = 0 ∧
    c.shareFull (quadOfPort (c.bPort b)) n = false

/-- The stream store, the Saffron record and the waiting commands are as they were. -/
def SameStore (s t : State) : Prop := t.mem = s.mem ∧ t.mram = s.mram ∧ t.pending = s.pending

/-- Every register field but those listed reads as it did (every instance of it). -/
def SameRegs (l : List Fld) (s t : State) : Prop := ∀ f, ¬ f ∈ l → ∀ i, t.chip.fld f i = s.chip.fld f i

/-- The fields through which Fened queues an event or a record, or counts one that is lost (R312, R364). -/
def eventFlds : List Fld := [.MBX_EVT_WR_WR, .MBX_CNT_EVT_LOST, .SAFF_CNT_LOST]

/-- The data plane's tables, queues and counters are as they were: streams, ports, Berths, Tide Tables, engines,
Breakwater, store regions, channels of the DMA engine. -/
def SamePlane (s t : State) : Prop :=
  t.chip.strm = s.chip.strm ∧ t.chip.plane = s.chip.plane ∧ t.chip.brkw = s.chip.brkw ∧ t.chip.stor = s.chip.stor ∧
    t.chip.dma = s.chip.dma

/-- The rings of the Saffron record stay within their sections (R361, R363, R366): each section's next place lies in it, as
the collector has it and in both copies of the directory, and at most 256 permanent records are used. -/
def Mram.fits (m : Mram) : Prop :=
  m.permanent ≤ 256 ∧ (∀ k, (m.sect k).place < sectCap k) ∧
    ∀ k x, (m.dir.getD k (none, none)).1 = some x ∨ (m.dir.getD k (none, none)).2 = some x → x.place < sectCap k

/-- A permanent record that is used stays as it was written (R366). -/
def Mram.keeps (m n : Mram) : Prop :=
  m.permanent ≤ n.permanent ∧ ∀ k, k < m.permanent → kFind n.recs (permPlace + k) = kFind m.recs (permPlace + k)

/-! ### Areas of the device -/

/-- A part of the device that a frame may name. -/
inductive Zone where
  | core
  | time
  | mbx
  | flt
  | host
  | spil
  | ident
  | pwr
  | dbg
  | strm
  | plane
  | brkw
  | stor
  | dma
  | duo
  | mem
  | mram
  deriving DecidableEq, Repr

/-- Every area. -/
def Zone.all : List Zone :=
  [.core, .time, .mbx, .flt, .host, .spil, .ident, .pwr, .dbg, .strm, .plane, .brkw, .stor, .dma, .duo, .mem, .mram]

/-- An area is as it was. The mailbox's area leaves out its slots, its event ring and the records it owes, the
collector's its record queue, the endpoint's its pending vectors and its wake signals, the duo's the entries of the open
step record. -/
def Zone.same (a : Zone) (s t : State) : Prop :=
  match a with
  | .core => t.chip.avs = s.chip.avs ∧ t.chip.slack = s.chip.slack ∧ t.chip.bridge = s.chip.bridge
  | .time => t.chip.time = s.chip.time
  | .mbx => t.chip.mbx.isOpen = s.chip.mbx.isOpen ∧ t.chip.mbx.fened = s.chip.mbx.fened ∧
      t.chip.mbx.stalled = s.chip.mbx.stalled ∧ t.chip.mbx.act = s.chip.mbx.act ∧ t.chip.mbx.timed = s.chip.mbx.timed ∧
      t.chip.mbx.loaded = s.chip.mbx.loaded ∧ t.chip.mbx.fwA = s.chip.mbx.fwA ∧ t.chip.mbx.fwB = s.chip.mbx.fwB ∧ t.chip.mbx.image = s.chip.mbx.image ∧
      t.chip.mbx.checks = s.chip.mbx.checks
  | .flt => t.chip.flt = { s.chip.flt with queue := t.chip.flt.queue }
  | .host => t.chip.host = { s.chip.host with pba := t.chip.host.pba, wake := t.chip.host.wake,
                                              pmeDue := t.chip.host.pmeDue, cfg := t.chip.host.cfg } ∧
      t.chip.host.cfg = { s.chip.host.cfg with pmeStatus := t.chip.host.cfg.pmeStatus }
  | .spil => t.chip.spil = s.chip.spil
  | .ident => t.chip.ident = s.chip.ident
  | .pwr => t.chip.pwr = s.chip.pwr
  | .dbg => t.chip.dbg = s.chip.dbg
  | .strm => t.chip.strm = s.chip.strm
  | .plane => t.chip.plane = s.chip.plane
  | .brkw => t.chip.brkw = s.chip.brkw
  | .stor => t.chip.stor = s.chip.stor
  | .dma => t.chip.dma = s.chip.dma
  | .duo => t.chip.duo = { s.chip.duo with entries := t.chip.duo.entries }
  | .mem => t.mem = s.mem
  | .mram => t.mram = s.mram

/-- Every area but those listed is as it was, and so are the waiting commands. -/
def Kept (l : List Zone) (s t : State) : Prop := (∀ a ∈ Zone.all, ¬ a ∈ l → a.same s t) ∧ t.pending = s.pending

/-- The fields of a register. -/
def regFlds (b : Block) (r : Reg) : List Fld := (regFields b r).map fun d => d.fld

/-- An instance of a register has taken a value, as far as it can be written. -/
def Holds (b : Block) (r : Reg) (i v : Nat) (t : State) : Prop :=
  ∀ d ∈ regFields b r, d.writable = true → t.chip.fld d.fld i = bits v d.hi d.lo

/-! ### Mailbox commands -/

/-- Something takes commands, no slot waits, and the host driver's slot is FREE (R299, R300). -/
abbrev State.idleFor (s : State) (r : Req) : Prop :=
  let c := s.chip
  c.hostServed = true ∧ c.serving = true ∧ c.mbx.fened = .up ∧ c.mbx.order = [] ∧ c.duo.asked = none ∧
    c.dbg.latchMbx = false ∧ c.mbx.slots.length = 8 ∧ (c.slot r.slot).st = 0 ∧ r.wf = true

/-- The command is not refused for its state, its claims or the duo (R307, R315, R318, R332). -/
abbrev State.admits (s : State) (k : Cmd) (r : Req) : Prop :=
  k.accepted.contains s.chip.fenedState = true ∧ s.chip.invalidFn (k.acts s.chip r.params) = none ∧ k.bar r.params s = none ∧
    (k.decision = true → s.chip.duoActive = true) ∧ s.chip.claimedFn (k.writes s.chip r.params) = none

/-- The parameters have the command's layout (R321, R327). -/
abbrev Cmd.fits (k : Cmd) (p : Bytes) : Prop := layBeyond (k.lay p) p = false ∧ layBad (k.lay p) p = none

/-- The request is for execution at once: it is untimed, or its time has passed and LATE_OK lets it be late (R308). -/
abbrev atOnce (r : Req) (k : Cmd) (s : State) : Prop :=
  (r.timed = false ∧ r.lateOk = false) ∨
    (k.timed = true ∧ r.timed = true ∧ r.lateOk = true ∧ timeOk r.execTime = true ∧ unpackTime r.execTime ≤ s.chip.now)

/-- The request is taken at once, no copy holds an access of it (R129, R405), and no check of R306 that comes before its
values refuses it. -/
abbrev State.takes (s : State) (k : Cmd) (r : Req) : Prop :=
  s.idleFor r ∧ s.chip.cmdHeldBy k.op (some k) r.params = none ∧ (k.op = 1 ∨ r.filMajor = s.chip.filNow / 256) ∧ atOnce r k s ∧ k.fits r.params ∧ s.admits k r

/-- The state in which a request is checked: its slot is BUSY. -/
def State.taken (s : State) (k : Cmd) (r : Req) : State := (s.place k r).on fun c => c.takeSlot r.slot

/-- The state in which a request executes: its slot is BUSY, and an input decision of a duo is logged. -/
def State.begun (s : State) (k : Cmd) (r : Req) : State := (s.taken k r).logged k r.params

/-- The response in a request's slot, which is DONE (R299, R303): status, DETAIL and data, with the request's tag. -/
def Answered (r : Req) (status detail : Nat) (data : Bytes) (t : State) : Prop :=
  let b := (t.chip.slot r.slot).buf
  (t.chip.slot r.slot).st = 3 ∧ pn b 2 1 = status ∧ pn b 6 2 = data.length ∧ pn b 8 8 = r.tag ∧ pn b 16 8 = detail ∧
    slice b 32 data.length = data

/-- The fields that any command changes: its count, and those of an event or a record. -/
def mbxFlds : List Fld := .MBX_CNT_COMMANDS :: eventFlds

/-- A command has been accepted and counted; the other slots are as they were (R299, R304). -/
def Counted (s : State) (r : Req) (t : State) : Prop :=
  t.chip.fld .MBX_CNT_COMMANDS 0 = satAdd 64 (s.chip.fld .MBX_CNT_COMMANDS 0) 1 ∧
    ∀ i, i ≠ r.slot → t.chip.slot i = s.chip.slot i

/-- A command has answered OK with data. Of the register fields it has changed at most those listed, and of the areas
those listed. -/
def Done (s : State) (r : Req) (data : Bytes) (flds : List Fld) (areas : List Zone) (t : State) : Prop :=
  Answered r 0 0 data t ∧ Counted s r t ∧ SameRegs (flds ++ mbxFlds) s t ∧ Kept areas s t

/-- A command has answered OK with data, and the device is as it was. -/
def Told (s : State) (r : Req) (data : Bytes) (t : State) : Prop := Done s r data [] [] t

/-- A command has failed, and the device is as it was (R306). -/
def Denied (s : State) (r : Req) (status detail : Nat) (t : State) : Prop :=
  Answered r status detail [] t ∧ Counted s r t ∧
    t.chip.fld .MBX_CNT_REJECTED 0 = satAdd 64 (s.chip.fld .MBX_CNT_REJECTED 0) 1 ∧
    SameRegs (.MBX_CNT_REJECTED :: mbxFlds) s t ∧ Kept [] s t

/-- The command of a mailbox row, and its request (R333-R344). -/
def rowOf (i : Instr) : Option (Cmd × Req) :=
  match i with
  | .identify r => some (cmdIdentify, r)
  | .getState r => some (cmdGetState, r)
  | .reset r => some (cmdReset, r)
  | .claim r => some (cmdClaim, r)
  | .release r => some (cmdRelease, r)
  | .cancelTimed r => some (cmdCancelTimed, r)
  | .listTimed r => some (cmdListTimed, r)
  | .fwBegin r => some (cmdFwBegin, r)
  | .fwWrite r => some (cmdFwWrite, r)
  | .fwVerify r => some (cmdFwVerify, r)
  | .fwActivate r => some (cmdFwActivate, r)
  | .fwQuery r => some (cmdFwQuery, r)
  | .fwSetMinSec r => some (cmdFwSetMinSec, r)
  | .saffInfo r => some (cmdSaffInfo, r)
  | .saffRead r => some (cmdSaffRead, r)
  | .saffClear r => some (cmdSaffClear, r)
  | .timeGet r => some (cmdTimeGet, r)
  | .timeLoad r => some (cmdTimeLoad, r)
  | .timeStep r => some (cmdTimeStep, r)
  | .timeCfg r => some (cmdTimeCfg, r)
  | .timeSrcSet r => some (cmdTimeSrcSet, r)
  | .timeSrcReadmit r => some (cmdTimeSrcReadmit, r)
  | .timeSrcGet r => some (cmdTimeSrcGet, r)
  | .timePortSet r => some (cmdTimePortSet, r)
  | .timeClearSuspect r => some (cmdTimeClearSuspect, r)
  | .ptpInstSet r => some (cmdPtpInstSet, r)
  | .ptpInstDelete r => some (cmdPtpInstDelete, r)
  | .ptpInstGet r => some (cmdPtpInstGet, r)
  | .portGroupSet r => some (cmdPortGroupSet, r)
  | .portSet r => some (cmdPortSet, r)
  | .portGet r => some (cmdPortGet, r)
  | .portGroupGet r => some (cmdPortGroupGet, r)
  | .mmRestart r => some (cmdMmRestart, r)
  | .profileSet r => some (cmdProfileSet, r)
  | .portLookupSet r => some (cmdPortLookupSet, r)
  | .handleCreate r => some (cmdHandleCreate, r)
  | .handleWrite r => some (cmdHandleWrite, r)
  | .handleDelete r => some (cmdHandleDelete, r)
  | .keyInsert r => some (cmdKeyInsert, r)
  | .keyDelete r => some (cmdKeyDelete, r)
  | .keyLookup r => some (cmdKeyLookup, r)
  | .egressSet r => some (cmdEgressSet, r)
  | .meterSet r => some (cmdMeterSet, r)
  | .gateCfgSet r => some (cmdGateCfgSet, r)
  | .gateListWrite r => some (cmdGateListWrite, r)
  | .gateCommit r => some (cmdGateCommit, r)
  | .streamGet r => some (cmdStreamGet, r)
  | .streamClear r => some (cmdStreamClear, r)
  | .filterUnlatch r => some (cmdFilterUnlatch, r)
  | .strmUsageGet r => some (cmdStrmUsageGet, r)
  | .portStrmCntGet r => some (cmdPortStrmCntGet, r)
  | .berthSet r => some (cmdBerthSet, r)
  | .berthGet r => some (cmdBerthGet, r)
  | .berthRelease r => some (cmdBerthRelease, r)
  | .tideCfgSet r => some (cmdTideCfgSet, r)
  | .tideWrite r => some (cmdTideWrite, r)
  | .tideCommit r => some (cmdTideCommit, r)
  | .tideGet r => some (cmdTideGet, r)
  | .tideRead r => some (cmdTideRead, r)
  | .portHandover r => some (cmdPortHandover, r)
  | .brkwSet r => some (cmdBrkwSet, r)
  | .brkwGet r => some (cmdBrkwGet, r)
  | .brkwPathGet r => some (cmdBrkwPathGet, r)
  | .brkwResetSeq r => some (cmdBrkwResetSeq, r)
  | .brkwClear r => some (cmdBrkwClear, r)
  | .brkwPoolGet r => some (cmdBrkwPoolGet, r)
  | .regionCreate r => some (cmdRegionCreate, r)
  | .regionResize r => some (cmdRegionResize, r)
  | .regionDelete r => some (cmdRegionDelete, r)
  | .regionGet r => some (cmdRegionGet, r)
  | .holdSet r => some (cmdHoldSet, r)
  | .holdForce r => some (cmdHoldForce, r)
  | .recordSet r => some (cmdRecordSet, r)
  | .recordArm r => some (cmdRecordArm, r)
  | .replayStart r => some (cmdReplayStart, r)
  | .replayStop r => some (cmdReplayStop, r)
  | .replayGet r => some (cmdReplayGet, r)
  | .storeGet r => some (cmdStoreGet, r)
  | .scrubSet r => some (cmdScrubSet, r)
  | .pagemapGet r => some (cmdPagemapGet, r)
  | .spillPrepare r => some (cmdSpillPrepare, r)
  | .spillSet r => some (cmdSpillSet, r)
  | .spillGet r => some (cmdSpillGet, r)
  | .slotPower r => some (cmdSlotPower, r)
  | .slotLocate r => some (cmdSlotLocate, r)
  | .duoGet r => some (cmdDuoGet, r)
  | .duoCfg r => some (cmdDuoCfg, r)
  | .duoJoin r => some (cmdDuoJoin, r)
  | .duoLeave r => some (cmdDuoLeave, r)
  | .duoSwap r => some (cmdDuoSwap, r)
  | .fltGet r => some (cmdFltGet, r)
  | .fltLogRead r => some (cmdFltLogRead, r)
  | .fltCfg r => some (cmdFltCfg, r)
  | .fltClearFirst r => some (cmdFltClearFirst, r)
  | .pwrGet r => some (cmdPwrGet, r)
  | .pwrDomainSet r => some (cmdPwrDomainSet, r)
  | .slackSet r => some (cmdSlackSet, r)
  | .avsSet r => some (cmdAvsSet, r)
  | .stageLeadSet r => some (cmdStageLeadSet, r)
  | .coreGet r => some (cmdCoreGet, r)
  | .monAccess r => some (cmdMonAccess, r)
  | .freeze r => some (cmdFreeze, r)
  | .captureRead r => some (cmdCaptureRead, r)
  | .captureRelease r => some (cmdCaptureRelease, r)
  | _ => none

end Sys2Proof.Machine
end

