-- ==== Sys2Proof/Certificates/Slice0/Obligations.lean ====
section
/-!
DEFINITION. Certificates/Slice0/Obligations.lean: the statements for the provers.
-/
open Sys2Proof Sys2Proof.Machine

/-! ### The machine -/

/-- A step carries out the command at the front of the queue on the state with the queue's rest. -/
def Obligations.StepRunsFront : Prop :=
  ∀ (s : State) i rest, step (s.withPending (i :: rest)) = exec i (s.withPending rest)

/-! ### Development access (R410-R426) -/

/-- The JTAG port answers in every state (R420-R422): what each instruction shifts out, and that no JTAG instruction writes
the Saffron record or the stream store; the words of a held capture from an offset on, zeros when none is held; the
64-byte record that holds an MRAM byte, after 64 status bits with READY in bit 0, and zero beyond 0x1FF_FFFF. The boundary
register has one cell for each signal ball of R441 (notes/assumptions/184.md); a scan shifts out the captured levels, which
are free values (notes/assumptions/5.md), and with EXTEST, in reset, the balls take the levels shifted in. A code that R421
does not list acts as BYPASS. -/
def Obligations.JtagPort : Prop :=
  ∀ s : State,
    exec .jtagIdcode s = .next (s.on fun c => (c.setDbg { c.dbg with ir := 0x01 }).emit (.jtag 32 0xB5120A5B)) ∧
    (∀ code tdi, exec (.jtagBypass ⟨code, tdi⟩) s =
      .next (s.on fun c => (c.setDbg { c.dbg with ir := code }).emit (.jtag 2 (tdi % 2 * 2)))) ∧
    (∀ b, s.chip.pwr.rstLow = false → exec (.jtagExtest b) s =
      .next (s.on fun c => (c.setDbg { c.dbg with ir := 0x00 }).emit (.jtag 2 (b % 2 % 2 * 2)))) ∧
    (∀ b, s.chip.pwr.rstLow = true → Gives (.jtagExtest b) s fun t =>
      t.chip.dbg = { s.chip.dbg with ir := 0x00, boundary := b % 2 ^ 169 } ∧ t.chip.regs = s.chip.regs ∧
        (∃ v, v < 2 ^ 169 ∧ t.chip.out = s.chip.out ++ [.jtag 169 v, .balls (b % 2 ^ 169)]) ∧ SameStore s t) ∧
    (∀ b, Gives (.jtagSamplePreload b) s fun t =>
      t.chip.dbg = { s.chip.dbg with ir := 0x02, boundary := b % 2 ^ 169 } ∧ t.chip.regs = s.chip.regs ∧
        (∃ v, v < 2 ^ 169 ∧ t.chip.out = s.chip.out ++ [.jtag 169 v]) ∧ SameStore s t) ∧
    (∀ off n, s.chip.capHeld = true → off + 8 * n ≤ s.chip.capLen → Gives (.jtagCapRead off n) s fun t =>
      t.chip.out = s.chip.out ++ (List.range n).map (fun k => Output.jtag 64 (leNat (s.chip.capRead (off + 8 * k) 8))) ∧
        t.chip.dbg = { s.chip.dbg with ir := 0x12 } ∧ t.chip.regs = s.chip.regs ∧ SameStore s t) ∧
    (∀ off n, s.chip.capHeld = false → Gives (.jtagCapRead off n) s fun t =>
      t.chip.out = s.chip.out ++ List.replicate n (Output.jtag 64 0) ∧ SameStore s t) ∧
    (∀ off, off ≤ 0x1FFFFFF → Gives (.jtagSaffRead off) s fun t =>
      t.chip.out = s.chip.out ++ [.jtag 576 (1 + leNat (s.mram.line off) * 2 ^ 64)] ∧ t.chip.regs = s.chip.regs ∧
        SameStore s t) ∧
    (∀ off, 0x1FFFFFF < off → Gives (.jtagSaffRead off) s fun t =>
      t.chip.out = s.chip.out ++ [.jtag 576 1] ∧ t.chip.regs = s.chip.regs ∧ SameStore s t)

/-- A freeze starts from the pin, the monitor and JTAG while the core runs (R415, R418, R419; the mailbox's FREEZE command is
stated with the commands of group 0xF): the freeze is active,
its source and its held time are shown, the counters hold their value; a capture is taken unless one is still held,
which is then kept and CAP_LOST_SEEN set. The data plane, the store and the waiting commands stay as they were. -/
def Obligations.FreezeStarts : Prop :=
  let started (source : Nat) (s t : State) : Prop :=
    t.chip.frozen = true ∧ t.chip.fld .DBG_STATUS_LAST_SOURCE 0 = source ∧
    t.chip.fld .DBG_FREEZE_START_START 0 = packTime s.chip.now % 2 ^ 64 ∧
    t.chip.fld .DBG_FREEZE_START_HI_START_HI 0 = packTime s.chip.now / 2 ^ 64 ∧ t.chip.time = s.chip.time ∧
    (s.chip.capHeld = false → t.chip.dbg.copying = true ∧ t.chip.dbg.capSource = source ∧
      t.chip.dbg.capTime = packTime s.chip.now) ∧
    (s.chip.capHeld = true → t.chip.is .DBG_STATUS_CAP_LOST_SEEN 0 = true ∧ t.chip.capHeld = true ∧
      t.chip.dbg.capNo = s.chip.dbg.capNo) ∧
    SamePlane s t ∧ SameStore s t ∧
    SameRegs ([.DBG_STATUS_FREEZE_ACTIVE, .DBG_STATUS_LAST_SOURCE, .DBG_FREEZE_START_START,
      .DBG_FREEZE_START_HI_START_HI, .DBG_STATUS_CAP_LOST_SEEN] ++ eventFlds) s t
  ∀ s : State, s.up →
    (s.chip.dbg.pin = false → Gives .freezePin s fun t => started 0 s t ∧ t.chip.dbg.pin = true) ∧
    (s.chip.monWrite = true → s.chip.monBusy = false → Gives .monFreeze s fun t => started 1 s t ∧ t.chip.dbg.latchMon = true ∧
      Said s t (ascii "OK" ++ crlf ++ ascii "hj> ")) ∧
    Gives .jtagFreeze s fun t => started 2 s t ∧ t.chip.dbg.latchJtag = true ∧ t.chip.dbg.ir = 0x10

/-- A freeze's end (R417, R419). What releases a source: the pin falls, the capture is written, the mailbox latch runs out,
THAW clears the three latches; while another source is active, or the capture is still being written, even with every
source released, the freeze goes on.
It ends when its last condition is met (R62): here the pin falls with every latch clear and the capture written, in
SOLO and with no TIME_CMD action held. Time is no longer valid, the freeze is counted, and its end shows the held time.
Releasing a held capture (R418, R420): it is no longer held, CAP_LOST_SEEN clears, and nothing else of the device's
registers changes but what shows the end of state FROZEN. -/
def Obligations.FreezeEnds : Prop :=
  let released (s t : State) : Prop :=
    t.chip.capHeld = false ∧ t.chip.fld .DBG_STATUS_CAP_LINES 0 = 0 ∧ t.chip.is .DBG_STATUS_CAP_LOST_SEEN 0 = false ∧
      SamePlane s t ∧ SameStore s t ∧
      SameRegs ([.DBG_STATUS_CAPTURE_HELD, .DBG_STATUS_CAP_LINES, .DBG_STATUS_CAP_LOST_SEEN] ++ eventFlds) s t
  (∀ s : State, s.chip.frozen = true → (s.chip.dbg.latchMon = true ∨ s.chip.dbg.latchJtag = true ∨
      s.chip.dbg.latchMbx = true ∨ s.chip.dbg.copying = true) → Gives .freezePinLow s fun t =>
    t.chip.frozen = true ∧ t.chip.dbg = { s.chip.dbg with pin := false } ∧ t.chip.time = s.chip.time ∧ SamePlane s t ∧
      SameStore s t) ∧
  (∀ s : State, s.aonUp → s.chip.frozen = true → s.chip.dbg.pin = true → s.chip.dbg.copying = true →
    s.chip.ident.half = false → Gives .captureCopyDone s fun t =>
      t.chip.frozen = true ∧ t.chip.capHeld = true ∧ t.chip.fld .DBG_STATUS_CAP_LINES 0 = 229376 ∧
        t.chip.dbg = { s.chip.dbg with copying := false, snap := some s.snapshot } ∧ SamePlane s t ∧ SameStore s t) ∧
  (∀ s : State, s.aonUp → s.chip.frozen = true → (s.chip.dbg.pin = true ∨ s.chip.dbg.latchMon = true ∨
      s.chip.dbg.latchJtag = true ∨ s.chip.dbg.copying = true) → Gives .mailboxLatchExpiry s fun t =>
    t.chip.frozen = true ∧ t.chip.dbg = { s.chip.dbg with latchMbx := false } ∧ SamePlane s t ∧ SameStore s t) ∧
  (∀ s : State, s.aonUp → s.chip.frozen = true → (s.chip.dbg.pin = true ∨ s.chip.dbg.copying = true) →
      Gives .jtagThaw s fun t =>
    t.chip.frozen = true ∧
      t.chip.dbg = { s.chip.dbg with ir := 0x11, latchMon := false, latchJtag := false, latchMbx := false } ∧
      SamePlane s t ∧ SameStore s t) ∧
  (∀ s : State, s.aonUp → s.chip.frozen = true → (s.chip.dbg.pin = true ∨ s.chip.dbg.copying = true) →
      s.chip.monWrite = true → s.chip.monBusy = false → Gives .monThaw s fun t => t.chip.frozen = true ∧
      t.chip.dbg = { s.chip.dbg with latchMon := false, latchJtag := false, latchMbx := false } ∧
      Said s t (ascii "OK" ++ crlf ++ ascii "hj> ") ∧ SamePlane s t ∧ SameStore s t) ∧
  ∀ s : State, s.aonUp →
    (s.chip.frozen = true → s.chip.dbg.latchMon = false → s.chip.dbg.latchJtag = false →
      s.chip.dbg.latchMbx = false → s.chip.dbg.copying = false → s.chip.duoState = 0 → s.chip.time.held = none →
      Gives .freezePinLow s fun t =>
        t.chip.frozen = false ∧ t.chip.dbg.pin = false ∧ t.chip.is .TIME_STATUS_VALID 0 = false ∧
        t.chip.fld .DBG_CNT_FREEZES 0 = satAdd 64 (s.chip.fld .DBG_CNT_FREEZES 0) 1 ∧
        t.chip.fld .TIME_EVT_CNT_FREEZES 0 = satAdd 16 (s.chip.fld .TIME_EVT_CNT_FREEZES 0) 1 ∧
        t.chip.fld .DBG_FREEZE_END_END 0 = packTime s.chip.now % 2 ^ 64 ∧ t.chip.plane.quay = [] ∧ SameStore s t) ∧
    (s.chip.capHeld = true → Gives .jtagCapRelease s (released s)) ∧
    (s.chip.capHeld = true → s.chip.monWrite = true → s.chip.monBusy = false →
      Gives .monCaprel s fun t => released s t ∧ Said s t (ascii "OK" ++ crlf ++ ascii "hj> "))

/-- The monitor's reading commands (R410, R412, R413, R420, R423) print their data lines, then OK and the prompt, through
a freeze as well: the IDENTIFY fields and the states, BAR0 words, Saffron records, a held capture; BAUD takes a listed
rate; FTEST prints a fresh challenge (its value is free: notes/assumptions/5.md) when nothing bars it. MON_RD of a word whose domain is
on and that no hand-over copy holds (R129) prints its eight bytes as they read; during a freeze, FLT, SAFF and DBG stay
open and every other block answers ERR FROZEN (R414). A line that comes before the prompt is discarded and counted, one of more than
256 bytes answers ERR LENGTH, and one whose command R413 does not list, here "XY", ERR UNKNOWN (R412, R413). -/
def Obligations.MonitorReads : Prop :=
  let ok := ascii "OK" ++ crlf ++ ascii "hj> "
  ∀ s : State, s.aonUp → s.chip.monBusy = false →
    (Gives .monId s fun t => SameStore s t ∧ SamePlane s t ∧
      Said s t (textLines 0 ((cmdIdentify.body [] s).data ++ toLE 1 s.chip.fenedState ++ toLE 1 s.chip.duoState) ++ ok)) ∧
    (∀ k seq n, k ≤ 5 → seq < 2 ^ 32 → 1 ≤ n → n ≤ 16 → Gives (.monSaff k seq n) s fun t => SameStore s t ∧ SamePlane s t ∧
      Said s t (textLines 0 (s.mram.readAt k seq n).2.flatten ++ ok)) ∧
    (∀ off n, s.chip.capHeld = true → off % 32 = 0 → n % 32 = 0 → n ≤ 65536 → off + n ≤ s.chip.capLen →
      Gives (.monCap off n) s fun t => SameStore s t ∧ SamePlane s t ∧ Said s t (textLines off (s.chip.capRead off n) ++ ok)) ∧
    (∀ rate ∈ [115200, 230400, 460800, 921600, 1000000, 2000000, 3000000], Gives (.monBaud rate) s fun t =>
      t.chip.dbg = { s.chip.dbg with baud := rate } ∧ SameStore s t ∧ SamePlane s t ∧ Said s t ok) ∧
    (s.ftestBarred = false → s.mram.permanent + s.chip.ftestWaiting < 256 → s.chip.dbg.fails < 3 →
      Gives .monFtest s fun t => SameStore s t ∧ SamePlane s t ∧ ∃ v, v < 2 ^ 128 ∧
        t.chip.dbg = { s.chip.dbg with challenge := some (v, s.chip.now) } ∧
        Said s t (hexNat 8 (v / 2 ^ 96) ++ [32] ++ hexNat 8 (v / 2 ^ 64) ++ [32] ++ hexNat 8 (v / 2 ^ 32) ++ [32] ++
          hexNat 8 v ++ crlf ++ ok)) ∧
    (∀ off, off % 8 = 0 → off + 8 ≤ 2 ^ 24 → (s.chip.frozen = false ∨ openInFreeze off = true) → s.chip.domainOff off = false →
      s.chip.readHeldBy off = none → Gives (.monRd (.num off) 1) s fun t => Said (s.readBar .mon off 8).2 t (textLines off (toLE 8 (s.readBar .mon off 8).1) ++ ok) ∧ SamePlane s t ∧ SameStore s t) ∧
    (∀ off, off % 8 = 0 → off + 8 ≤ 2 ^ 24 → s.chip.frozen = true → openInFreeze off = false →
      Gives (.monRd (.num off) 1) s fun t =>
        Said s t (ascii "ERR " ++ ascii "FROZEN" ++ crlf ++ ascii "hj> ") ∧ SameStore s t ∧ SamePlane s t) ∧
    (∀ text n, Gives (.monRd (.line true text) n) s fun t => NotSent s t Output.monText ∧
      t.chip.fld .DBG_CNT_MON_ERRORS 0 = satAdd 64 (s.chip.fld .DBG_CNT_MON_ERRORS 0) 1 ∧ SameStore s t ∧ SamePlane s t) ∧
    (∀ text n, 256 < text.length → Gives (.monRd (.line false text) n) s fun t =>
      Said s t (ascii "ERR " ++ ascii "LENGTH" ++ crlf ++ ascii "hj> ") ∧ SameStore s t ∧ SamePlane s t) ∧
    (∀ data, Gives (.monWr (.line false (ascii "XY")) data) s fun t =>
      Said s t (ascii "ERR " ++ ascii "UNKNOWN" ++ crlf ++ ascii "hj> ") ∧ SameStore s t ∧ SamePlane s t)

/-- Factory test mode (R423-R425): a valid response, within 60 s and for the challenge outstanding, enters it; a response
that is not valid is counted and uses the challenge up; INJECT submits the report with INJECTED set; INJECT_ECC flips
symbols of the store line. Outside the mode both answer ERR NOTFTEST. -/
def Obligations.FactoryTest : Prop :=
  let ok := ascii "OK" ++ crlf ++ ascii "hj> "
  let denied := ascii "ERR " ++ ascii "DENIED" ++ crlf ++ ascii "hj> "
  let notFtest := ascii "ERR " ++ ascii "NOTFTEST" ++ crlf ++ ascii "hj> "
  ∀ s : State, s.aonUp → s.chip.monBusy = false →
    (∀ resp, s.ftestBarred = false → s.mram.permanent + s.chip.ftestWaiting < 256 → s.chip.dbg.fails < 3 →
      Gives (.monFtestResp resp) s fun t => t.chip.dbg.challenge = none ∧ SamePlane s t ∧ SameStore s t ∧
        (s.chip.ftestValid resp = true → t.chip.is .DBG_STATUS_FTEST 0 = true ∧ t.chip.dbg.fails = s.chip.dbg.fails ∧
          Said s t ok)) ∧
    (∀ resp, s.ftestBarred = false → s.mram.permanent + s.chip.ftestWaiting < 256 → s.chip.ftestValid resp = false →
      Gives (.monFtestResp resp) s fun t =>
        t.chip.dbg.challenge = none ∧ t.chip.dbg.fails = s.chip.dbg.fails + 1 ∧
          t.chip.fld .DBG_CNT_CHALLENGE_FAILS 0 = satAdd 64 (s.chip.fld .DBG_CNT_CHALLENGE_FAILS 0) 1 ∧
          Said s t denied ∧ SamePlane s t ∧ SameStore s t) ∧
    (s.chip.monWrite = true → s.chip.is .DBG_STATUS_FTEST 0 = true → ∀ source kind addr, source < 2 ^ 16 →
      kindListed kind = true → addr < 2 ^ 64 → Gives (.monInject source kind addr) s fun t =>
        t.chip.flt.batch = s.chip.flt.batch ++ [⟨source, kind, addr, true⟩] ∧ t.chip.flt.batchOpen = true ∧
          (kind = 0x50C → t.chip.is .FLT_STATUS_STALL_SEEN 0 = true) ∧
          t.chip.fld .DBG_CNT_INJECTIONS 0 = satAdd 64 (s.chip.fld .DBG_CNT_INJECTIONS 0) 1 ∧ Said s t ok ∧ SamePlane s t ∧
          SameStore s t) ∧
    (s.chip.monWrite = true → s.chip.is .DBG_STATUS_FTEST 0 = true → ∀ addr n, addr < 2 ^ 38 → 1 ≤ n → n ≤ 2 →
      Gives (.monInjectEcc addr n) s fun t =>
        kGet 0 t.chip.stor.ecc (addr / 64 * 64) = kGet 0 s.chip.stor.ecc (addr / 64 * 64) + n ∧
          (∀ line, line ≠ addr / 64 * 64 → kGet 0 t.chip.stor.ecc line = kGet 0 s.chip.stor.ecc line) ∧
          t.chip.fld .DBG_CNT_INJECTIONS 0 = satAdd 64 (s.chip.fld .DBG_CNT_INJECTIONS 0) 1 ∧ Said s t ok ∧ SameStore s t) ∧
    (s.chip.monWrite = true → s.chip.is .DBG_STATUS_FTEST 0 = false → ∀ source kind addr n,
      (Gives (.monInject source kind addr) s fun t => t.chip.flt.batch = s.chip.flt.batch ∧ Said s t notFtest ∧ SamePlane s t) ∧
      (Gives (.monInjectEcc addr n) s fun t => Said s t notFtest ∧ SamePlane s t))

/-- Writes through the monitor. A write-class command on a read-only monitor answers ERR LOCKED and has no effect (R411).
MON_WR by a write-enabled monitor (R313, R414): to a block of the host driver ERR HOSTONLY and no effect; to a block
whose function is not claimed ERR UNCLAIMED, and the write is dropped, counted and reported; to a claimed one, here
TIME_ADJ_OFS of the function TIME (R81), the register takes the value and the monitor answers OK. -/
def Obligations.MonitorWrites : Prop :=
  let prompt := crlf ++ ascii "hj> "
  (∀ s : State, s.aonUp → s.chip.monBusy = false → s.chip.monWrite = false → ∀ off data source kind addr symbols,
    ∀ i ∈ [Instr.monWr (.num off) data, .monFreeze, .monThaw, .monCaprel, .monInject source kind addr, .monInjectEcc addr symbols],
      exec i s = .next ((s.on fun c => c.emit (.monText (ascii "ERR LOCKED" ++ crlf ++ ascii "hj> "))).on Chip.noteState)) ∧
  ∀ s : State, s.up → s.chip.monBusy = false → s.chip.monWrite = true → s.chip.monPath = PathS.init →
    (∀ off v, off % 8 = 0 → off < 0x40000 → v < 2 ^ 64 → Gives (.monWr (.num off) v) s fun t =>
      Said s t (ascii "ERR " ++ ascii "HOSTONLY" ++ prompt) ∧ SamePlane s t ∧ SameStore s t ∧ SameRegs eventFlds s t) ∧
    (∀ v, s.chip.claimed 1 = true → v < 2 ^ 64 → Gives (.monWr (.num 0x50020) v) s fun t =>
      t.chip.fld .TIME_ADJ_OFS_OFS 0 = v ∧ Said s t (ascii "OK" ++ prompt) ∧ SamePlane s t ∧ SameStore s t ∧
        SameRegs (.TIME_ADJ_OFS_OFS :: eventFlds) s t) ∧
    (∀ v, s.chip.claimed 1 = false → v < 2 ^ 64 → Gives (.monWr (.num 0x50020) v) s fun t =>
      t.chip.fld .MBX_CNT_UNCLAIMED_WR 0 = satAdd 64 (s.chip.fld .MBX_CNT_UNCLAIMED_WR 0) 1 ∧
        t.chip.flt.batch = s.chip.flt.batch ++ [⟨0xB000, 0x509, 0x50020, false⟩] ∧
        Said s t (ascii "ERR " ++ ascii "UNCLAIMED" ++ prompt) ∧ SamePlane s t ∧ SameStore s t ∧
        SameRegs (.MBX_CNT_UNCLAIMED_WR :: eventFlds) s t)

/-! ### Register accesses (R11, R313, R445-R448) -/

/-- REGISTER_WRITE by the host driver (R313, R447). A write of TIME_ADJ_OFS takes effect when TIME is claimed; otherwise it
is dropped, counted in UNCLAIMED_WR and reported. Its low half alone is held and changes no register; the write of the
high half that follows applies both. -/
def Obligations.RegisterAccess : Prop :=
  ∀ s : State, s.chip.hostServed = true →
    (∀ v, v < 2 ^ 32 → Gives (.registerWrite .host 0x50020 4 v) s fun t =>
      SameRegs eventFlds s t ∧ t.chip.hostPath.lowHeld = some (0x50020, v) ∧ SamePlane s t ∧ SameStore s t) ∧
    (∀ v w, w < 2 ^ 32 → s.chip.hostPath.lowHeld = some (0x50020, v) → v < 2 ^ 32 → s.chip.claimed 1 = true →
      Gives (.registerWrite .host 0x50024 4 w) s fun t =>
        t.chip.fld .TIME_ADJ_OFS_OFS 0 = v + w * 2 ^ 32 ∧ t.chip.hostPath.lowHeld = none ∧
          SameRegs (.TIME_ADJ_OFS_OFS :: eventFlds) s t ∧ SamePlane s t ∧ SameStore s t) ∧
    (∀ v, v < 2 ^ 64 → s.chip.claimed 1 = true → Gives (.registerWrite .host 0x50020 8 v) s fun t =>
      t.chip.fld .TIME_ADJ_OFS_OFS 0 = v ∧ SameRegs (.TIME_ADJ_OFS_OFS :: eventFlds) s t ∧ SamePlane s t ∧ SameStore s t) ∧
    (∀ v, s.chip.claimed 1 = false → Gives (.registerWrite .host 0x50020 8 v) s fun t =>
      t.chip.fld .MBX_CNT_UNCLAIMED_WR 0 = satAdd 64 (s.chip.fld .MBX_CNT_UNCLAIMED_WR 0) 1 ∧
        t.chip.flt.batch = s.chip.flt.batch ++ [⟨0xB000, 0x509, 0x50020, false⟩] ∧
        SameRegs (.MBX_CNT_UNCLAIMED_WR :: eventFlds) s t ∧ SamePlane s t ∧ SameStore s t)

/-! ### Reset, start-up and power (R396-R409) -/

/-- What reset leaves (R9, R12, R60, R343, R410): registers at the values of their tables, for each of the values named,
no time valid, an empty store, no command waiting. -/
def Obligations.ResetValues : Prop :=
  let c := State.reset.chip
  c.fld .TIME_STATUS_SERVO_SRC 0 = 15 ∧ c.fld .TIME_CHECK_CFG_CONFIRM_S 0 = 10 ∧ c.fld .TIME_CHECK_CFG_READMIT_S 0 = 60 ∧
    c.fld .CORE_SLACK_CTRL_LOWER_THR 3 = 120 ∧ c.fld .PWR_DOMAIN_CTRL_REQ 0 = 0x500000000000 ∧
    c.fld .PWR_MILESTONE_US 4 = 0xFFFFFFFF ∧ c.fld .SAFF_SECT_CAPACITY 1 = 393216 ∧ c.fld .MBX_STATUS_FALLBACK 0 = 0 ∧
    c.dbg.baud = 115200 ∧ c.is .TIME_STATUS_VALID 0 = false ∧ c.mbx.isOpen = false ∧ (∀ i, (c.slot i).st = 0) ∧
    c.duoState = 0 ∧ State.reset.pending = [] ∧ State.reset.mem = [] ∧ State.reset.safe ∧ State.reset.mram.fits

/-- Resets of the unit (R9, R262, R359, R399-R401, R418). RST_N going low: the ERR and ALIVE pins are low, the host link is
down, a freeze ends and a capture is discarded; the store and the Saffron record stay. Its release resets everything
except the Saffron record: every register field but those that show the straps, the rank, the supplies and the levels of the
slots' pins holds its reset value, and the straps are latched. Power removal loses everything but the Saffron record, whose
permanent records stay; with no record waiting to be written it is as it was. The always-on domain's start: the counters
run from 0, TIME_VALID is 0, the reset cause is shown and the boot number, one more than the newest lifetime snapshot of the
Saffron record holds, PD_WELCOR and PD_HOST are on, the ERR pins show fault; the Saffron record is read, which finds the
heads of its sections, and is not written. -/
def Obligations.ResetSequence : Prop :=
  (∀ s : State, s.chip.pwr.rstLow = false → Gives .rstNAssert s fun t =>
    t.chip.pwr.rstLow = true ∧ t.chip.is .FLT_PINS_ERR_P 0 = false ∧ t.chip.is .FLT_PINS_ERR_N 0 = false ∧
      t.chip.is .FLT_PINS_ALIVE 0 = false ∧ t.chip.is .HOST_STATUS_LINK_UP 0 = false ∧ t.chip.host.wake = false ∧
      t.chip.frozen = false ∧ t.chip.capHeld = false ∧ t.chip.dbg.copying = false ∧ t.chip.time = s.chip.time ∧
      SamePlane s t ∧ SameStore s t) ∧
  (∀ s straps, s.chip.pwr.rstLow = true → Gives (.rstNRelease straps) s fun t =>
    t.chip.pwr.rstLow = false ∧ t.chip.is .PWR_STRAPS_DUO_RANK 0 = straps.duoRank ∧
      t.chip.is .PWR_STRAPS_MON_EN 0 = straps.monEn ∧ t.chip.is .PWR_STRAPS_FTEST 0 = straps.ftest ∧
      t.chip.is .DUO_STATUS_RANK 0 = straps.duoRank ∧ t.mem = [] ∧ t.mram = s.mram ∧ t.pending = s.pending ∧
      (∀ f i, ¬ f ∈ [Fld.PWR_STRAPS_DUO_RANK, .PWR_STRAPS_MON_EN, .PWR_STRAPS_FTEST, .DUO_STATUS_RANK, .PWR_SUPPLY_OK,
        .SPIL_SLOT_STATUS_PRESENT, .SPIL_SLOT_STATUS_PWR_FAULT, .SPIL_SLOT_STATUS_BTN] → t.chip.fld f i = f.resetAt i) ∧
      t.chip.strm = StrmS.init ∧ t.chip.plane = PlaneS.init ∧ t.chip.stor = StorS.init ∧ t.chip.brkw = BrkwS.init ∧
      t.chip.duo = DuoS.init ∧ t.chip.time = TimeS.init) ∧
  (∀ s, Gives .powerRemoval s fun t =>
    t.mem = [] ∧ (s.chip.flt.queue = [] → t.mram = s.mram) ∧ (s.mram.fits → s.mram.keeps t.mram) ∧
      t.pending = s.pending ∧ (∀ f i, t.chip.fld f i = f.resetAt i) ∧
      t.chip.strm = StrmS.init ∧ t.chip.plane = PlaneS.init ∧ t.chip.stor = StorS.init ∧ t.chip.time = TimeS.init) ∧
  (∀ s : State, s.chip.pwr.rstLow = false → s.chip.pwr.unitReset = false → s.chip.pwr.aonReady = false →
    s.chip.is .TIME_STATUS_VALID 0 = false → Gives .alwaysOnReady s fun t =>
      t.chip.pwr.aonReady = true ∧ t.chip.time.running = true ∧ t.chip.time.refOn = true ∧ t.chip.raw = 0 ∧
      t.chip.time.ctr0 = 0 ∧ t.chip.time.ctr1 = 0 ∧ t.chip.time.ctr2 = 0 ∧
      (let boots := match s.mram.found.newestOf 5 1 with
        | some b => leNat (slice b 0x1C 4)
        | none => 0
       t.chip.fld .PWR_BOOT_NO_BOOT_NO 0 = min (boots + 1) 0xFFFFFFFF) ∧
      t.chip.is .TIME_STATUS_REF_OK 0 = true ∧ t.chip.is .TIME_STATUS_VALID 0 = false ∧
      t.chip.fld .PWR_RESET_CAUSE_CAUSE 0 = s.chip.pwr.cause ∧ t.chip.domainOn 44 = true ∧ t.chip.domainOn 46 = true ∧
      Sent s t (.errPins false true) ∧ SamePlane s t ∧ t.mem = s.mem ∧ t.mram = s.mram.found ∧ t.pending = s.pending)

/-- The boot ROM's choice (R294, R295, R401 step 3): slot A if it fits, and Fened's domains are requested unless
Quadrant 0's already is; else slot B, which sets FALLBACK; else RESTRICTED. Fened comes up (R359, R401 step 6): the domains that it has requested are ready,
the stacks apart. -/
def Obligations.FenedBoots : Prop :=
  ∀ s : State, s.up → s.chip.mbx.fened = .boot → s.chip.mbx.act = none →
    let a := s.chip.slotReason s.chip.mbx.fwA
    let b := s.chip.slotReason s.chip.mbx.fwB
    let loaded (k : Nat) (x : FwSlot) (t : State) : Prop :=
      t.chip.fld .MBX_STATUS_SLOT 0 = k ∧ t.chip.fld .MBX_FW_VER_VERSION 0 = x.version ∧ t.chip.mbx.fened = .boot ∧
        (s.chip.requested 40 = false →
          ∀ d ∈ [40, 41, 42, 43, 32, 33, 34, 35, 36, 37, 38, 39, 45], t.chip.requested d = true)
    (s.chip.imageLoaded = false → a = 0 → Gives .bootRomLoadDone s fun t =>
      loaded 0 s.chip.mbx.fwA t ∧ SamePlane s t ∧ SameStore s t) ∧
    (s.chip.imageLoaded = false → a ≠ 0 → b = 0 → Gives .bootRomLoadDone s fun t =>
      loaded 1 s.chip.mbx.fwB t ∧ t.chip.is .MBX_STATUS_FALLBACK 0 = true ∧ SamePlane s t ∧ SameStore s t) ∧
    (s.chip.imageLoaded = false → a ≠ 0 → b ≠ 0 → Gives .bootRomLoadDone s fun t =>
      t.chip.mbx.fened = .restricted ∧ (∀ d, t.chip.requested d = s.chip.requested d) ∧ SamePlane s t ∧ SameStore s t) ∧
    (s.chip.imageLoaded = true → Gives .fenedReady s fun t =>
      t.chip.mbx.fened = .up ∧ t.chip.flt.readyOnce = true ∧
        (∀ d ∈ [40, 41, 42, 43, 45], s.chip.requested d = true → t.chip.domainOn d = true) ∧
        t.chip.stor = s.chip.stor ∧ t.chip.plane = s.chip.plane ∧ SameStore s t)

/-- Memory stacks (R347, R402, R406): training ends in READY or in FAILED, which is kept in FAIL_SEEN and reported as
STORE_STACK_FAIL; a stack in service that stops answering is FAILED and off; Fened retrains it once by itself. -/
def Obligations.StacksTrain : Prop :=
  ∀ s : State, s.up → ∀ m, m < 8 →
    (s.chip.memState m = 1 → s.chip.duo.window = false → Gives (.memoryTrainingDone m true) s fun t =>
      t.chip.memState m = 2 ∧ t.chip.domainOn (32 + m) = true ∧ t.chip.pwr.stackFailed.testBit m = false ∧ SameStore s t) ∧
    (s.chip.memState m = 1 → Gives (.memoryTrainingDone m false) s fun t =>
      t.chip.memState m = 3 ∧ t.chip.domainOn (32 + m) = false ∧ t.chip.pwr.stackFailed.testBit m = true ∧
        t.chip.bitF .PWR_MEM_STATUS_FAIL_SEEN 0 m = true ∧
        t.chip.flt.batch = s.chip.flt.batch ++ [⟨0x7000 + m, 0x408, m, false⟩] ∧ SamePlane s t ∧ SameStore s t) ∧
    (s.chip.memState m = 2 → Gives (.storeStackFail m) s fun t =>
      t.chip.memState m = 3 ∧ t.chip.domainOn (32 + m) = false ∧ t.chip.pwr.stackFailed.testBit m = true ∧
        t.chip.bitF .PWR_MEM_STATUS_FAIL_SEEN 0 m = true ∧
        t.chip.flt.batch = s.chip.flt.batch ++ [⟨0x7000 + m, 0x408, m, false⟩] ∧ SamePlane s t ∧ SameStore s t) ∧
    (s.chip.memState m = 3 → s.chip.pwr.autoRetrained.testBit m = false → s.chip.requested (32 + m) = true →
      s.chip.fenedRuns = true → s.chip.claimed 10 = false → Gives (.stackAutoRetrain m) s fun t =>
        t.chip.memState m = 1 ∧ t.chip.pwr.autoRetrained.testBit m = true ∧
          SameRegs [.PWR_MEM_STATUS_STATE, .PWR_CNT_MEM_RETRAINS] s t ∧ SamePlane s t ∧ SameStore s t)

/-- The switched domains (R404, R405, R409): a requested domain becomes ready; a STRM write that arrives
during the copy of a quadrant's replica waits, and changes nothing yet; a write of PWR_DOMAIN_CTRL that asks for no
refused switching is taken over whole; one that asks to switch off a domain in use is dropped whole and reported with
that domain as its source. A supply that leaves its window and comes back (R398): OK follows, LOW_SEEN is kept,
SUPPLY_EVENTS counts; nothing is reported. A direction of the die bridge that stops, and its retraining (R347, R407). -/
def Obligations.DomainsAndSupplies : Prop :=
  (∀ s : State, s.up → s.chip.pwr.held = [] → ∀ d, s.chip.requested d = true → s.chip.domainOn d = false →
    (d < 32 ∨ 40 ≤ d) → Gives (.domainReady d) s fun t => t.chip.domainOn d = true ∧ SameStore s t ∧
      (d ≠ 45 → SameRegs (.PWR_DOMAIN_STATUS_ON :: eventFlds) s t ∧ t.chip.spil = s.chip.spil)) ∧
  (∀ s src data, s.chip.reaches src .STRM = true → s.chip.mayWrite .STRM = true → s.chip.replicaCopy = true →
    Gives (.strmKeyInsert src data) s fun t =>
      t.chip.pwr.held = s.chip.pwr.held ++ [.write (src == .host) 0xA00008 false (strmWord 0 2 data)] ∧
        SameRegs eventFlds s t ∧ SamePlane s t ∧ SameStore s t) ∧
  (∀ s src data, s.chip.admits src .PWR → (∀ d ∈ s.chip.reqOff data, s.chip.offCode d = rOK) →
    Gives (.pwrDomainCtrlWrite src data) s fun t =>
      (∀ d, s.chip.hasDomain d = true → t.chip.requested d = data.testBit d) ∧ t.mram = s.mram ∧ t.pending = s.pending) ∧
  (∀ s src data d, s.chip.admits src .PWR → (s.chip.reqOff data).find? (fun d => s.chip.offCode d != rOK) = some d →
    Gives (.pwrDomainCtrlWrite src data) s fun t =>
      t.chip.flt.batch = s.chip.flt.batch ++ [⟨0xE000 + d, 0xE01, 0x70008, false⟩] ∧ SameRegs eventFlds s t ∧
        SamePlane s t ∧ SameStore s t) ∧
  (∀ s : State, s.aonUp → ∀ k, k < 8 →
    (s.chip.bitF .PWR_SUPPLY_OK 0 k = true → Gives (.supplyOutOfWindow k) s fun t =>
      t.chip.bitF .PWR_SUPPLY_OK 0 k = false ∧ t.chip.bitF .PWR_SUPPLY_LOW_SEEN 0 k = true ∧
        t.chip.fld .PWR_CNT_SUPPLY_EVENTS 0 = satAdd 64 (s.chip.fld .PWR_CNT_SUPPLY_EVENTS 0) 1 ∧
        SameRegs [.PWR_SUPPLY_OK, .PWR_SUPPLY_LOW_SEEN, .PWR_CNT_SUPPLY_EVENTS] s t ∧ t.chip.flt = s.chip.flt ∧
        SamePlane s t ∧ SameStore s t) ∧
    Gives (.supplyInWindow k) s fun t =>
      t.chip.bitF .PWR_SUPPLY_OK 0 k = true ∧ SameRegs [.PWR_SUPPLY_OK] s t ∧ t.chip.flt = s.chip.flt ∧ SamePlane s t ∧
        SameStore s t) ∧
  (∀ s : State, s.up → ∀ d, d < 2 →
    (s.chip.bridgeStopped d = false → Gives (.bridgeDown d) s fun t =>
      t.chip.bridgeStopped d = true ∧ t.chip.flt.batch = s.chip.flt.batch ++ [⟨0x010 + d, 0x009, d, false⟩] ∧
        SameRegs eventFlds s t ∧ SamePlane s t ∧ SameStore s t) ∧
    (s.chip.pwr.bridgeDown.testBit d = true → ∀ ok, (ok = true → s.chip.duo.window = false) → Gives (.bridgeRetrain d ok) s fun t =>
      t.chip.pwr.bridgeDown.testBit d = !ok ∧
        t.chip.fld .PWR_CNT_BRIDGE_RETRAINS 0 = satAdd 64 (s.chip.fld .PWR_CNT_BRIDGE_RETRAINS 0) 1 ∧
        SameRegs (.PWR_CNT_BRIDGE_RETRAINS :: eventFlds) s t ∧ SamePlane s t ∧ SameStore s t))

/-! ### Time (R52-R81) -/

/-- TIME_CMD (R56, R60, R61). STEP adds TIME_ADJ_OFS, and LOAD sets the loaded value, on all three counters at one edge; a
load with more than 999,999,999 ns is rejected and reported; with no reference an action is held for the first edge; a
second one while one is held is rejected. SET_VALID and CLEAR_SUSPECT act on their flag alone. -/
def Obligations.TimeCommands : Prop :=
  ∀ s src data, s.chip.admits src .TIME → data % 16 = 0 →
    let moved (v : Nat) (t : State) : Prop :=
      t.chip.time.ctr0 = v % timeWrap ∧ t.chip.time.ctr1 = v % timeWrap ∧ t.chip.time.ctr2 = v % timeWrap ∧
        t.chip.fld .TIME_EVT_CNT_STEPS 0 = satAdd 16 (s.chip.fld .TIME_EVT_CNT_STEPS 0) 1 ∧ t.mram = s.mram ∧
        t.pending = s.pending
    (s.chip.ticking = true → s.chip.time.held = none → Gives (.timeCmdStep src data) s
      (moved ((((s.chip.raw : Int) + asInt 64 (s.chip.fld .TIME_ADJ_OFS_OFS 0) * 65536) % (timeWrap : Int)).toNat))) ∧
    (s.chip.ticking = true → s.chip.time.held = none → timeOk s.chip.loadValue = true →
      Gives (.timeCmdLoad src data) s (moved (unpackTime s.chip.loadValue * 65536))) ∧
    (s.chip.time.held = none → timeOk s.chip.loadValue = false → Gives (.timeCmdLoad src data) s fun t =>
      t.chip.time = s.chip.time ∧ t.chip.flt.batch = s.chip.flt.batch ++ [⟨0x1000, 0x104, 0x50038, false⟩] ∧
        SameRegs eventFlds s t ∧ SamePlane s t ∧ SameStore s t) ∧
    (s.chip.ticking = false → s.chip.time.held = none → Gives (.timeCmdStep src data) s fun t =>
      t.chip.time = { s.chip.time with held := some .step } ∧ SameRegs eventFlds s t ∧ SamePlane s t ∧ SameStore s t) ∧
    (s.chip.time.held ≠ none → Gives (.timeCmdStep src data) s fun t =>
      t.chip.time = s.chip.time ∧ t.chip.flt.batch = s.chip.flt.batch ++ [⟨0x1000, 0x104, 0x50038, false⟩] ∧
        SameRegs eventFlds s t ∧ SamePlane s t ∧ SameStore s t) ∧
    (Gives (.setValid src data) s fun t =>
      t.chip.is .TIME_STATUS_VALID 0 = true ∧ t.chip.time = s.chip.time ∧ SameRegs (.TIME_STATUS_VALID :: eventFlds) s t ∧
        SamePlane s t ∧ SameStore s t) ∧
    (Gives (.clearSuspect src data) s fun t =>
      t.chip.is .TIME_STATUS_SUSPECT 0 = false ∧ t.chip.now = s.chip.now ∧
        SameRegs (.TIME_STATUS_SUSPECT :: eventFlds) s t ∧ SamePlane s t ∧ SameStore s t)

/-- The voter and the reference (R53, R56). Three different values leave the one nearest the prediction in all three, with
TIME_SUSPECT; without the reference the counters stop and TIME_VALID clears; they resume from the held value. -/
def Obligations.VoterAndReference : Prop :=
  (∀ s : State, ∀ c0 c1 c2, s.chip.ticking = true → c0 < timeWrap → c1 < timeWrap → c2 < timeWrap → c0 ≠ c1 → c1 ≠ c2 →
    c0 ≠ c2 → Gives (.timeVoteSplit c0 c1 c2) s fun t =>
      (let k := nearest (s.chip.raw + s.chip.incr) c0 c1 c2
       let v := if k = 0 then c0 else if k = 1 then c1 else c2
       t.chip.time.ctr0 = v ∧ t.chip.time.ctr1 = v ∧ t.chip.time.ctr2 = v ∧
         t.chip.flt.batch = s.chip.flt.batch ++ [⟨0x1000, 0x103, k, false⟩]) ∧
      t.chip.is .TIME_STATUS_SUSPECT 0 = true ∧ t.chip.is .TIME_STATUS_SPLIT_SEEN 0 = true ∧
      t.chip.fld .TIME_STATUS_LAST_BAD 0 = 3 ∧
      t.chip.fld .TIME_VOTE_CNT_SPLITS 0 = satAdd 32 (s.chip.fld .TIME_VOTE_CNT_SPLITS 0) 1 ∧ SamePlane s t ∧
      SameStore s t) ∧
  (∀ s : State, s.chip.time.running = true → s.chip.time.refOn = true → s.chip.pwr.rstLow = false →
    Gives .refLoss s fun t =>
      t.chip.time.refOn = false ∧ t.chip.is .TIME_STATUS_REF_OK 0 = false ∧ t.chip.is .TIME_STATUS_VALID 0 = false ∧
        t.chip.raw = s.chip.raw ∧
        t.chip.flt.batch = s.chip.flt.batch ++ [⟨0x1000, 0x101, packTime s.chip.now % 2 ^ 64, false⟩] ∧ SamePlane s t ∧
        SameStore s t) ∧
  (∀ s : State, s.chip.time.running = true → s.chip.time.refOn = false → s.chip.pwr.rstLow = false →
    s.chip.time.held = none → s.chip.duo.window = false → Gives .refReturn s fun t =>
      t.chip.time = { s.chip.time with refOn := true } ∧ t.chip.is .TIME_STATUS_REF_OK 0 = true ∧
        SameRegs (.TIME_STATUS_REF_OK :: eventFlds) s t ∧ SamePlane s t ∧ SameStore s t)

/-- What Fened makes of PTP messages (R59, R71-R73, R76): the offset of a Sync less the delay and the asymmetry, the delay
filter, the samples used again after a suspected step, a source without Syncs invalid, a delay accepted after its
confirmation, a source readmitted; Announce contents never change the counters. A message of Fened's own has its
instance's domain and its type (R65) and enters the port's first timed Berth with a launch time (R67): a Sync carries it as
its origin, a Pdelay_Resp its turnaround time in the correction field, an Announce the UTC offset, the leap flags and the
clockClass. To a port of die B it crosses the die bridge, and is dropped where that is stopped (R24). The message's other
content and the choice of the launch time are free values (notes/assumptions/5.md), its length is PRESUMED
(notes/assumptions/180.md). -/
def Obligations.PtpSources : Prop :=
  (∀ s : State, s.up → s.chip.fenedRuns = true →
    (∀ i p off, s.chip.slaveOf i p = true → Gives (.syncReceived i p off) s fun t =>
      (t.chip.src i).diff = off ∧ t.chip.is .TIME_SRC_SRC_VALID i = true ∧
        t.chip.fld .TIME_SRC_OFFSET i =
          ofInt 64 (off - (s.chip.srcMpd i + asInt 64 (s.chip.fld .TIME_PORT_ASYM_ASYM p))) ∧
        SamePlane s t ∧ SameStore s t) ∧
    (∀ i p d, s.chip.slaveOf i p = true → (s.chip.src i).filter = [] → Gives (.delayExchange i p d) s fun t =>
      (t.chip.src i).filter = List.replicate 8 d ∧ t.chip.fld .TIME_SRC_MPD i = ofInt 64 d ∧ SamePlane s t ∧
        SameStore s t) ∧
    (∀ i p d, s.chip.slaveOf i p = true → (s.chip.src i).filter ≠ [] →
      ((d - s.chip.srcMpd i).natAbs : Int) ≤ s.chip.nsOf .TIME_CHECK_CFG_DELAY_STEP_NS →
      Gives (.delayExchange i p d) s fun t =>
        (t.chip.src i).filter = (d :: (s.chip.src i).filter).take 8 ∧
          t.chip.fld .TIME_SRC_MPD i = ofInt 64 (trimmed ((d :: (s.chip.src i).filter).take 8)) ∧ SamePlane s t ∧
          SameStore s t) ∧
    (∀ k, (s.chip.src k).suspected = true → Gives (.suspectedStepTimeout k) s fun t =>
      (t.chip.src k).suspected = false ∧ (t.chip.src k).unused = true ∧ (t.chip.src k).filtOffset.isSome = true ∧
        t.chip.regs = s.chip.regs ∧ SamePlane s t ∧ SameStore s t) ∧
    (∀ k, k < 8 → Gives (.syncTimeout k) s fun t =>
      t.chip.is .TIME_SRC_SRC_VALID k = false ∧ (t.chip.src k).unused = false ∧ SameRegs [.TIME_SRC_SRC_VALID] s t ∧
        SamePlane s t ∧ SameStore s t) ∧
    (∀ k, s.chip.claimed 1 = false → s.chip.is .TIME_SRC_CONFIRMING k = true → Gives (.confirmExpiry k) s fun t =>
      t.chip.is .TIME_SRC_CONFIRMING k = false ∧ t.chip.raw = s.chip.raw ∧ SamePlane s t ∧ SameStore s t) ∧
    (∀ k d, s.chip.claimed 1 = false → s.chip.is .TIME_SRC_EXCLUDED k = true → s.chip.offMedian k = some (false, d) →
      (∀ j, s.chip.is .TIME_SRC_CONFIRMING j = false) → Gives (.readmitExpiry k) s fun t =>
        t.chip.is .TIME_SRC_EXCLUDED k = false ∧ SameRegs (.TIME_SRC_EXCLUDED :: eventFlds) s t ∧ SamePlane s t ∧
          SameStore s t) ∧
    (∀ i p a x, kFind s.chip.time.inst i = some x → s.chip.fld .TIME_PORT_CFG_INST p = i →
      Gives (.announceReceived i p a) s fun t =>
        t.chip.raw = s.chip.raw ∧ t.chip.time.utcOffset = a.utcOffset ∧ t.chip.time.leap59 = a.leap59 ∧
          t.chip.time.leap61 = a.leap61 ∧
          (∃ y, kFind t.chip.time.inst i = some y ∧ y.gmId = a.gmId ∧ y.gmClass = a.gmClass ∧
            y.stepsRemoved = a.stepsRemoved ∧ kFind y.portState p = some a.portState) ∧
          SamePlane s t ∧ SameStore s t)) ∧
  (∀ (s : State) i p m y b l x, s.up → s.chip.fenedRuns = true → s.chip.sends i p m = true →
    (s.chip.berthsOf p).filter s.chip.bTimed = b :: l → kFind s.chip.time.inst i = some x →
    (dieOf (quadOfPort p) = 0 → Gives (.ptpInterval i p ⟨m, y⟩) s fun t =>
      (∃ f v w, f.ts = s.chip.now ∧ f.bytes = s.chip.ptpFill m (x.frame m w) (s.chip.now + v) ∧
        f.elen = some (f.bytes.length + 4) ∧
        t.chip = ((({ s.chip with free := s.chip.free + 2 }).enqueue b f (some (s.chip.now + v))).2.2).noteShare
          (quadOfPort p)) ∧ SameStore s t) ∧
    (dieOf (quadOfPort p) = 1 → s.chip.bridgeStopped 0 = true → Gives (.ptpInterval i p ⟨m, y⟩) s fun t =>
      t.chip.fld .CORE_BRIDGE_DROP 0 = satAdd 64 (s.chip.fld .CORE_BRIDGE_DROP 0) 1 ∧
        t.chip.plane = s.chip.plane ∧ SameStore s t)) ∧
  ∀ (x : PtpInst) m w, x.cfg.length = 48 →
    (x.body m w).length = msgLength m ∧ beNat (slice (x.body m w) 0 1) % 16 = msgCode m ∧
      slice (x.body m w) 4 1 = slice x.cfg 2 1

/-- The servo and the PPS pins (R63, R64, R72, R77). With no source left, LOCKED becomes HOLDOVER, counted; with a source
chosen, FREE_RUN and HOLDOVER become ACQUIRING; HOLD_SPEC_S passed is shown; PPS edges are captured less IN_DELAY, and
PPS_OUT pulses in its mode at a whole second plus OUT_OFS that lies before the next edge, for WIDTH_US (which edge serves
is the model's choice: notes/assumptions/67.md). -/
def Obligations.ServoAndPps : Prop :=
  ∀ s : State, s.up →
    (s.chip.steers = true → s.chip.srcOrder = [] → s.chip.fld .TIME_STATUS_SERVO_STATE 0 = 2 → Gives .servoUpdate s fun t =>
      t.chip.fld .TIME_STATUS_SERVO_STATE 0 = 3 ∧ t.chip.fld .TIME_STATUS_SERVO_SRC 0 = 15 ∧
        t.chip.fld .TIME_EVT_CNT_HOLDOVERS 0 = satAdd 16 (s.chip.fld .TIME_EVT_CNT_HOLDOVERS 0) 1 ∧
        t.chip.raw = s.chip.raw ∧ SamePlane s t ∧ SameStore s t) ∧
    (∀ k l, s.chip.steers = true → s.chip.srcOrder = k :: l → (s.chip.src k).unused = false →
      (s.chip.fld .TIME_STATUS_SERVO_STATE 0 = 0 ∨ s.chip.fld .TIME_STATUS_SERVO_STATE 0 = 3) →
      Gives .servoUpdate s fun t =>
        t.chip.fld .TIME_STATUS_SERVO_STATE 0 = 1 ∧ t.chip.fld .TIME_STATUS_SERVO_SRC 0 = k ∧
          t.chip.raw = s.chip.raw ∧ SamePlane s t ∧ SameStore s t) ∧
    (s.chip.fld .TIME_STATUS_SERVO_STATE 0 = 3 → Gives .holdSpecExpiry s fun t =>
      t.chip.is .TIME_STATUS_HOLD_SPEC_OUT 0 = true ∧ SameRegs [.TIME_STATUS_HOLD_SPEC_OUT] s t ∧ SamePlane s t ∧
        SameStore s t) ∧
    (∀ rising, s.chip.is .TIME_PPS_CFG_IN_POL 0 = !rising → Gives (.ppsInEdge rising) s fun t =>
      let cap := ((s.chip.now : Int) - asInt 16 (s.chip.fld .TIME_PPS_CFG_IN_DELAY 0) * 65536) %
        ((2 ^ 48 * secT : Nat) : Int)
      t.chip.fld .TIME_PPS_IN_TS_TS 0 = packTime cap.toNat % 2 ^ 64 ∧
        t.chip.fld .TIME_PPS_IN_HI_TS_HI 0 = packTime cap.toNat / 2 ^ 64 ∧
        t.chip.time.ppsEdge = some s.chip.now ∧
        (s.chip.time.ppsEdge = none → t.chip.is .TIME_STATUS_PPS_IN_OK 0 = false) ∧
        (∀ e, s.chip.time.ppsEdge = some e → nsT 999000000 ≤ s.chip.age e → s.chip.age e ≤ nsT 1001000000 →
          t.chip.is .TIME_STATUS_PPS_IN_OK 0 = true) ∧ SamePlane s t ∧ SameStore s t) ∧
    (Gives .ppsInTimeout s fun t =>
      t.chip.is .TIME_STATUS_PPS_IN_OK 0 = false ∧ t.chip.is .TIME_SRC_SRC_VALID 8 = false ∧
        SameRegs [.TIME_STATUS_PPS_IN_OK, .TIME_SRC_SRC_VALID] s t ∧ SamePlane s t ∧ SameStore s t) ∧
    (s.chip.ppsMay = true → s.chip.time.ppsOut = false → s.chip.ppsNext < s.chip.nextEdge → Gives .ppsOutPulse s fun t =>
      t.chip.time = { s.chip.time with ppsOut := true, ppsAt := s.chip.ppsNext % wrapT } ∧
        t.chip.out = s.chip.out ++ [.ppsOut (!s.chip.is .TIME_PPS_CFG_OUT_POL 0)] ∧ t.chip.regs = s.chip.regs ∧
        SamePlane s t ∧ SameStore s t) ∧
    (s.chip.time.ppsOut = true →
      nsT (1000 * s.chip.fld .TIME_PPS_CFG_WIDTH_US 0) < (s.chip.nextEdge + wrapT - s.chip.time.ppsAt) % wrapT → Gives .ppsOutPulseEnd s fun t =>
      t.chip.time = { s.chip.time with ppsOut := false } ∧
        t.chip.out = s.chip.out ++ [.ppsOut (s.chip.is .TIME_PPS_CFG_OUT_POL 0)] ∧ t.chip.regs = s.chip.regs ∧
        SamePlane s t ∧ SameStore s t)

/-! ### The handshake core (R33-R49) -/

/-- A slack window of a monitored quadrant (R36, R37): the slack of its slowest sensor, held to 16 bits, is shown and kept as
the lowest, LOW and NEG follow it, LOW_SEEN stays once set, and a window at or above WARN_THR reports nothing. What
t_required is, and the rounding, are the model's reading (notes/assumptions/148.md). -/
def Obligations.SlackWindow : Prop :=
  ∀ s : State, s.up → ∀ q periods tj, s.chip.slackOn q = true → Gives (.slackWindow q periods tj) s fun t =>
    let need : Int := (s.chip.fld .CORE_SLACK_CFG_TARGET_SIZE q + 20) * 625
    let slack := clampInt (-0x8000) 0x7FFF ((need - (periods.foldl max 0 : Nat)) * 1000 / need)
    let low := decide (slack < (s.chip.fld .CORE_SLACK_CTRL_WARN_THR q : Int))
    t.chip.fld .CORE_SLACK_STATUS_WIN_SLACK q = ofInt 16 slack ∧ t.chip.is .CORE_SLACK_STATUS_LOW q = low ∧
      t.chip.is .CORE_SLACK_STATUS_NEG q = decide (slack < 0) ∧
      t.chip.fld .CORE_SLACK_MIN_MIN_SLACK q =
        ofInt 16 (min slack (asInt 16 (s.chip.fld .CORE_SLACK_MIN_MIN_SLACK q))) ∧
      (low = true → t.chip.is .CORE_SLACK_STATUS_LOW_SEEN q = true) ∧
      (low = false → t.chip.flt.batch = s.chip.flt.batch ∧
        t.chip.fld .CORE_SLACK_STATUS_LOW_SEEN q = s.chip.fld .CORE_SLACK_STATUS_LOW_SEEN q) ∧
      SamePlane s t ∧ SameStore s t

/-- What the adaptive-voltage engine puts on a free PMBus, to the regulator's address and with a packet error code as
CORE_AVS_CTRL asks (R39, R43, R44, R46, R47): a lowering by STEP_DOWN, never below FLOOR_MV + 20; the check of a written
setpoint; the poll of READ_VOUT; the status word after an alert. The registers but BUSY stay as they are. -/
def Obligations.AvsAsks : Prop :=
  ∀ s : State, s.up → s.chip.avs.bus = none → s.chip.avs.waiting = [] →
    let asked (code data : Nat) (p : Pm) (t : State) : Prop :=
      t.chip.out = s.chip.out ++
          [.pmbus (s.chip.fld .CORE_AVS_CTRL_ADDR 0) (s.chip.is .CORE_AVS_CTRL_PEC 0) code data] ∧
        t.chip.avs.bus = some (p, false) ∧ t.chip.avs.waiting = [] ∧
        t.chip.is .CORE_AVS_STATUS_BUSY 0 = true ∧ SameRegs [.CORE_AVS_STATUS_BUSY] s t ∧ SamePlane s t ∧ SameStore s t
    (s.chip.fld .CORE_AVS_CTRL_MODE 0 = 2 → s.chip.avsWrites = true → s.chip.allAboveLower = true →
      s.chip.fld .CORE_AVS_LIMITS_FLOOR_MV 0 + 20 < s.chip.avs.set → Gives .avsLower s (asked 0x21
        (voutCode s.chip.avs.exponent (max (s.chip.avs.set - s.chip.fld .CORE_AVS_CTRL_STEP_DOWN 0)
          (s.chip.fld .CORE_AVS_LIMITS_FLOOR_MV 0 + 20))) (.setVout .lower false))) ∧
    (∀ step again l, s.chip.avs.settling = (step, again) :: l → s.chip.is .CORE_AVS_STATUS_UNSUP_MODE 0 = false →
      Gives .avsSettle s fun t => asked 0x8B 0 (.checkVout step again) t ∧ t.chip.avs.settling = l) ∧
    ((s.chip.avs.started = true ∨ s.chip.is .CORE_AVS_STATUS_NO_RESP 0 = true) →
      s.chip.is .CORE_AVS_STATUS_UNSUP_MODE 0 = false → Gives .avsReadVoutPoll s (asked 0x8B 0 .pollVout)) ∧
    (s.chip.is .CORE_AVS_STATUS_UNSUP_MODE 0 = false → Gives .avsAlert s (asked 0x79 0 .statusWord))

/-- The end of a PMBus transaction (R43, R46, R47): a VOUT_COMMAND that succeeded makes its target the setpoint and
counts as a raise or a lowering; a status word is shown with ALERT and reported, and CLEAR_FAULTS follows; a failure is
retried once, and a second failure sets NO_RESP. A transaction succeeds when it is acknowledged and the packet error code
it may carry is right. -/
def Obligations.PmbusEnds : Prop :=
  ∀ s : State, s.up → s.chip.avs.waiting = [] → s.chip.avs.stale = false → ∀ data pecOk retried,
    let out (code : Nat) : Output :=
      .pmbus (s.chip.fld .CORE_AVS_CTRL_ADDR 0) (s.chip.is .CORE_AVS_CTRL_PEC 0) code 0
    ((pecOk = true ∨ s.chip.avs.pec = false) → s.chip.avsLow ≤ s.chip.avs.target → s.chip.avs.target ≤ s.chip.avsHigh →
      (s.chip.avs.bus = some (.setVout .raise false, retried) → Gives (.pmbusTransactionDone ⟨true, pecOk⟩ data) s fun t =>
        t.chip.avs.set = s.chip.avs.target ∧ t.chip.fld .CORE_AVS_STATUS_SET_MV 0 = showMv s.chip.avs.target ∧
          t.chip.avs.settling = s.chip.avs.settling ++ [(.raise, false)] ∧ t.chip.avs.bus = none ∧
          t.chip.is .CORE_AVS_STATUS_BUSY 0 = false ∧
          t.chip.fld .CORE_AVS_COUNT_RAISES 0 = satAdd 32 (s.chip.fld .CORE_AVS_COUNT_RAISES 0) 1 ∧
          SameRegs [.CORE_AVS_STATUS_SET_MV, .CORE_AVS_STATUS_BUSY, .CORE_AVS_COUNT_RAISES] s t ∧ SamePlane s t ∧
          SameStore s t) ∧
      (s.chip.avs.bus = some (.setVout .lower false, retried) → Gives (.pmbusTransactionDone ⟨true, pecOk⟩ data) s fun t =>
        t.chip.avs.set = s.chip.avs.target ∧ t.chip.fld .CORE_AVS_STATUS_SET_MV 0 = showMv s.chip.avs.target ∧
          t.chip.avs.settling = s.chip.avs.settling ++ [(.lower, false)] ∧
          t.chip.fld .CORE_AVS_COUNT_LOWERS 0 = satAdd 32 (s.chip.fld .CORE_AVS_COUNT_LOWERS 0) 1 ∧
          SameRegs [.CORE_AVS_STATUS_SET_MV, .CORE_AVS_STATUS_BUSY, .CORE_AVS_COUNT_LOWERS] s t ∧ SamePlane s t ∧
          SameStore s t)) ∧
    ((pecOk = true ∨ s.chip.avs.pec = false) → s.chip.avs.bus = some (.statusWord, retried) →
      s.chip.is .CORE_AVS_STATUS_UNSUP_MODE 0 = false →
      Gives (.pmbusTransactionDone ⟨true, pecOk⟩ data) s fun t =>
        t.chip.fld .CORE_AVS_STATUS_STATUS_WORD 0 = data % 2 ^ 16 ∧ t.chip.is .CORE_AVS_STATUS_ALERT 0 = true ∧
          t.chip.fld .CORE_AVS_STATUS_SET_MV 0 = s.chip.fld .CORE_AVS_STATUS_SET_MV 0 ∧
          t.chip.flt.batch = s.chip.flt.batch ++ [⟨0x0020, 0x005, data % 2 ^ 16, false⟩] ∧
          t.chip.out = s.chip.out ++ [out 0x03] ∧ SamePlane s t ∧ SameStore s t) ∧
    (∀ p, p.isSet = false → s.chip.avs.bus = some (p, false) → s.chip.is .CORE_AVS_STATUS_UNSUP_MODE 0 = false →
      Gives (.pmbusTransactionDone ⟨false, pecOk⟩ data) s fun t =>
      t.chip.avs.bus = some (p, true) ∧ t.chip.out = s.chip.out ++ [out p.code] ∧
        t.chip.is .CORE_AVS_STATUS_BUSY 0 = true ∧ SameRegs [.CORE_AVS_STATUS_BUSY] s t ∧ SamePlane s t ∧ SameStore s t) ∧
    (∀ p, s.chip.avs.bus = some (p, true) → Gives (.pmbusTransactionDone ⟨false, pecOk⟩ data) s fun t =>
      t.chip.is .CORE_AVS_STATUS_NO_RESP 0 = true ∧ t.chip.avs.bus = none ∧
        t.chip.flt.batch = s.chip.flt.batch ++ [⟨0x0020, 0x004, 0, false⟩] ∧ SamePlane s t ∧ SameStore s t)

/-- Writes of CORE registers (R33, R38, R42, R45): in range they take effect; a value outside its range drops the whole
write and is reported as a programming error. A write of CORE_AVS_CTRL restarts the engine and clears NO_RESP. -/
def Obligations.CoreWrites : Prop :=
  ∀ s src data, s.chip.admits src .CORE →
    (avsCtrlOk data = true → Gives (.coreAvsCtrlWrite src data) s fun t =>
      t.chip.fld .CORE_AVS_CTRL_MODE 0 = bits data 31 30 ∧ t.chip.fld .CORE_AVS_CTRL_ADDR 0 = bits data 22 16 ∧
        t.chip.fld .CORE_AVS_CTRL_STEP_UP 0 = bits data 15 8 ∧ t.chip.fld .CORE_AVS_CTRL_STEP_DOWN 0 = bits data 7 0 ∧
        t.chip.is .CORE_AVS_STATUS_NO_RESP 0 = false ∧ t.chip.avs.started = false ∧ SamePlane s t ∧ SameStore s t) ∧
    (avsCtrlOk data = false → Gives (.coreAvsCtrlWrite src data) s fun t =>
      t.chip.flt.batch = s.chip.flt.batch ++ [⟨0x0020, 0x008, 0x81000, false⟩] ∧ t.chip.regs = s.chip.regs ∧
        SamePlane s t ∧ SameStore s t) ∧
    (avsLimitsOk data = true → Gives (.coreAvsLimitsWrite src data) s fun t =>
      t.chip.fld .CORE_AVS_LIMITS_DWELL_MS 0 = bits data 63 48 ∧ t.chip.fld .CORE_AVS_LIMITS_SETTLE_US 0 = bits data 47 32 ∧
        t.chip.fld .CORE_AVS_LIMITS_CEIL_MV 0 = bits data 25 16 ∧ t.chip.fld .CORE_AVS_LIMITS_FLOOR_MV 0 = bits data 9 0 ∧
        t.chip.fld .CORE_AVS_STATUS_SET_MV 0 = s.chip.fld .CORE_AVS_STATUS_SET_MV 0 ∧ SamePlane s t ∧ SameStore s t) ∧
    (avsLimitsOk data = false → Gives (.coreAvsLimitsWrite src data) s fun t =>
      t.chip.flt.batch = s.chip.flt.batch ++ [⟨0x0020, 0x008, 0x81008, false⟩] ∧ t.chip.regs = s.chip.regs ∧
        SamePlane s t ∧ SameStore s t) ∧
    (∀ g, g < 32 → s.chip.domainOn (40 + quadOf g) = true → leadOk data = true → Gives (.coreStageLeadWrite src g data) s fun t =>
      t.chip.fld .CORE_STAGE_LEAD_LEAD g = bits data 13 0 ∧ SameStore s t) ∧
    (∀ g, g < 32 → s.chip.domainOn (40 + quadOf g) = true → leadOk data = false → Gives (.coreStageLeadWrite src g data) s fun t =>
      t.chip.flt.batch = s.chip.flt.batch ++ [⟨0x100 + g, 0x008, 0x82000 + 8 * g, false⟩] ∧ t.chip.regs = s.chip.regs ∧
        SamePlane s t ∧ SameStore s t)

/-! ### Ports and engines (R162-R184, R403) -/

/-- Link states while the duo link is not up (R174-R176): a fault takes UP to DOWN_HOLD, or with DOWN_HOLD_US = 0 to
ACQUIRING, where the frame on the wire is lost and the drop is counted; DOWN_HOLD ends in UP, or in ACQUIRING while a
fault lasts; alignment takes ACQUIRING to UP_HOLD and its end to UP; a write of PORT_CFG enables the port. -/
def Obligations.LinksChange : Prop :=
  ∀ s : State, s.up → s.chip.link 248 ≠ 3 → ∀ p, s.chip.portValid p = true →
    (s.chip.link p = 3 → s.chip.downHold p ≠ 0 → Gives (.remoteFault p) s fun t =>
      t.chip.link p = 4 ∧ t.chip.is .PORT_STATUS_REMOTE_FAULT p = true ∧ SamePlane s t ∧ SameStore s t ∧
        SameRegs ([.PORT_STATUS_REMOTE_FAULT, .PORT_STATUS_LINK_STATE] ++ eventFlds) s t) ∧
    (∀ ls, s.chip.link p = 3 → s.chip.downHold p = 0 → Gives (.localFault p ls) s fun t =>
      t.chip.link p = 1 ∧ t.chip.is .PORT_STATUS_LOCAL_FAULT p = true ∧ (t.chip.port p).wire = none ∧
        t.chip.fld .PORT_CNT_LINK_DOWNS p = satAdd 64 (s.chip.fld .PORT_CNT_LINK_DOWNS p) 1 ∧
        t.chip.is .PORT_STATUS_LINK_DOWN_SEEN p = true ∧ SameStore s t) ∧
    (s.chip.link p = 4 → s.chip.faulty p = false → Gives (.downHoldExpiry p) s fun t =>
      t.chip.link p = 3 ∧ SamePlane s t ∧ SameStore s t ∧ SameRegs (.PORT_STATUS_LINK_STATE :: eventFlds) s t) ∧
    (s.chip.link p = 4 → s.chip.faulty p = true → Gives (.downHoldExpiry p) s fun t =>
      t.chip.link p = 1 ∧ (t.chip.port p).wire = none ∧ SameStore s t) ∧
    (∀ ls, s.chip.link p = 1 → s.chip.fld .PORT_CFG_UP_HOLD_MS p ≠ 0 → Gives (.receiveAligned p ls) s fun t =>
      t.chip.link p = 2 ∧ t.chip.faulty p = false ∧ SamePlane s t ∧ SameStore s t) ∧
    (s.chip.link p = 2 → s.chip.faulty p = false → s.chip.is .PORT_MM_CFG_MM_EN p = false →
      Gives (.upHoldExpiry p) s fun t =>
        t.chip.link p = 3 ∧ SamePlane s t ∧ SameStore s t ∧ SameRegs (.PORT_STATUS_LINK_STATE :: eventFlds) s t) ∧
    (∀ src data, s.chip.portDark p = false → s.chip.admits src .PORT → 64 ≤ bits data 45 32 → bits data 45 32 ≤ 9728 → data.testBit 63 = true →
      s.chip.engRun (p / 8) = true → s.chip.link p = 0 → Gives (.portEnableWrite src p data) s fun t =>
        t.chip.is .PORT_CFG_ENABLE p = true ∧ t.chip.link p = 1 ∧ SamePlane s t ∧ SameStore s t)

/-- Engines while the duo link is not up (R162, R163, R165, R171-R173, R403): ENGINE_EN = 1 takes a place among the
starting engines, and a start with matching microcode and enough light ends in RUNNING with the laser on; too old or too
new microcode ends in MCODE_HOLD; lost light and a hot case hold the engine and are counted; the holds end. SPLIT takes
the layout it is written with. -/
def Obligations.EnginesRun : Prop :=
  ∀ s : State, s.up → s.chip.link 248 ≠ 3 → ∀ g, g < 32 → s.chip.populated g = true →
    (∀ src data, s.chip.admits src .PORT → s.chip.groupDark g = false → s.chip.grpCode g data = rOK → bits data 6 0 = s.chip.fld .PORT_GRP_CFG_SPLIT g →
      data.testBit 31 = true → s.chip.is .PORT_GRP_CFG_ENGINE_EN g = false → Gives (.engineEnWrite src g data) s fun t =>
        t.chip.is .PORT_GRP_CFG_ENGINE_EN g = true ∧ t.chip.engState g = 1 ∧
          t.chip.plane.starting = s.chip.plane.starting ++ [g] ∧ SameStore s t) ∧
    (∀ src data, s.chip.admits src .PORT → s.chip.groupDark g = false → s.chip.grpCode g data = rOK →
      data.testBit 31 = s.chip.is .PORT_GRP_CFG_ENGINE_EN g → Gives (.splitWrite src g data) s fun t =>
        t.chip.fld .PORT_GRP_CFG_SPLIT g = bits data 6 0 ∧ t.chip.engState g = s.chip.engState g ∧ SameStore s t) ∧
    (∀ src data, s.chip.admits src .PORT → s.chip.groupDark g = false → s.chip.grpCode g data ≠ rOK → Gives (.splitWrite src g data) s fun t =>
      t.chip.flt.batch = s.chip.flt.batch ++ [⟨0x2100 + g, 0x208, grpOff g, false⟩] ∧ SameRegs eventFlds s t ∧
        SamePlane s t ∧ SameStore s t) ∧
    (∀ laser lo hi, s.chip.engState g = 1 → (s.chip.plane.starting.take 8).contains g = true →
      lo ≤ s.chip.mcodeIf → s.chip.mcodeIf ≤ hi → asInt 16 (s.chip.fld .PORT_LASER_CFG_LOW_THR g) ≤ asInt 16 laser →
      Gives (.engineStartDone g laser lo hi) s fun t =>
        t.chip.engState g = 2 ∧ t.chip.fld .PORT_GRP_STATUS_LASER_IN g = laser % 65536 ∧
          t.chip.fld .PORT_GRP_STATUS_MCODE_IF g = s.chip.mcodeIf ∧ Sent s t (.laser g true) ∧ SameStore s t) ∧
    (∀ laser lo hi, s.chip.engState g = 1 → (s.chip.plane.starting.take 8).contains g = true →
      (s.chip.mcodeIf < lo ∨ hi < s.chip.mcodeIf) → Gives (.engineStartDone g laser lo hi) s fun t =>
        t.chip.engState g = 5 ∧ ⟨0x2100 + g, 0x205, s.chip.mcodeIf, false⟩ ∈ t.chip.flt.batch ∧ SameStore s t) ∧
    (∀ input, s.chip.domainOn g = true → s.chip.engState g = 2 → (s.chip.eng g).laser = false → (s.chip.eng g).temp = false →
      input < asInt 16 (s.chip.fld .PORT_LASER_CFG_LOSS_THR g) → Gives (.laserSample g input) s fun t =>
        t.chip.engState g = 3 ∧ t.chip.is .PORT_GRP_STATUS_LASER_LOSS_SEEN g = true ∧
          t.chip.fld .PORT_GRP_CNT_LASER_LOSSES g = satAdd 32 (s.chip.fld .PORT_GRP_CNT_LASER_LOSSES g) 1 ∧
          ⟨0x2100 + g, 0x202, ofInt 64 input, false⟩ ∈ t.chip.flt.batch ∧ Sent s t (.laser g false) ∧ SameStore s t) ∧
    ((s.chip.eng g).laser = true → (s.chip.eng g).temp = false →
      asInt 16 (s.chip.fld .PORT_LASER_CFG_LOW_THR g) ≤ asInt 16 (s.chip.fld .PORT_GRP_STATUS_LASER_IN g) →
      Gives (.laserHoldEnd g) s fun t => t.chip.engState g = 2 ∧ (t.chip.eng g).laser = false ∧ SameStore s t) ∧
    (∀ temp, s.chip.domainOn g = true → s.chip.engState g = 2 → 600 ≤ temp → Gives (.engineTempSample g temp) s fun t =>
      t.chip.engState g = 4 ∧ t.chip.is .PORT_GRP_STATUS_TEMP_SEEN g = true ∧
        t.chip.fld .PORT_GRP_CNT_TEMP_TRIPS g = satAdd 32 (s.chip.fld .PORT_GRP_CNT_TEMP_TRIPS g) 1 ∧
        ⟨0x2100 + g, 0x204, ofInt 64 temp, false⟩ ∈ t.chip.flt.batch ∧ SameStore s t) ∧
    ((s.chip.eng g).temp = true → asInt 16 (s.chip.fld .PORT_GRP_STATUS_CASE_TEMP g) < 520 →
      Gives (.tempHoldEnd g) s fun t => (t.chip.eng g).temp = false ∧
        t.chip.engState g = (if (s.chip.eng g).laser then 3 else 2) ∧ SameStore s t)

/-- FEC windows and MAC merge verification (R177, R179, R183): a window at or above DEG_SET degrades and is reported; a
verify mPacket is answered and, with MM_EN = 0, only counted; a response ends verification well; the third timeout ends
it in FAILED; RESTART starts it again on a link that is up. -/
def Obligations.FecAndMerge : Prop :=
  ∀ s : State, s.up → ∀ p,
    (∀ lane sy co un, lane < s.chip.lanes p → s.chip.fld .PORT_FEC_CFG_DEG_SET p ≤ sy →
      Gives (.fecWindow p lane sy co un) s fun t =>
        t.chip.is .PORT_STATUS_FEC_DEGRADED p = true ∧
          t.chip.fld .PORT_LANE_FEC_SYMBOLS (p + lane) = satAdd 64 (s.chip.fld .PORT_LANE_FEC_SYMBOLS (p + lane)) sy ∧
          t.chip.fld .PORT_CNT_FEC_CORR_CW p = satAdd 64 (s.chip.fld .PORT_CNT_FEC_CORR_CW p) co ∧
          t.chip.fld .PORT_CNT_FEC_UNCORR_CW p = satAdd 64 (s.chip.fld .PORT_CNT_FEC_UNCORR_CW p) un ∧
          t.chip.flt.batch = s.chip.flt.batch ++ [⟨0x2000 + p, 0x206, lane, false⟩] ∧
          SameRegs [.PORT_STATUS_FEC_DEGRADED, .PORT_LANE_FEC_SYMBOLS, .PORT_CNT_FEC_CORR_CW, .PORT_CNT_FEC_UNCORR_CW] s t ∧
          SameStore s t) ∧
    (s.chip.portValid p = true → s.chip.linkUp p = true → s.chip.is .PORT_MM_CFG_MM_EN p = true →
      Gives (.verifyMpacketRx p) s fun t =>
        t.chip.out = s.chip.out ++ [.response p] ∧ t.chip.regs = s.chip.regs ∧ SamePlane s t ∧ SameStore s t) ∧
    (s.chip.portValid p = true → s.chip.linkUp p = true → s.chip.is .PORT_MM_CFG_MM_EN p = false →
      ∀ i ∈ [Instr.verifyMpacketRx p, .responseMpacketRx p], Gives i s fun t =>
        t.chip.fld .PORT_CNT_MM_SMD_ERRORS p = satAdd 64 (s.chip.fld .PORT_CNT_MM_SMD_ERRORS p) 1 ∧
          t.chip.out = s.chip.out ∧ SameRegs [.PORT_CNT_MM_SMD_ERRORS] s t ∧ SamePlane s t ∧ SameStore s t) ∧
    (s.chip.portValid p = true → s.chip.linkUp p = true → s.chip.is .PORT_MM_CFG_MM_EN p = true →
      s.chip.fld .PORT_MM_STATUS_VERIFY p = 2 → Gives (.responseMpacketRx p) s fun t =>
        t.chip.fld .PORT_MM_STATUS_VERIFY p = 3 ∧ SameRegs [.PORT_MM_STATUS_VERIFY] s t ∧ SamePlane s t ∧
          SameStore s t) ∧
    (s.chip.fld .PORT_MM_STATUS_VERIFY p = 2 → 3 ≤ (s.chip.port p).tries → Gives (.verifyTimeout p) s fun t =>
      t.chip.fld .PORT_MM_STATUS_VERIFY p = 4 ∧ t.chip.is .PORT_MM_STATUS_FAIL_SEEN p = true ∧
        t.chip.flt.batch = s.chip.flt.batch ++ [⟨0x2000 + p, 0x207, 0, false⟩] ∧
        SameRegs [.PORT_MM_STATUS_VERIFY, .PORT_MM_STATUS_FAIL_SEEN] s t ∧ SamePlane s t ∧ SameStore s t) ∧
    (s.chip.fld .PORT_MM_STATUS_VERIFY p = 2 → (s.chip.port p).tries < 3 → Gives (.verifyTimeout p) s fun t =>
      (t.chip.port p).tries = (s.chip.port p).tries + 1 ∧ t.chip.out = s.chip.out ++ [.verify p] ∧
        t.chip.regs = s.chip.regs ∧ SameStore s t) ∧
    (∀ src data, s.chip.admits src .PORT → s.chip.portDark p = false → s.chip.linkUp p = true → bits data 31 30 = 3 →
      1 ≤ bits data 23 16 → bits data 23 16 ≤ 128 → Gives (.portMmRestart src p data) s fun t =>
        t.chip.fld .PORT_MM_STATUS_VERIFY p = 2 ∧ (t.chip.port p).tries = 1 ∧ t.chip.out = s.chip.out ++ [.verify p] ∧
          t.chip.is .PORT_MM_CFG_MM_EN p = true ∧ t.chip.fld .PORT_MM_CFG_VERIFY_MS p = bits data 23 16 ∧ SameStore s t)

/-! ### Tide Tables, Quays, Berths (R111-R161) -/

/-- TIDE_CTRL (R135-R141). COMMIT of a list that passes the check makes it pending for the first start that its base and
cycle allow; one that fails shows its result code and is counted; one on a locked bank is dropped. CANCEL ends the pending
state; STOP ends the list as well, the gates go to IDLE_GATES and hold is released. Each stores PREEMPT_MASK and
IDLE_GATES. A write with two of the three actions is dropped whole with TIDE_PARAM. -/
def Obligations.TideControls : Prop :=
  ∀ (s : State) src p data, s.chip.admits src .TIDE → s.chip.portDark p = false →
    let stored (t : State) : Prop := t.chip.fld .TIDE_CTRL_PREEMPT_MASK p = bits data 15 8 ∧
      t.chip.fld .TIDE_CTRL_IDLE_GATES p = bits data 7 0 ∧ t.chip.plane.berths = s.chip.plane.berths ∧ SameStore s t
    let dropped (t : State) : Prop :=
      t.chip.flt.batch = s.chip.flt.batch ++ [⟨0x5000 + p, 0x303, tideOff p, false⟩] ∧ t.chip.regs = s.chip.regs ∧
        SamePlane s t ∧ SameStore s t
    let commit := data.testBit 31
    let cancel := data.testBit 30
    let stop := data.testBit 29
    (cancel = false → stop = false → s.chip.tideLocked p = false → s.chip.tideCheck p = 0 → Gives (.tideCtrlCommit src p data) s fun t =>
      (t.chip.tide p).pend = some ⟨s.chip.adminEntries p, commitStart (unpackTime (s.chip.adminBase p)) (s.chip.adminCycle p)
        s.chip.now (nsT 4000), s.chip.adminCycle p, s.chip.adminBase p, s.chip.adminCycleReg p⟩ ∧
      (t.chip.tide p).oper = (s.chip.tide p).oper ∧ t.chip.is .TIDE_STATUS_PENDING p = true ∧
      t.chip.is .TIDE_STATUS_LOCKED p = true ∧ t.chip.fld .TIDE_STATUS_COMMIT_RESULT p = 0 ∧ stored t) ∧
    (cancel = false → stop = false → s.chip.tideLocked p = false → s.chip.tideCheck p ≠ 0 → Gives (.tideCtrlCommit src p data) s fun t =>
      t.chip.plane.tide = s.chip.plane.tide ∧ t.chip.fld .TIDE_STATUS_COMMIT_RESULT p = s.chip.tideCheck p ∧
      t.chip.is .TIDE_STATUS_FAIL_SEEN p = true ∧
      t.chip.fld .TIDE_CNT_COMMIT_FAILS p = satAdd 32 (s.chip.fld .TIDE_CNT_COMMIT_FAILS p) 1 ∧ stored t) ∧
    (s.chip.tideLocked p = true → Gives (.tideCtrlCommit src p data) s dropped) ∧
    (commit = false → stop = false → (s.chip.tide p).pend = none → Gives (.tideCtrlCancel src p data) s fun t =>
      t.chip.tide p = s.chip.tide p ∧ stored t) ∧
    (commit = false → stop = false → (s.chip.tide p).pend.isSome = true → Gives (.tideCtrlCancel src p data) s fun t =>
      t.chip.tide p = { s.chip.tide p with pend := none } ∧ t.chip.is .TIDE_STATUS_PENDING p = false ∧
      t.chip.is .TIDE_STATUS_LOCKED p = (s.chip.tide p).copying ∧ stored t) ∧
    (commit = false → cancel = false → Gives (.tideCtrlStop src p data) s fun t =>
      (t.chip.tide p).pend = none ∧ (t.chip.tide p).oper = none ∧ t.chip.is .TIDE_STATUS_OPER p = false ∧
      t.chip.fld .TIDE_STATUS_GATES p = bits data 7 0 ∧ t.chip.is .TIDE_STATUS_HOLD p = false ∧ stored t) ∧
    (cancel = true ∨ stop = true → Gives (.tideCtrlCommit src p data) s dropped) ∧
    (commit = true ∨ stop = true → Gives (.tideCtrlCancel src p data) s dropped) ∧
    (commit = true ∨ cancel = true → Gives (.tideCtrlStop src p data) s dropped)

/-- What happens at a list's instants (R133, R140, R142, R151, R152): the switch at the start makes the pending list
operational and hands the port's parameters over; the mirror copy ends with the administrative bank equal to the list; at
an entry's start the gates follow the last of the entries that start, and with MAC merge active so does hold; hold is
asserted and released by its advance; without an active MAC merge sublayer an advance changes nothing. -/
def Obligations.TideEvents : Prop :=
  ∀ s : State, s.up → ∀ p,
    (∀ l, (s.chip.tide p).pend = some l → s.chip.ticking = true → s.chip.reached l.start = true →
      Gives (.tideSwitch p) s fun t =>
        t.chip.tide p = { s.chip.tide p with pend := none, oper := some l, bank := l.entries, copying := true,
                                             done := if l.entries = [] then (s.chip.tide p).done else l.start } ∧
        t.chip.is .TIDE_STATUS_PENDING p = false ∧ t.chip.is .TIDE_STATUS_OPER p = true ∧
        t.chip.fld .TIDE_CNT_SWITCHES p = satAdd 32 (s.chip.fld .TIDE_CNT_SWITCHES p) 1 ∧
        t.chip.fld .TIDE_OPER_CYCLE_CYCLE p = l.cycleReg ∧ (t.chip.port p).hand.isSome = true ∧ SameStore s t) ∧
    ((s.chip.tide p).copying = true → ∀ l, (s.chip.tide p).oper = some l → Gives (.tideMirrorCopyEnd p) s fun t =>
      (t.chip.tide p).copying = false ∧ (t.chip.tide p).oper = some l ∧
      (∀ k, ∀ w, l.entries[k]? = some w → kGet 0 (t.chip.tide p).admin k = w) ∧
      t.chip.is .TIDE_STATUS_LOCKED p = (s.chip.tide p).pend.isSome ∧ SameRegs [.TIDE_STATUS_LOCKED] s t ∧
      SameStore s t) ∧
    (s.chip.portValid p = true → s.chip.ticking = true → ∀ l, (s.chip.tide p).oper = some l → l.entries ≠ [] →
      let upTo := s.chip.now + s.chip.incr / 65536
      ∀ e w, (s.chip.tide p).done < upTo → (l.startsIn (s.chip.tide p).done upTo).getLast? = some (e, w) →
      Gives (.tideEntryStart p) s fun t =>
        t.chip.fld .TIDE_STATUS_GATES p = entGates w ∧ t.chip.tide p = { s.chip.tide p with done := upTo } ∧
        (s.chip.mmActive p = true → entOp w = 1 → t.chip.is .TIDE_STATUS_HOLD p = true) ∧
        (s.chip.mmActive p = true → entOp w = 2 → t.chip.is .TIDE_STATUS_HOLD p = false) ∧
        t.chip.plane.berths = s.chip.plane.berths ∧ SameStore s t) ∧
    (s.chip.portValid p = true → s.chip.ticking = true → s.chip.now ≤ (s.chip.tide p).done → s.chip.advanceDue p 1 = true → s.chip.mmActive p = true →
      Gives (.holdAdvanceEvent p) s fun t =>
        t.chip.is .TIDE_STATUS_HOLD p = true ∧ t.chip.plane.tide = s.chip.plane.tide ∧
        SameRegs [.TIDE_STATUS_HOLD, .PORT_MM_STATUS_HOLD, .PORT_CNT_MM_HOLDS] s t ∧ SameStore s t) ∧
    (s.chip.mmActive p = false → s.chip.now ≤ (s.chip.tide p).done → ∀ i ∈ [Instr.holdAdvanceEvent p, .releaseAdvanceEvent p], Gives i s fun t => t = s) ∧
    (s.chip.portValid p = true → s.chip.ticking = true → s.chip.now ≤ (s.chip.tide p).done → s.chip.advanceDue p 2 = true → s.chip.mmActive p = true →
      Gives (.releaseAdvanceEvent p) s fun t =>
        t.chip.is .TIDE_STATUS_HOLD p = false ∧ t.chip.is .PORT_MM_STATUS_HOLD p = false ∧
        SameRegs [.TIDE_STATUS_HOLD, .PORT_MM_STATUS_HOLD] s t ∧ SamePlane s t ∧ SameStore s t)

/-- The Quay (R25, R35, R114, R146, R153, R154). A due timed head goes towards it; it arrives in time and is staged, or
late and is counted and, under SEND_NOW, kept to go out; the transit monitor takes every arrival; at its wire instant a
staged frame starts to leave, and one whose instant a time step has passed is late. -/
def Obligations.QuayMoves : Prop :=
  ∀ s : State, s.up →
    (∀ p, s.chip.portValid p = true → s.chip.linkUp p = true → ∀ b, s.chip.berthsOf p = [b] → s.chip.bTc b < 8 →
      s.chip.bTimed b = true → ∀ i r, (s.chip.berth b).queue = i :: r → ∀ l, i.launch = some l → s.chip.now < l →
      s.chip.timedCand p (s.chip.bTc b) b = some (l, b, .timed b) → Gives (.handOffTime p) s fun t =>
        (t.chip.quay (p / 8)).transit =
          (s.chip.quay (p / 8)).transit ++ [⟨i, b, p, s.chip.bTc b, i.f.charge (s.chip.ovh p), s.chip.ovh p, false⟩] ∧
        (t.chip.berth b).queue = r ∧
        t.chip.fld .SCHD_BERTH_CNT_SENT b = (s.chip.fld .SCHD_BERTH_CNT_SENT b + 1) % 2 ^ 32 ∧
        SameRegs [.SCHD_BERTH_CNT_SENT] s t ∧ t.chip.out = s.chip.out ∧ SameStore s t) ∧
    (∀ g transit, ∀ x rest, (s.chip.quay g).transit = x :: rest →
      s.chip.fineNow ≤ s.chip.wireAt x.port (x.it.launch.getD 0) → Gives (.quayArrival g transit) s fun t =>
        (t.chip.quay g).staged = (s.chip.quay g).staged ++ [x] ∧ (t.chip.quay g).transit = rest ∧
        t.chip.fld .CORE_STAGE_LEAD_MAX_TRANSIT g =
          max (s.chip.fld .CORE_STAGE_LEAD_MAX_TRANSIT g) (min transit 65535) ∧
        (s.chip.fld .CORE_STAGE_LEAD_LEAD g ≤ transit + 100 → t.chip.is .CORE_STAGE_LEAD_MARGIN_LOW g = true ∧
          t.chip.flt.batch = s.chip.flt.batch ++ [⟨0x100 + g, 0x003, transit, false⟩]) ∧
        (transit + 100 < s.chip.fld .CORE_STAGE_LEAD_LEAD g → t.chip.flt = s.chip.flt) ∧
        SameRegs [.CORE_STAGE_LEAD_MAX_TRANSIT, .CORE_STAGE_LEAD_MARGIN_LOW] s t ∧ SameStore s t) ∧
    (∀ g transit, ∀ x rest, (s.chip.quay g).transit = x :: rest →
      s.chip.wireAt x.port (x.it.launch.getD 0) < s.chip.fineNow → s.chip.sendNow x.berth x.it.f = true →
      Gives (.quayArrival g transit) s fun t =>
        (t.chip.quay g).transit = rest ∧ (t.chip.quay g).staged = (s.chip.quay g).staged ∧
        (t.chip.port x.port).late = (s.chip.port x.port).late ++ [{ x with it := { x.it with late := true } }] ∧
        t.chip.fld .TIDE_CNT_QUAY_LATE x.port = satAdd 64 (s.chip.fld .TIDE_CNT_QUAY_LATE x.port) 1 ∧ SameStore s t) ∧
    (∀ p, ∀ x, s.chip.nextStaged p = some x → s.chip.ticking = true → s.chip.linkUp p = true →
      s.chip.reached (s.chip.wireAt p (x.it.launch.getD 0) / 200) = true →
      s.chip.missed (s.chip.wireAt p (x.it.launch.getD 0)) = false → (s.chip.port p).wire = none →
      s.chip.preClass p x.tc = false → s.chip.gateOpen p x.tc (s.chip.wireAt p (x.it.launch.getD 0)) = true →
      ∀ n, x.it.f.elen = some n → n ≤ s.chip.fld .PORT_CFG_MAX_FRAME p → Gives (.quayLaunch p) s fun t =>
        (∃ w, (t.chip.port p).wire = some w ∧ w.berth = x.berth ∧ w.tc = x.tc ∧ w.bad = false ∧
          w.start = s.chip.wireAt p (x.it.launch.getD 0) ∧
          t.chip.out = s.chip.out ++ [.frame p (s.chip.wireAt p (x.it.launch.getD 0)) w.f.bytes]) ∧
        (t.chip.quay (p / 8)).staged = (s.chip.quay (p / 8)).staged.filter (fun y => y != x) ∧
        t.chip.regs = s.chip.regs ∧ SameStore s t) ∧
    (∀ p, ∀ x, s.chip.nextStaged p = some x → s.chip.ticking = true → s.chip.linkUp p = true →
      s.chip.reached (s.chip.wireAt p (x.it.launch.getD 0) / 200) = true →
      s.chip.missed (s.chip.wireAt p (x.it.launch.getD 0)) = true → (s.chip.port p).wire = none →
      Gives (.quayLaunch p) s fun t =>
        t.chip.fld .TIDE_CNT_QUAY_LATE p = satAdd 64 (s.chip.fld .TIDE_CNT_QUAY_LATE p) 1 ∧
        (t.chip.port p).wire = none ∧ t.chip.out = s.chip.out ∧ SameStore s t)

/-- Selection and shapers (R114, R115, R118, R119, R122), on a port with a free wire and nothing late or part sent. A head
that may go (its class's gate open, its Berth in credit, the frame passing the gate-fit test) is selected ahead of every
lower class; in its class a timed one ahead of the fair ones, of two timed ones the one with the earlier launch time, or with
the lower Berth number where these are equal; and of two fair ones the one with the earlier finish tag, or the lower Berth
number. A timed one goes towards its Quay; a fair one starts on the wire at once and moves the class's virtual time to its
tag, and the next head's tag follows it. Either is dequeued and counted. A Berth whose balance has returned enters the race;
one that does not qualify stays out of it. -/
def Obligations.SelectionStarts : Prop :=
  ∀ s : State, s.up →
    (∀ p, s.chip.portValid p = true → s.chip.linkUp p = true → (s.chip.port p).wire = none →
      (s.chip.port p).part = none → (s.chip.port p).late = [] →
      (s.chip.berthsOf p).foldl Chip.lateHeads s.chip = s.chip → ∀ b ∈ s.chip.berthsOf p, s.chip.bTc b < 8 →
      let timed (x : Nat) := s.chip.timedCand p (s.chip.bTc x) x
      let fair (x : Nat) := s.chip.fairCand p (s.chip.bTc x) s.chip.fineNow x
      (∀ x ∈ s.chip.berthsOf p, s.chip.bTc b < s.chip.bTc x →
        if s.chip.bTimed x then timed x = none else fair x = none) → ∀ i r, (s.chip.berth b).queue = i :: r →
      (∀ l, s.chip.bTimed b = true → timed b = some (l, b, .timed b) →
        (∀ x ∈ s.chip.berthsOf p, x ≠ b → s.chip.bTc x = s.chip.bTc b → s.chip.bTimed x = true →
          ∀ l', timed x = some (l', x, .timed x) → l < l' ∨ (l = l' ∧ b < x)) →
        Gives (.schedulerSelection p) s fun t =>
          (t.chip.quay (p / 8)).transit = (s.chip.quay (p / 8)).transit ++
            [⟨i, b, p, s.chip.bTc b, i.f.charge (s.chip.ovh p), s.chip.ovh p, false⟩] ∧
          (t.chip.berth b).queue = r ∧ (t.chip.port p).wire = none ∧ t.chip.out = s.chip.out ∧
          t.chip.fld .SCHD_BERTH_CNT_SENT b = (s.chip.fld .SCHD_BERTH_CNT_SENT b + 1) % 2 ^ 32 ∧
          SameRegs [.SCHD_BERTH_CNT_SENT] s t ∧ SameStore s t) ∧
      ∀ fit, s.chip.bTimed b = false → fair b = some (b, .fair b fit) →
        (∀ x ∈ s.chip.berthsOf p, s.chip.bTc x = s.chip.bTc b → s.chip.bTimed x = true → timed x = none) →
        (∀ x ∈ s.chip.berthsOf p, x ≠ b → s.chip.bTc x = s.chip.bTc b → s.chip.bTimed x = false → fair x ≠ none →
          let f := (s.chip.berth b).finish
          let g := (s.chip.berth x).finish
          (before f g = true ∧ before g f = false) ∨ (f = g ∧ b < x)) →
        ∀ n, i.f.elen = some n → n ≤ s.chip.fld .PORT_CFG_MAX_FRAME p →
      Gives (.schedulerSelection p) s fun t =>
        (∃ w, (t.chip.port p).wire = some w ∧ w.berth = b ∧ w.tc = s.chip.bTc b ∧ w.start = s.chip.fineNow ∧
          w.sent = 0 ∧ t.chip.out = s.chip.out ++ [.frame p s.chip.fineNow w.f.bytes]) ∧
        (t.chip.berth b).queue = r ∧ t.chip.vt p (s.chip.bTc b) = (s.chip.berth b).finish ∧
        (∀ h r', r = h :: r' → (t.chip.berth b).inRace = true → (t.chip.berth b).finish =
          ((s.chip.berth b).finish + cost (h.f.charge (s.chip.ovh p)) (s.chip.berth b).weight) % 2 ^ 32) ∧
        t.chip.fld .SCHD_BERTH_CNT_SENT b = (s.chip.fld .SCHD_BERTH_CNT_SENT b + 1) % 2 ^ 32 ∧
        SameRegs [.SCHD_BERTH_CNT_SENT] s t ∧ SameStore s t) ∧
    (∀ b, s.chip.bValid b = true → s.chip.bTimed b = false → 0 < (s.chip.berth b).weight → (s.chip.berth b).queue ≠ [] →
      ((s.chip.berth b).accrue s.chip.now).inCredit = true → Gives (.shaperCreditReturn b) s fun t =>
        (t.chip.berth b).inRace = true ∧ (t.chip.berth b).bal = ((s.chip.berth b).accrue s.chip.now).bal ∧
        (t.chip.berth b).queue = (s.chip.berth b).queue ∧ (∀ b', b' ≠ b → t.chip.berth b' = s.chip.berth b') ∧
        t.chip.regs = s.chip.regs ∧ SameStore s t) ∧
    (∀ b, s.chip.bValid b = true → (s.chip.bTimed b = true ∨ (s.chip.berth b).weight = 0 ∨ (s.chip.berth b).queue = [] ∨
        ((s.chip.berth b).accrue s.chip.now).inCredit = false) → Gives (.shaperCreditReturn b) s fun t =>
      (t.chip.berth b).inRace = false ∧ (t.chip.berth b).queue = (s.chip.berth b).queue ∧
        (∀ b', b' ≠ b → t.chip.berth b' = s.chip.berth b') ∧ t.chip.regs = s.chip.regs ∧ SameStore s t) ∧
    (∀ b, s.chip.bValid b = false → Gives (.shaperCreditReturn b) s fun t => t = s)

/-- Berth registers and hand-over (R111-R113, R126-R129): assigning a free Berth makes it valid and empty; naming no port
is dropped and reported; releasing one discards its queue, counted; a referenced one stays; a burst above 16,777,216 is
dropped; outside a hand-over the active set stays until one; HANDOVER starts a copy of the port's shadow sets, and its end
makes them the active ones. -/
def Obligations.BerthRegisters : Prop :=
  (∀ (s : State) src b data, s.chip.admits src .SCHD → b < 65536 →
    let bad (off : Nat) (t : State) : Prop := t.chip.flt.batch = s.chip.flt.batch ++ [⟨0x4010, 0x302, off, false⟩] ∧
      t.chip.regs = s.chip.regs ∧ SamePlane s t ∧ SameStore s t
    (s.chip.bValid b = false → data.testBit 63 = true → s.chip.portValid (bits data 55 48) = true →
      Gives (.schdBerthCfgWrite src b data) s fun t =>
        t.chip.bValid b = true ∧ t.chip.bPort b = bits data 55 48 ∧ t.chip.bTc b = bits data 59 57 ∧
        t.chip.bTimed b = data.testBit 62 ∧ (t.chip.berth b).queue = [] ∧ (t.chip.berth b).weight = bits data 15 0 ∧
        (t.chip.berth b).shaper = data.testBit 60 ∧ SameStore s t) ∧
    (s.chip.bValid b = false → data.testBit 63 = true → s.chip.portValid (bits data 55 48) = false →
      Gives (.schdBerthCfgWrite src b data) s (bad (0x800000 + 0x20 * b))) ∧
    (s.chip.bValid b = true → s.chip.copyingOf b = none → data.testBit 63 = false → s.chip.referenced b = false →
      Gives (.schdBerthCfgWrite src b data) s fun t =>
        t.chip.bValid b = false ∧ t.chip.berth b = BerthS.init ∧
        t.chip.fld .SCHD_BERTH_CNT_DROPPED b =
          satAdd 16 (s.chip.fld .SCHD_BERTH_CNT_DROPPED b) (s.chip.berth b).queue.length ∧ SameStore s t) ∧
    (s.chip.bValid b = true → s.chip.copyingOf b = none → data.testBit 63 = false → s.chip.referenced b = true →
      Gives (.schdBerthCfgWrite src b data) s (bad (0x800000 + 0x20 * b))) ∧
    (s.chip.copyingOf b = none → bits data 56 32 ≤ 16777216 → Gives (.schdBerthShaperWrite src b data) s fun t =>
      t.chip.fld .SCHD_BERTH_SHAPER_RATE b = bits data 31 0 ∧ t.chip.fld .SCHD_BERTH_SHAPER_BURST b = bits data 56 32 ∧
        SameRegs [.SCHD_BERTH_SHAPER_RATE, .SCHD_BERTH_SHAPER_BURST] s t ∧ SamePlane s t ∧ SameStore s t) ∧
    (s.chip.copyingOf b = none → 16777216 < bits data 56 32 →
      Gives (.schdBerthShaperWrite src b data) s (bad (0x800008 + 0x20 * b))) ∧
    (s.chip.bValid b = true → (s.chip.port (s.chip.bPort b)).hand = none → Gives (.handover src b data) s fun t =>
      (∃ h, (t.chip.port (s.chip.bPort b)).hand = some h ∧ h.at_ = s.chip.now ∧ h.held = [] ∧
        h.sets = (s.chip.berthsOf (s.chip.bPort b)).map fun x => (x, s.chip.shadow x)) ∧
      (∀ x, (t.chip.berth x).queue = (s.chip.berth x).queue ∧ (t.chip.berth x).weight = (s.chip.berth x).weight) ∧
      SameStore s t) ∧
    (s.chip.bValid b = false → Gives (.handover src b data) s (bad (0x800010 + 0x20 * b)))) ∧
  (∀ (s : State) p, s.up → ∀ h, (s.chip.port p).hand = some h → h.held = [] → h.done = [] → Gives (.handoverCopyEnd p) s fun t =>
    (t.chip.port p).hand = none ∧ t.chip.ovh p = h.ovh ∧
    (∀ b ∈ s.chip.berthsOf p, ∀ w en rate burst, h.sets.find? (fun e => e.1 == b) = some (b, w, en, rate, burst) →
      (t.chip.berth b).weight = w ∧ (t.chip.berth b).shaper = en ∧ (t.chip.berth b).rate = rate ∧
        (t.chip.berth b).burst = burst) ∧
    (∀ b, (t.chip.berth b).queue = (s.chip.berth b).queue) ∧ SameRegs eventFlds s t ∧ SameStore s t)

/-! ### Streams (R82-R110) -/

/-- STRM_CMD on keys and handles (R82-R85, R98, R108, R339): what each operation leaves in the tables, and its result code;
a key of a port that does not exist, where its profile puts the port into the key, is PARAM; an operation that does not
succeed leaves the tables as they were. -/
def Obligations.KeysAndHandles : Prop :=
  ∀ (s : State) src data, s.chip.admits src .STRM →
    let i := s.chip.fld .STRM_INDEX_INDEX 0
    let r := s.chip.strmData
    let k := s.chip.normKey (keyOf r)
    let result (n : Nat) (t : State) : Prop := t.chip.fld .STRM_STATUS_RESULT 0 = n ∧ t.chip.plane = s.chip.plane ∧
      t.chip.stor = s.chip.stor ∧ t.chip.dma = s.chip.dma ∧ SameStore s t
    (s.chip.is .STRM_PROFILE_VALID k.profile = true → s.chip.is .STRM_PROFILE_PORT_IN_KEY k.profile = false →
      (s.chip.handle (keyHandle r)).valid = true → s.chip.keysOf (keyHandle r) < 8 → s.chip.strm.keys.length < 61440 →
      s.chip.findKey k = none → Gives (.strmKeyInsert src data) s fun t =>
        t.chip.strm = { s.chip.strm with keys := s.chip.strm.keys ++ [(k, keyHandle r)] } ∧ result 0 t) ∧
    (s.chip.is .STRM_PROFILE_VALID k.profile = true → s.chip.is .STRM_PROFILE_PORT_IN_KEY k.profile = false →
      (s.chip.handle (keyHandle r)).valid = true → (s.chip.findKey k).isSome = true →
      Gives (.strmKeyInsert src data) s fun t => t.chip.strm = s.chip.strm ∧ result 3 t) ∧
    (s.chip.is .STRM_PROFILE_VALID k.profile = false → Gives (.strmKeyInsert src data) s fun t =>
      t.chip.strm = s.chip.strm ∧ result 5 t) ∧
    (s.chip.is .STRM_PROFILE_VALID k.profile = true → s.chip.keyPortBad r = true → Gives (.strmKeyInsert src data) s fun t =>
      t.chip.strm = s.chip.strm ∧ result 5 t) ∧
    (s.chip.keyPortBad r = true → Gives (.strmKeyDelete src data) s fun t => t.chip.strm = s.chip.strm ∧ result 5 t) ∧
    (s.chip.keyPortBad r = true → Gives (.strmKeyLookup src data) s fun t => t.chip.strm = s.chip.strm ∧ result 5 t) ∧
    (s.chip.keyPortBad r = false → (s.chip.findKey k).isSome = true → Gives (.strmKeyDelete src data) s fun t =>
      t.chip.strm = { s.chip.strm with keys := s.chip.strm.keys.filter fun e => e.1 != k } ∧ t.chip.findKey k = none ∧
        result 0 t) ∧
    (s.chip.keyPortBad r = false → s.chip.findKey k = none → Gives (.strmKeyDelete src data) s fun t =>
      t.chip.strm = s.chip.strm ∧ result 4 t) ∧
    (s.chip.keyPortBad r = false → s.chip.findKey k = none → Gives (.strmKeyLookup src data) s fun t =>
      t.chip.strm = s.chip.strm ∧ result 4 t) ∧
    (∀ h, s.chip.keyPortBad r = false → s.chip.findKey k = some h → Gives (.strmKeyLookup src data) s fun t =>
      t.chip.strm = s.chip.strm ∧ t.chip.fld .STRM_DATA_DATA 0 = (r - bits r 15 0 + h) % 2 ^ 64 ∧ result 0 t) ∧
    (i < 65536 → (handleOf r).valid = true → (handleOf r).egrLen ≤ 256 →
      (handleOf r).egrBase + (handleOf r).egrLen ≤ 131072 → s.chip.handleCode i (handleOf r) = rOK →
      s.chip.listCode i ((List.range (handleOf r).egrLen).map fun j => s.chip.poolW ((handleOf r).egrBase + j)) = rOK →
      Gives (.strmHandleWrite src data) s fun t =>
        t.chip.handle i = (s.chip.handle i).ovh (handleOf r) ∧ (∀ j, j ≠ i → t.chip.handle j = s.chip.handle j) ∧
        t.chip.strm.keys = s.chip.strm.keys ∧ t.chip.strm.pool = s.chip.strm.pool ∧ result 0 t) ∧
    (i < 65536 → (s.chip.handle i).valid = true → s.chip.ownsRegion i = false → s.chip.brkwMode i = 0 →
      Gives (.strmHandleDelete src data) s fun t =>
        (t.chip.handle i).valid = false ∧ t.chip.strm.keys = (s.chip.strm.keys.filter fun e => e.2 != i) ∧
        (∀ j, j ≠ i → t.chip.handle j = s.chip.handle j) ∧ result 0 t) ∧
    (i < 65536 → (s.chip.handle i).valid = true → s.chip.ownsRegion i = true →
      Gives (.strmHandleDelete src data) s fun t => t.chip.strm = s.chip.strm ∧ result 7 t)

/-- STRM_CMD on the egress pool, meters, stream gates and counters (R98, R102-R106, R108-R110): sixteen pool entries, each
of which that is in force keeps its value, or else none is written and the answer is IN_USE; a meter record fills both buckets; a gate's record, its commit, cancellation and
list; the counters of a handle; the records read back. -/
def Obligations.StreamRecords : Prop :=
  ∀ (s : State) src data, s.chip.admits src .STRM →
    let i := s.chip.fld .STRM_INDEX_INDEX 0
    let r := s.chip.strmData
    let result (n : Nat) (t : State) : Prop := t.chip.fld .STRM_STATUS_RESULT 0 = n ∧ t.chip.plane = s.chip.plane ∧
      t.chip.brkw = s.chip.brkw ∧ t.chip.stor = s.chip.stor ∧ t.chip.dma = s.chip.dma ∧ SameStore s t
    let entry (k : Nat) : Nat := poolWord (bits r (32 * k + 31) (32 * k + 24)) (bits r (32 * k + 15) (32 * k))
    (i % 16 = 0 → i < 131072 →
      (∀ k ∈ List.range 16, s.chip.inForce (i + k) = false ∨ s.chip.poolW (i + k) = entry k) →
      Gives (.strmEgressWrite src data) s fun t =>
        (∀ k ∈ List.range 16, t.chip.poolW (i + k) = entry k) ∧ t.chip.strm = { s.chip.strm with pool := t.chip.strm.pool } ∧ result 0 t) ∧
    (i % 16 = 0 → i < 131072 → ∀ k ∈ List.range 16, s.chip.inForce (i + k) = true → s.chip.poolW (i + k) ≠ entry k →
      Gives (.strmEgressWrite src data) s fun t => t.chip.strm = s.chip.strm ∧ result 7 t) ∧
    (i < 65536 → r.testBit 132 = false → (meterOf r).peak ≤ (s.chip.meter i).peak →
      Gives (.strmMeterWrite src data) s fun t =>
        t.chip.meter i = meterOf r ∧ (∀ q ∈ quads, (t.chip.meterQ i q).c = (meterOf r).cbs * tokenUnit ∧
          (t.chip.meterQ i q).e = (meterOf r).ebs * tokenUnit ∧ (t.chip.meterQ i q).mafr = false) ∧
        (∀ j, j ≠ i → t.chip.meter j = s.chip.meter j) ∧ result 0 t) ∧
    (i < 4096 → bits r 202 201 = 0 → bits r 196 195 = 0 → timeOk (bits r 95 0) = true →
      (s.chip.gate i).pend = none → Gives (.strmGateCfgWrite src data) s fun t =>
        t.chip.gate i = { s.chip.gate i with base := bits r 95 0, cycleNs := bits r 159 128, cycleFrac := bits r 167 160,
                                             count := bits r 176 168, initOpen := r.testBit 192,
                                             closeOctEn := r.testBit 194, closeInvEn := r.testBit 193 } ∧
        (∀ q ∈ quads, (t.chip.gateQ i q).closedOct = false ∧ (t.chip.gateQ i q).closedInv = false) ∧ result 0 t) ∧
    (i < 4096 → bits r 196 195 = 0 → timeOk (bits r 95 0) = true → bits r 176 168 ≤ 256 →
      nsT 1000 ≤ cycleT (bits r 159 128) (bits r 167 160) → cycleT (bits r 159 128) (bits r 167 160) ≤ nsT 4294967295 →
      (∀ k ∈ List.range 8, s.chip.fld .STRM_DATA_DATA k < 2 ^ 64) → (s.chip.gate i).pend = none →
      Gives (.strmGateCommit src data) s fun t =>
        (t.chip.gate i).pend = some (commitStart (unpackTime (bits r 95 0)) (cycleT (bits r 159 128) (bits r 167 160))
          s.chip.now (nsT 4000)) ∧ (t.chip.gate i).oper = (s.chip.gate i).oper ∧ result 0 t) ∧
    (i < 4096 → bits r 196 195 = 0 → timeOk (bits r 95 0) = true → (s.chip.gate i).base = bits r 95 0 →
      (s.chip.gate i).cycleNs = bits r 159 128 → (s.chip.gate i).cycleFrac = bits r 167 160 →
      (s.chip.gate i).count = bits r 176 168 → (s.chip.gate i).initOpen = r.testBit 192 →
      (∀ k ∈ List.range 8, s.chip.fld .STRM_DATA_DATA k < 2 ^ 64) → (s.chip.gate i).pend.isSome = true →
      Gives (.strmGateCancel src data) s fun t =>
        (t.chip.gate i).pend = none ∧ (t.chip.gate i).oper = (s.chip.gate i).oper ∧ result 0 t) ∧
    (i % 4 = 0 → i < 1048576 → (s.chip.gate (i / 256)).pend = none → Gives (.strmGateListWrite src data) s fun t =>
      (∀ k ∈ List.range 4, kGet GEntry.init (t.chip.gate (i / 256)).admin (i % 256 + k) = gEntryOf (r / 2 ^ (128 * k))) ∧
        (t.chip.gate (i / 256)).oper = (s.chip.gate (i / 256)).oper ∧ result 0 t) ∧
    (i % 4 = 0 → i < 1048576 → (s.chip.gate (i / 256)).pend.isSome = true → Gives (.strmGateListWrite src data) s fun t =>
      t.chip.strm = s.chip.strm ∧ t.chip.flt.batch = s.chip.flt.batch ++ [⟨0x3010, 0x301, 0xA00008, false⟩] ∧
        result 6 t) ∧
    (i < 65536 → Gives (.strmCountersClear src data) s fun t =>
      (∀ q ∈ quads, ∀ k ∈ List.range 8, t.chip.strmCnt i q k = 0) ∧
        t.chip.strm = { s.chip.strm with cnt := t.chip.strm.cnt } ∧ result 0 t) ∧
    (i < 65536 → bits data 27 24 = 1 → Gives (.strmRead src data) s fun t =>
      t.chip.fld .STRM_DATA_DATA 0 = s.chip.handleRec i % 2 ^ 64 ∧ t.chip.strm = s.chip.strm ∧ result 0 t) ∧
    (i < 65536 → bits data 27 24 = 6 → data.testBit 18 = true → bits data 17 16 = 2 → Gives (.strmRead src data) s fun t =>
      t.chip.fld .STRM_DATA_DATA 7 = s.chip.cntRec i (some 2) / 2 ^ 448 % 2 ^ 64 ∧ t.chip.strm = s.chip.strm ∧
        result 0 t)

/-- Stream gates in time (R102, R103) and the egress pool (R98): at its start a pending list becomes operational and
octet counts restart; at an entry's start they restart as well; before its start, and while the counters stand still
(R53), nothing starts; old egress lists leave the pool, but for those under which a frame is still held. -/
def Obligations.StreamGatesRun : Prop :=
  ∀ s : State, s.up →
    (∀ g, ∀ x, s.chip.ticking = true → (s.chip.gate g).pend = some x → x ≤ s.chip.now → Gives (.streamGateSwitch g) s fun t =>
      t.chip.gate g = { s.chip.gate g with pend := none, oper := some ⟨(List.range (s.chip.gate g).count).map fun k =>
        kGet GEntry.init (s.chip.gate g).admin k, x, cycleT (s.chip.gate g).cycleNs (s.chip.gate g).cycleFrac,
        (s.chip.gate g).initOpen⟩ } ∧
      (∀ q ∈ quads, (t.chip.gateQ g q).octets = 0 ∧ (t.chip.gateQ g q).closedOct = (s.chip.gateQ g q).closedOct) ∧
      t.chip.regs = s.chip.regs ∧ SameStore s t) ∧
    (∀ g, ∀ x, (s.chip.gate g).pend = some x → (s.chip.now < x ∨ s.chip.ticking = false) →
      Gives (.streamGateSwitch g) s fun t => t = s) ∧
    (∀ g, ∀ o, s.chip.ticking = true → (s.chip.gate g).oper = some o → o.base ≤ s.chip.now → Gives (.streamGateEntry g) s fun t =>
      (∀ q ∈ quads, (t.chip.gateQ g q).cyc = (o.at_ s.chip.now).1 ∧ (t.chip.gateQ g q).entry = (o.at_ s.chip.now).2.1 ∧
        ((s.chip.gateQ g q).cyc ≠ (o.at_ s.chip.now).1 → (t.chip.gateQ g q).octets = 0)) ∧
      t.chip.strm.gates = s.chip.strm.gates ∧ t.chip.regs = s.chip.regs ∧ SameStore s t) ∧
    (∀ g, (s.chip.ticking = false ∨ (s.chip.gate g).oper = none) → Gives (.streamGateEntry g) s fun t => t = s) ∧
    Gives .egressPoolFree s fun t =>
      t.chip.strm = { s.chip.strm with oldLists := s.chip.strm.oldLists.filter s.chip.runHeld } ∧ t.chip.regs = s.chip.regs ∧ t.chip.plane = s.chip.plane ∧
        SameStore s t

/-! ### Frames (R20, R21, R93, R100, R107, R167, R168, R183) -/

/-- A frame's start (R20, R21, R91, R93, R167). A MAC control frame and an unmatched one under DROP go no further; one of a
stream whose filter passes it, with no recovery and one Berth on the ingress die, is enqueued there; a share that is full
drops the frame, counts it and reports it. While the counters stand still the frame's timestamp is the held time (R53). -/
def Obligations.FramesStart : Prop :=
  ∀ s : State, s.up → ∀ p ts path b, s.chip.portValid p = true → s.chip.linkUp p = true → (s.chip.port p).rx = none →
    s.chip.duoPort p = false → 60 ≤ b.length →
    let held := if s.chip.ticking then ts else s.chip.now
    let f : Frame := ⟨b, declLen b, false, held, some p, some s.chip.plane.nextRx, none, (ptpPlace b [319]).isSome, none⟩
    (rd b 12 2 = 0x8808 → Gives (.frameRxStart p ts path b) s fun t =>
      (∃ r, (t.chip.port p).rx = some r ∧ r.ctrl = true ∧ r.f.bytes = b ∧ r.id = s.chip.plane.nextRx) ∧
        t.chip.regs = s.chip.regs ∧ t.chip.strm = s.chip.strm ∧ t.chip.plane.berths = s.chip.plane.berths ∧
        t.chip.out = s.chip.out ∧ SameStore s t) ∧
    (rd b 12 2 ≠ 0x8808 → s.chip.shareFull (quadOfPort p) f.size = false → s.chip.trapped p b = false →
      s.chip.identify p b = none → s.chip.fld .STRM_PORT_CFG_DEF_RULE p = 0 → Gives (.frameRxStart p ts path b) s fun t =>
        (∃ r, (t.chip.port p).rx = some r ∧ r.count = 3 ∧ r.f.bytes = b ∧ r.f.ts = held) ∧ t.chip.regs = s.chip.regs ∧
          t.chip.strm = s.chip.strm ∧ t.chip.plane.berths = s.chip.plane.berths ∧ t.chip.out = s.chip.out ∧
          SameStore s t) ∧
    (rd b 12 2 ≠ 0x8808 → s.chip.shareFull (quadOfPort p) f.size = true → Gives (.frameRxStart p ts path b) s fun t =>
      t.chip.fld .CORE_QBUF_DROP_COUNT (quadOfPort p) =
          satAdd 64 (s.chip.fld .CORE_QBUF_DROP_COUNT (quadOfPort p)) 1 ∧
        t.chip.flt.batch = s.chip.flt.batch ++ [⟨quadOfPort p, 0x002, 0, false⟩] ∧
        t.chip.plane.berths = s.chip.plane.berths ∧ SameStore s t) ∧
    (rd b 12 2 ≠ 0x8808 → s.chip.shareFull (quadOfPort p) f.size = false → s.chip.trapped p b = false →
      ∀ h, s.chip.identify p b = some h →
      let x := s.chip.handle h
      x.maxSdu = 0 → x.blocked = false → x.gateEn = false → x.meterEn = false → x.hostCopy = false → x.activeTx = false →
      x.homeQ = quadOfPort p → s.chip.brkwMode h = 0 → (s.chip.inst h).cfg.gen = 0 → (s.chip.inst h).cfg.rtagPop = false →
      s.chip.sole = true → s.chip.duoState = 0 → s.chip.recordOf h = none → ∀ w, s.chip.egress h = [w] →
      dieOf (quadOfPort (poolPort w)) = dieOf (quadOfPort p) → s.chip.holdOf h (poolPort w) = none →
      s.chip.bValid (poolBerth w) = true → s.chip.bTimed (poolBerth w) = false →
      0 < (s.chip.berth (poolBerth w)).weight → s.chip.fld .SCHD_BERTH_CFG_MAX_KIB (poolBerth w) = 0 →
      Gives (.frameRxStart p ts path b) s fun t =>
        (∃ e, (t.chip.berth (poolBerth w)).queue =
          (s.chip.berth (poolBerth w)).queue ++ [⟨{ f with handle := some h, epoch := e }, none, false⟩]) ∧
        (∃ r, (t.chip.port p).rx = some r ∧ r.count = 1 ∧ r.counters = [(h, quadOfPort p, 0), (h, quadOfPort p, 1)]) ∧
        SameRegs [.CORE_QBUF_STATUS_NOW_MIB, .CORE_QBUF_STATUS_PEAK_MIB] s t ∧ t.chip.out = s.chip.out ∧ SameStore s t)

/-- A frame's end (R100, R107, R167, R168): runts, wrong check sequences, oversize frames and MAC control frames are each
counted as such; a frame that passes is counted with its bytes and with its port's outcome; after a bad end no copy of
the reception that has not started is left in a Berth or receive class. -/
def Obligations.FramesEnd : Prop :=
  ∀ s : State, s.up → ∀ p len, ∀ r, (s.chip.port p).rx = some r →
    let plain (l : List Fld) (t : State) : Prop := (t.chip.port p).rx = none ∧
      SameRegs (.STRM_PORT_CNT_LEN_MISMATCH :: l) s t ∧ SameStore s t
    let gone (t : State) : Prop := (∀ b, ∀ i ∈ (t.chip.berth b).queue, i.f.rx ≠ some r.id) ∧
      (∀ k, ∀ i ∈ t.chip.cls k, i.f.rx ≠ some r.id)
    (∀ ok, len < 64 → Gives (.frameRxEnd p len ok) s fun t =>
      t.chip.fld .PORT_CNT_RX_RUNTS p = satAdd 64 (s.chip.fld .PORT_CNT_RX_RUNTS p) 1 ∧ gone t ∧
        plain [.PORT_CNT_RX_RUNTS, .SCHD_BERTH_CNT_DROPPED] t) ∧
    (64 ≤ len → Gives (.frameRxEnd p len false) s fun t =>
      t.chip.fld .PORT_CNT_RX_FCS_ERRORS p = satAdd 64 (s.chip.fld .PORT_CNT_RX_FCS_ERRORS p) 1 ∧ gone t ∧
        plain [.PORT_CNT_RX_FCS_ERRORS, .SCHD_BERTH_CNT_DROPPED] t) ∧
    (64 ≤ len → s.chip.fld .PORT_CFG_MAX_FRAME p < len → Gives (.frameRxEnd p len true) s fun t =>
      t.chip.fld .PORT_CNT_RX_OVERSIZE p = satAdd 64 (s.chip.fld .PORT_CNT_RX_OVERSIZE p) 1 ∧ gone t ∧
        plain [.PORT_CNT_RX_OVERSIZE, .SCHD_BERTH_CNT_DROPPED] t) ∧
    (64 ≤ len → len ≤ s.chip.fld .PORT_CFG_MAX_FRAME p → r.ctrl = true → Gives (.frameRxEnd p len true) s fun t =>
      t.chip.fld .PORT_CNT_RX_MAC_CTRL p = satAdd 64 (s.chip.fld .PORT_CNT_RX_MAC_CTRL p) 1 ∧
        t.chip.fld .PORT_CNT_RX_FRAMES p = s.chip.fld .PORT_CNT_RX_FRAMES p ∧ plain [.PORT_CNT_RX_MAC_CTRL] t) ∧
    (64 ≤ len → len ≤ s.chip.fld .PORT_CFG_MAX_FRAME p → r.ctrl = false → r.count = 3 → r.wait = none →
      (r.decl = none ∨ r.decl = some len) → Gives (.frameRxEnd p len true) s fun t =>
        t.chip.fld .PORT_CNT_RX_FRAMES p = satAdd 64 (s.chip.fld .PORT_CNT_RX_FRAMES p) 1 ∧
        t.chip.fld .PORT_CNT_RX_BYTES p = satAdd 64 (s.chip.fld .PORT_CNT_RX_BYTES p) len ∧
        t.chip.fld .STRM_PORT_CNT_UNMATCHED p = satAdd 64 (s.chip.fld .STRM_PORT_CNT_UNMATCHED p) 1 ∧
        t.chip.fld .STRM_PORT_CNT_DEFAULT_DROPS p = satAdd 64 (s.chip.fld .STRM_PORT_CNT_DEFAULT_DROPS p) 1 ∧
        t.chip.fld .STRM_PORT_CNT_IDENTIFIED p = s.chip.fld .STRM_PORT_CNT_IDENTIFIED p ∧ (t.chip.port p).rx = none ∧
        t.mem = s.mem ∧ t.pending = s.pending) ∧
    (∀ d, r.decl = some d → 64 ≤ len → len ≤ s.chip.fld .PORT_CFG_MAX_FRAME p → r.ctrl = false → d ≠ len →
      Gives (.frameRxEnd p len true) s fun t =>
        t.chip.fld .STRM_PORT_CNT_LEN_MISMATCH p = satAdd 64 (s.chip.fld .STRM_PORT_CNT_LEN_MISMATCH p) 1 ∧
        t.chip.fld .PORT_CNT_RX_FRAMES p = satAdd 64 (s.chip.fld .PORT_CNT_RX_FRAMES p) 1 ∧ gone t ∧
        (t.chip.port p).rx = none ∧ SameStore s t)

/-- Fragments (R170, R183): with MM_EN = 0 or an undefined delimiter only counted; a first fragment opens an assembly with its
own timestamp, a right
continuation extends it, one with another frame count ends it in an assembly error, as a continuation without an
assembly does; the last one ends it, and the frame counts as completed whatever its check sequence. That an undefined
delimiter counts as one with MM_EN = 0 does is the model's choice (notes/assumptions/195.md). -/
def Obligations.FragmentsAssemble : Prop :=
  ∀ s : State, s.up → ∀ p m, s.chip.portValid p = true → s.chip.linkUp p = true →
    ((s.chip.is .PORT_MM_CFG_MM_EN p = false ∨ m.smdOk = false) → Gives (.mpacketRx p m) s fun t =>
      t.chip.fld .PORT_CNT_MM_SMD_ERRORS p = satAdd 64 (s.chip.fld .PORT_CNT_MM_SMD_ERRORS p) 1 ∧
        SameRegs [.PORT_CNT_MM_SMD_ERRORS] s t ∧ SamePlane s t ∧ SameStore s t) ∧
    (s.chip.is .PORT_MM_CFG_MM_EN p = true → m.smdOk = true →
      let got (t : State) : Prop := t.chip.fld .PORT_CNT_MM_FRAG_RX p = satAdd 64 (s.chip.fld .PORT_CNT_MM_FRAG_RX p) 1
      (m.cont = false → (s.chip.port p).asm = none → m.last = false → m.crcOk = true → Gives (.mpacketRx p m) s fun t =>
        (t.chip.port p).asm = some ⟨m.frameCount, m.bytes, if s.chip.ticking then m.ts else s.chip.now⟩ ∧ got t ∧ SameRegs [.PORT_CNT_MM_FRAG_RX] s t ∧
          SameStore s t) ∧
      (m.cont = true → (s.chip.port p).asm = none → Gives (.mpacketRx p m) s fun t =>
        t.chip.fld .PORT_CNT_MM_ASS_ERRORS p = satAdd 64 (s.chip.fld .PORT_CNT_MM_ASS_ERRORS p) 1 ∧ got t ∧
          SameRegs [.PORT_CNT_MM_FRAG_RX, .PORT_CNT_MM_ASS_ERRORS] s t ∧ SamePlane s t ∧ SameStore s t) ∧
      (m.cont = true → ∀ a, (s.chip.port p).asm = some a → m.frameCount ≠ a.frameCount → Gives (.mpacketRx p m) s fun t =>
        (t.chip.port p).asm = none ∧ got t ∧
          t.chip.fld .PORT_CNT_MM_ASS_ERRORS p = satAdd 64 (s.chip.fld .PORT_CNT_MM_ASS_ERRORS p) 1 ∧
          SameRegs [.PORT_CNT_MM_FRAG_RX, .PORT_CNT_MM_ASS_ERRORS] s t ∧ SameStore s t) ∧
      (m.cont = true → ∀ a, (s.chip.port p).asm = some a → m.frameCount = a.frameCount → m.last = false → m.crcOk = true →
        Gives (.mpacketRx p m) s fun t =>
          (t.chip.port p).asm = some { a with bytes := a.bytes ++ m.bytes } ∧ got t ∧
            SameRegs [.PORT_CNT_MM_FRAG_RX] s t ∧ SameStore s t) ∧
      (m.cont = true → ∀ a, (s.chip.port p).asm = some a → m.frameCount = a.frameCount → m.last = true →
        Gives (.mpacketRx p m) s fun t =>
          (t.chip.port p).asm = none ∧ got t ∧
            t.chip.fld .PORT_CNT_MM_ASS_OK p = satAdd 64 (s.chip.fld .PORT_CNT_MM_ASS_OK p) 1))

/-! ### Breakwater (R185-R213) -/

/-- BRKW_CMD (R196, R201, R212, R213): a CFG record that passes its checks takes effect, and a change of mode, algorithm or
history length clears the history, sets take_any and counts a reset; one that does not leaves everything; the path
table, where the numbers that arrived on unchanged paths still wait for their pair (R202); counters cleared and read; a sequence reset keeps top. -/
def Obligations.BreakwaterCommands : Prop :=
  ∀ (s : State) src data, s.chip.admits src .BRKW →
    let n := s.chip.fld .BRKW_INDEX_INSTANCE 0
    let r := s.chip.window .BRKW_DATA_DATA
    let result (k : Nat) (t : State) : Prop := t.chip.fld .BRKW_STATUS_RESULT 0 = k ∧ t.chip.strm = s.chip.strm ∧
      t.chip.plane = s.chip.plane ∧ t.chip.dma = s.chip.dma ∧ SameStore s t
    let reset (t : State) : Prop := (t.chip.inst n).takeAny = true ∧ (t.chip.inst n).seen = [] ∧
      (t.chip.inst n).top = (s.chip.inst n).top ∧
      t.chip.brkwCnt n cResets = satAdd 64 (s.chip.brkwCnt n cResets) 1
    (s.chip.cfgCode n (cfgOf r) (s.chip.inst n).paths = rOK → Gives (.brkwCfgWrite src data) s fun t =>
      (t.chip.inst n).cfg = cfgOf r ∧ (∀ m, m ≠ n → t.chip.inst m = s.chip.inst m) ∧ result 0 t ∧
        ((cfgOf r).mode ≠ (s.chip.inst n).cfg.mode → reset t) ∧
        ((cfgOf r).algo ≠ (s.chip.inst n).cfg.algo → reset t) ∧
        ((cfgOf r).histLen ≠ (s.chip.inst n).cfg.histLen → reset t)) ∧
    (s.chip.cfgCode n (cfgOf r) (s.chip.inst n).paths ≠ rOK → Gives (.brkwCfgWrite src data) s fun t =>
      t.chip.brkw = s.chip.brkw ∧ t.chip.stor = s.chip.stor ∧
        result (s.chip.cfgCode n (cfgOf r) (s.chip.inst n).paths) t) ∧
    (s.chip.pathsCode n r = rOK → Gives (.brkwPathsWrite src data) s fun t =>
      t.chip.inst n = (s.chip.inst n).withPaths r ∧
        (∀ m, m ≠ n → t.chip.inst m = s.chip.inst m) ∧ result 0 t) ∧
    (bits data 23 20 = 3 → Gives (.brkwRead src data) s fun t =>
      t.chip.fld .BRKW_DATA_DATA 6 = s.chip.brkwCntRec n / 2 ^ 384 % 2 ^ 64 ∧ t.chip.brkw = s.chip.brkw ∧ result 0 t) ∧
    (Gives (.brkwCountersClear src data) s fun t =>
      (∀ k ∈ List.range 14, t.chip.brkwCnt n k = 0) ∧
        (∀ m k, m ≠ n → k < 16 → t.chip.brkwCnt m k = s.chip.brkwCnt m k) ∧ result 0 t) ∧
    (Gives (.brkwPathCntClear src data) s fun t =>
      (∀ k ∈ List.range 4, t.chip.pathCnt n (bits data 26 24) k = 0) ∧ t.chip.brkw.inst = s.chip.brkw.inst ∧
        t.chip.brkw.cnt = s.chip.brkw.cnt ∧ result 0 t) ∧
    Gives (.brkwOpResetSeq src data) s fun t => reset t ∧ (t.chip.inst n).cfg = (s.chip.inst n).cfg ∧ result 0 t

/-- What time brings to an instance (R196, R203, R204, R210): RESET_MS without an accepted copy resets it once; a latent
period whose difference exceeds LATENT_DIFF counts and reports an error; a latent reset restarts the private counts; a
delay line gives nothing back before the instant 20 µs ahead of its next release; from then on the frame at its head leaves
it and, with one Berth on the way, is enqueued there with its release instant as launch time. -/
def Obligations.BreakwaterInTime : Prop :=
  ∀ s : State, s.up → ∀ n,
    let x := s.chip.inst n
    (x.cfg.resetMs ≠ 0 → x.cfg.mode ≠ modeOff → x.silent = false → Gives (.resetMsSilence n) s fun t =>
      t.chip.inst n = { x with silent := true, takeAny := true, seen := [] } ∧
        t.chip.brkwCnt n cResets = satAdd 64 (s.chip.brkwCnt n cResets) 1 ∧ t.chip.regs = s.chip.regs ∧ SameStore s t) ∧
    (x.silent = true → Gives (.resetMsSilence n) s fun t => t = s) ∧
    (x.cfg.latentEn = true → (x.cfg.latentDiff : Int) < (x.passedP : Int) * (x.cfg.latentPaths - 1) - x.discardedP →
      Gives (.latentPeriod n) s fun t =>
        t.chip.brkwCnt n cLatentErrors = satAdd 64 (s.chip.brkwCnt n cLatentErrors) 1 ∧ t.chip.inst n = x ∧
        t.chip.flt.batch = s.chip.flt.batch ++ [⟨0x6000 + (s.chip.handle n).homeQ, 0x403, n, false⟩] ∧
        t.chip.regs = s.chip.regs ∧ SameStore s t) ∧
    (x.cfg.latentEn = true → (x.passedP : Int) * (x.cfg.latentPaths - 1) - x.discardedP ≤ (x.cfg.latentDiff : Int) →
      Gives (.latentPeriod n) s fun t => t = s) ∧
    (x.cfg.latentEn = true → Gives (.latentReset n) s fun t =>
      t.chip.inst n = { x with passedP := 0, discardedP := 0 } ∧
        t.chip.brkwCnt n cLatentResets = satAdd 64 (s.chip.brkwCnt n cLatentResets) 1 ∧ t.chip.regs = s.chip.regs ∧
        SameStore s t) ∧
    (x.cfg.mode = modeAlign → s.chip.ticking = true → ∀ kr, (s.chip.region x.cfg.dlRegion).nextRelease = some kr →
      (s.chip.now + releaseLead + s.chip.incr / 65536 < kr.2.time → ∀ path, Gives (.alignRelease n path) s fun t =>
        t = s) ∧
      (kr.2.time ≤ s.chip.now + releaseLead + s.chip.incr / 65536 → kr.2.f.rx = none → ∀ path,
        Gives (.alignRelease n path) s fun t =>
          (t.chip.inst n).relTop = max x.relTop kr.2.time ∧ t.mram = s.mram ∧ t.pending = s.pending) ∧
      (kr.2.time ≤ s.chip.now + releaseLead + s.chip.incr / 65536 → s.chip.now < kr.2.time →
        ∀ f, s.reads x.cfg.dlRegion kr.1 kr.2 f → ∀ w, s.chip.egress n = [w] → s.chip.holdOf n (poolPort w) = none →
        dieOf (quadOfPort (poolPort w)) = dieOf (s.chip.handle n).homeQ → (s.chip.handle n).notDup = false →
        x.cfg.gen = 0 → x.cfg.rtagPop = false → (s.chip.handle n).hostCopy = false → s.chip.recordOf n = none →
        (s.chip.handle n).activeTx = false → s.chip.takesIn (poolBerth w) f.size → s.chip.bTimed (poolBerth w) = true →
        ∀ l, ((s.chip.region x.cfg.dlRegion).ringOf kr.1).recs = kr.2 :: l →
        ∀ path, Gives (.alignRelease n path) s fun t =>
          ((t.chip.region x.cfg.dlRegion).ringOf kr.1).recs = l ∧
          (t.chip.berth (poolBerth w)).queue = (s.chip.berth (poolBerth w)).queue ++
            [⟨{ f with ptp := (ptpPlace f.bytes [319]).isSome }, some kr.2.time, false⟩] ∧
          SameStore s t))

/-! ### Stream store and spill slots (R214-R240, R269-R274) -/

/-- STOR_CMD (R221-R224, R229, R233, R234, R238, R239): what each operation leaves of its region or cursor, and its result
code; an operation that is refused leaves regions and cursors as they were. -/
def Obligations.StoreCommands : Prop :=
  ∀ (s : State) src data, s.chip.admits src .STOR →
    let r := s.chip.fld .STOR_INDEX_INDEX 0
    let d := s.chip.window .STOR_DATA_DATA
    let x := s.chip.region r
    let result (k : Nat) (t : State) : Prop := t.chip.fld .STOR_STATUS_RESULT 0 = k ∧ t.chip.strm = s.chip.strm ∧
      t.chip.plane = s.chip.plane ∧ t.chip.brkw = s.chip.brkw ∧ SameStore s t
    let others (t : State) : Prop := (∀ k, k ≠ r → t.chip.region k = s.chip.region k) ∧
      t.chip.stor.cursors = s.chip.stor.cursors
    (x.valid = false → d.testBit 63 = true → (s.chip.regionCreate r (bits d 62 61) (bits d 47 32) (bits d 20 0)).1 = rOK →
      Gives (.storRegionWrite src data) s fun t =>
        (∃ l, l.length = bits d 20 0 ∧ t.chip.region r = { Region.init with
            valid := true, kind := bits d 62 61, quad := (s.chip.handle (bits d 47 32)).homeQ, handle := bits d 47 32,
            pages := l }) ∧
          others t ∧ result 0 t) ∧
    (x.valid = false → d.testBit 63 = true → 1 ≤ bits d 20 0 → bits d 20 0 ≤ 1048576 →
      (s.chip.handle (bits d 47 32)).valid = false → Gives (.storRegionWrite src data) s fun t =>
        t.chip.stor = s.chip.stor ∧ result 4 t) ∧
    (x.valid = false → Gives (.storRegionDelete src data) s fun t => t.chip.stor = s.chip.stor ∧ result 4 t) ∧
    (x.valid = true → x.kind = 3 → x.arm = false → s.chip.replayed r = false →
      (s.chip.brkw.inst.any fun e => e.2.cfg.dlRegion == r || e.2.cfg.histRegion == r) = false →
      Gives (.storRegionDelete src data) s fun t => t.chip.region r = Region.init ∧ others t ∧ result 0 t) ∧
    (x.valid = true → x.kind = 3 → x.arm = true → Gives (.storRegionDelete src data) s fun t =>
      t.chip.stor = s.chip.stor ∧ (result 7 t)) ∧
    (s.chip.holdCode r d = rOK → x.state = 0 → Gives (.storHoldWrite src data) s fun t =>
      t.chip.region r = x.withHold d ∧ others t ∧ result 0 t) ∧
    (s.chip.holdCode r d ≠ rOK → Gives (.storHoldWrite src data) s fun t =>
      t.chip.stor = s.chip.stor ∧ result (s.chip.holdCode r d) t) ∧
    (s.chip.recordCode r d = rOK → x.spill = 0 → Gives (.storRecordWrite src data) s fun t =>
      t.chip.region r = x.withRecord d ∧ others t ∧ result 0 t) ∧
    (Gives (.storCountersClear src data) s fun t =>
      (∀ k ∈ List.range 11, t.chip.regCnt r k = 0) ∧ (∀ k, t.chip.region k = s.chip.region k) ∧ others t ∧ result 0 t) ∧
    ((s.chip.replayStart r d).1 = rOK → s.chip.now + nsT 20000000 ≤ unpackTime (bits d 415 320) →
      Gives (.storReplayStart src data) s fun t =>
        (∃ off, t.chip.cursor r = { cursorOf d with state := 1, next := off }) ∧
          (∀ k, t.chip.region k = s.chip.region k) ∧ result 0 t) ∧
    (1024 ≤ r → Gives (.storReplayStart src data) s fun t => t.chip.stor = s.chip.stor ∧ result 5 t) ∧
    (r < 1024 → (s.chip.cursor r).state = 1 → Gives (.storReplayStop src data) s fun t =>
      t.chip.cursor r = { s.chip.cursor r with state := 2, cause := 4 } ∧
        (∀ k, t.chip.region k = s.chip.region k) ∧ result 0 t) ∧
    (bits data 23 20 = 4 → Gives (.storRead src data) s fun t =>
      t.chip.fld .STOR_DATA_DATA 2 = s.chip.regCntRec r / 2 ^ 128 % 2 ^ 64 ∧ t.chip.stor = s.chip.stor ∧ result 0 t)

/-- What time and the drives bring to the store (R216, R217, R223, R224, R226, R234, R235, R237): a hold begins, counted
and told by HOLD_START, and ends when its ring is found empty, told by HOLD_END; a drain takes the oldest frame to its Berth,
with its launch time shifted under DRAIN = 1; a replay enqueues its next record with its launch time, ends at T2, at a marker
and at the end of what is stored, and waits before its lead; a full page goes to the drive, and the one that a reader needs next is read back; a scrub corrects a single symbol; a drive fault
ends its use. -/
def Obligations.StoreInTime : Prop :=
  ∀ s : State, s.up →
    (∀ r, let x := s.chip.region r
      x.valid = true → x.kind = 2 → x.bound = true → s.chip.pathDown x = true → x.state = 0 →
      Gives (.holdStateChange r) s fun t =>
        t.chip.region r = { x with state := 1, drained := 0, shift := 0 } ∧
        t.chip.regCnt r kHolds = satAdd 64 (s.chip.regCnt r kHolds) 1 ∧ Queued s t 0x0040 (toLE 4 r ++ toLE 1 x.port) ∧
        SameRegs eventFlds s t ∧ SameStore s t) ∧
    (∀ r, let x := s.chip.region r
      x.valid = true → x.kind = 2 → x.bound = true → s.chip.pathDown x = false → x.state = 1 → (x.ringOf 0).recs = [] →
      Gives (.holdStateChange r) s fun t =>
        t.chip.region r = { x with state := 0, shift := 0 } ∧
        Queued s t 0x0041 (toLE 4 r ++ toLE 1 x.port ++ toLE 8 x.drained) ∧ SameRegs eventFlds s t ∧ SameStore s t) ∧
    (∀ r, let x := s.chip.region r
      x.valid = true → x.kind = 2 → x.state = 2 → (x.drain = 0 → s.chip.handlePeak x.handle + x.surplus ≠ 0) →
      ((x.ringOf 0).recs = [] → ∀ cross, Gives (.holdDrainRead ⟨r, cross⟩) s fun t =>
        t.chip.region r = { x with state := 0, shift := 0 } ∧
        Queued s t 0x0041 (toLE 4 r ++ toLE 1 x.port ++ toLE 8 x.drained) ∧ SameRegs eventFlds s t ∧ SameStore s t) ∧
      ∀ o l f b, (x.ringOf 0).recs = o :: l → s.reads r 0 o f → (x.ringOf 0).inWindow o.off o.size = true →
        s.chip.entryBerth x.handle x.port = some b → dieOf (quadOfPort x.port) = dieOf x.quad → s.chip.sole = true →
        s.chip.takesIn b f.size →
        let launch := ((o.time : Int) + x.shift).toNat
        let left (launch : Option Nat) (t : State) : Prop :=
          ((t.chip.region r).ringOf 0).recs = l ∧ (t.chip.region r).drained = x.drained + 1 ∧
            t.chip.regCnt r kDrained = satAdd 64 (s.chip.regCnt r kDrained) 1 ∧
            (t.chip.berth b).queue = (s.chip.berth b).queue ++ [⟨f, launch, false⟩] ∧ SameStore s t
        (x.drain ≠ 1 → s.chip.bTimed b = false → ∀ cross, Gives (.holdDrainRead ⟨r, cross⟩) s (left none)) ∧
        (x.drain = 1 → s.chip.bTimed b = true → s.chip.now < launch →
          launch ≤ s.chip.now + releaseLead + s.chip.incr / 65536 →
          ∀ cross, Gives (.holdDrainRead ⟨r, cross⟩) s (left (some launch)))) ∧
    (∀ cur, let x := s.chip.cursor cur
      let recs := ((s.chip.region x.region).ringOf 0).recs
      x.state = 1 → ∀ y, recs.find? (fun y => decide (x.next ≤ y.off) && (y.marker || decide (unpackTime x.t1 ≤ y.time))) = some y →
      (y.marker = true → ∀ cross, Gives (.replayRead ⟨cur, cross⟩) s fun t =>
        t.chip.cursor cur = { x with state := 2, cause := 1 } ∧ t.chip.regs = s.chip.regs ∧ SameStore s t) ∧
      (y.marker = false → unpackTime x.t2 ≤ y.time → ∀ cross, Gives (.replayRead ⟨cur, cross⟩) s fun t =>
        t.chip.cursor cur = { x with state := 2, cause := 0 } ∧ t.chip.regs = s.chip.regs ∧ SameStore s t) ∧
      (y.marker = false → y.time < unpackTime x.t2 →
        s.chip.now + releaseLead + s.chip.incr / 65536 < unpackTime x.l + (y.time - unpackTime x.t1) →
        ∀ cross, Gives (.replayRead ⟨cur, cross⟩) s fun t => t = s) ∧
      (y.marker = false → y.time < unpackTime x.t2 →
        let launch := unpackTime x.l + (y.time - unpackTime x.t1)
        let r := s.chip.region x.region
        s.chip.now < launch → launch ≤ s.chip.now + releaseLead + s.chip.incr / 65536 → ∀ f, s.reads x.region 0 y f →
        (r.ringOf 0).inWindow y.off y.size = true → dieOf (quadOfPort (s.chip.bPort x.berth)) = dieOf r.quad →
        s.chip.holdOf r.handle (s.chip.bPort x.berth) = none → s.chip.takesIn x.berth f.size →
        s.chip.bTimed x.berth = true → ∀ cross, Gives (.replayRead ⟨cur, cross⟩) s fun t =>
          t.chip.cursor cur = { x with next := y.off + 8 + y.len, frames := x.frames + 1 } ∧
          (t.chip.berth x.berth).queue = (s.chip.berth x.berth).queue ++
            [⟨{ f with ptp := false, inPort := none, rx := none, epoch := none }, some launch, false⟩] ∧
          ((t.chip.region x.region).ringOf 0).recs = (r.ringOf 0).recs ∧ SameStore s t)) ∧
    (∀ cur, let x := s.chip.cursor cur
      x.state = 1 → (s.chip.region x.region).arm = false → ((s.chip.region x.region).ringOf 0).recs = [] →
      ∀ cross, Gives (.replayRead ⟨cur, cross⟩) s fun t =>
        t.chip.cursor cur = { x with state := 2, cause := 2 } ∧ t.chip.regs = s.chip.regs ∧ SameStore s t) ∧
    (∀ line, s.chip.stor.ecc = [(line, 1)] → s.chip.is .STOR_SCRUB_CFG_SCRUB_EN 0 = true →
      s.chip.stackBad (stackOf line) = false → Gives .scrubPass s fun t =>
        t.chip.stor = { s.chip.stor with ecc := [] } ∧
        t.chip.fld .STOR_ECC_CNT_CORR (stackOf line) = satAdd 32 (s.chip.fld .STOR_ECC_CNT_CORR (stackOf line)) 1 ∧
        t.chip.flt.batch = s.chip.flt.batch ++ [⟨0x7000 + stackOf line, 0x404, line, false⟩] ∧
        SameRegs [.STOR_ECC_CNT_CORR] s t ∧ SameStore s t) ∧
    (∀ slot r, let x := s.chip.region r
      s.chip.spillRuns slot = true → x.valid = true → x.spill = slot + 1 →
      (x.ringOf 0).pages.countP (fun p => p.drive.isSome) < x.spillPages →
      ∀ pi, (x.ringOf 0).pages.zipIdx.find? (fun e => e.1.win && e.1.drive.isNone &&
        decide (e.1.start + 65536 ≤ (x.ringOf 0).wr)) = some pi →
      (s.chip.eccRead (storeAddr x.quad pi.1.no 0) 65536).1 = true → Gives (.spillPageWritten slot r) s fun t =>
        (∃ k, kFind t.chip.stor.drive (driveKey slot k) = some (memRead s.mem (storeAddr x.quad pi.1.no 0) 65536) ∧
          ((t.chip.region r).ringOf 0).pages =
            setAt (x.ringOf 0).pages pi.2 { pi.1 with drive := some (driveKey slot k), win := false }) ∧ SameStore s t) ∧
    (∀ slot r, let x := s.chip.region r
      s.chip.spillRuns slot = true → x.valid = true → x.spill = slot + 1 →
      ∀ pi, (s.chip.readers r).findSome? (x.ringOf 0).nextBack = some pi →
      ∀ n l, x.idle = n :: l → Gives (.spillReadComplete slot r) s fun t =>
        ((t.chip.region r).ringOf 0).pages = setAt (x.ringOf 0).pages pi.2 { pi.1 with no := n, win := true } ∧
        SameRegs [.CORE_BRIDGE_CNT_BYTES, .CORE_BRIDGE_CNT_PEAK_RATE] s t ∧ t.mram = s.mram ∧ t.pending = s.pending ∧
        (s.chip.stackBad (stackOf (storeAddr x.quad n 0)) = false →
          t.mem = memWrite s.mem (storeAddr x.quad n 0) (kGet [] s.chip.stor.drive (pi.1.drive.getD 0)))) ∧
    (∀ slot why, (s.chip.spilS slot).prepared.isSome = true → Gives (.spillIo slot why) s fun t =>
      t.chip.is .STOR_SPILL_STAT_FAULT slot = true ∧ t.chip.is .STOR_SPILL_STAT_FAULT_SEEN slot = true ∧
        t.chip.is .STOR_SPILL_STAT_READY slot = false ∧ (t.chip.spilS slot).prepared = none ∧
        ⟨0x7010 + slot, 0x406, slot, false⟩ ∈ t.chip.flt.batch ∧ SameStore s t)

/-- Spill slots (R269-R274): presence and its loss under power, a power fault and its end, the attention button's sequence
to a shutdown and to power, a power-up that fails, the link, a completion timeout. The live bits follow the slot's pins. -/
def Obligations.SpillSlots : Prop :=
  ∀ s : State, s.up → ∀ slot, slot < 2 → s.chip.domainOn 45 = true →
    let x := s.chip.spilS slot
    let live : List Fld := [.SPIL_SLOT_STATUS_BTN, .SPIL_SLOT_STATUS_PWR_FAULT]
    let agrees : Prop := x.faultLow = false ∧ s.chip.is .SPIL_SLOT_STATUS_PRESENT slot = x.drive.isSome
    (∀ d, x.faultLow = false → s.chip.is .SPIL_SLOT_STATUS_PRESENT slot = false →
      Gives (.slotPresenceChange slot (some d)) s fun t =>
        t.chip.is .SPIL_SLOT_STATUS_PRESENT slot = true ∧ (t.chip.spilS slot).drive = some d ∧
        t.chip.is .SPIL_SLOT_STATUS_PRES_CHG slot = true ∧
        t.chip.fld .SPIL_CNT_INSERTIONS slot = satAdd 64 (s.chip.fld .SPIL_CNT_INSERTIONS slot) 1 ∧ SamePlane s t ∧
        SameRegs ([.SPIL_SLOT_STATUS_PRESENT, .SPIL_SLOT_STATUS_PRES_CHG, .SPIL_CNT_INSERTIONS] ++ live ++ eventFlds) s t ∧
        SameStore s t) ∧
    (x.faultLow = false → s.chip.is .SPIL_SLOT_STATUS_PRESENT slot = true → s.chip.powered slot = true →
      Gives (.slotPresenceChange slot none) s fun t =>
        t.chip.is .SPIL_SLOT_STATUS_PRESENT slot = false ∧ t.chip.powered slot = false ∧
        t.chip.is .SPIL_SLOT_CTRL_PERST_REL slot = false ∧ t.chip.is .SPIL_SLOT_STATUS_LINK_UP slot = false ∧
        (t.chip.spilS slot).drive = none ∧ Sent s t (.slotPin slot 0 0) ∧ Sent s t (.slotPin slot 4 0) ∧
        t.chip.fld .SPIL_CNT_REMOVALS slot = satAdd 64 (s.chip.fld .SPIL_CNT_REMOVALS slot) 1 ∧ SameStore s t) ∧
    (s.chip.powered slot = true → Gives (.slotPowerFault ⟨slot, true⟩) s fun t =>
      t.chip.powered slot = false ∧ t.chip.is .SPIL_SLOT_STATUS_PWR_FAULT slot = true ∧
        t.chip.is .SPIL_SLOT_STATUS_PWR_FAULT_SEEN slot = true ∧
        t.chip.fld .SPIL_SLOT_CTRL_ATTN_IND slot = 1 ∧ t.chip.is .SPIL_SLOT_STATUS_LINK_UP slot = false ∧
        t.chip.fld .SPIL_CNT_PWR_FAULTS slot = satAdd 64 (s.chip.fld .SPIL_CNT_PWR_FAULTS slot) 1 ∧ SameStore s t) ∧
    (s.chip.is .SPIL_SLOT_STATUS_PRESENT slot = x.drive.isSome → Gives (.slotPowerFault ⟨slot, false⟩) s fun t =>
      t.chip.is .SPIL_SLOT_STATUS_PWR_FAULT slot = false ∧ (t.chip.spilS slot) = { x with faultLow := false } ∧
        SameRegs (live ++ eventFlds) s t ∧ SamePlane s t ∧ SameStore s t) ∧
    (agrees → s.chip.runsSlots = true → x.button = none → Gives (.attentionButtonPress ⟨slot, true⟩) s fun t =>
      (t.chip.spilS slot).button = some (.armed (s.chip.fld .SPIL_SLOT_CTRL_PWR_IND slot)) ∧
        t.chip.fld .SPIL_SLOT_CTRL_PWR_IND slot = 2 ∧ t.chip.is .SPIL_SLOT_STATUS_BTN slot = true ∧
        t.chip.is .SPIL_SLOT_STATUS_BTN_PRESSED slot = true ∧
        t.chip.fld .SPIL_CNT_BTN_PRESSES slot = satAdd 64 (s.chip.fld .SPIL_CNT_BTN_PRESSES slot) 1 ∧ SamePlane s t ∧
        SameStore s t) ∧
    (agrees → Gives (.attentionButtonPress ⟨slot, false⟩) s fun t =>
      t.chip.is .SPIL_SLOT_STATUS_BTN slot = false ∧ (t.chip.spilS slot) = { x with btnLow := false } ∧
        SameRegs (live ++ eventFlds) s t ∧ SamePlane s t ∧ SameStore s t) ∧
    (∀ v, s.chip.runsSlots = true → x.button = some (.armed v) →
      (agrees → Gives (.attentionButtonPress ⟨slot, true⟩) s fun t =>
        (t.chip.spilS slot).button = none ∧ t.chip.fld .SPIL_SLOT_CTRL_PWR_IND slot = v ∧
          SameRegs (.SPIL_SLOT_CTRL_PWR_IND :: live ++ eventFlds) s t ∧ SamePlane s t ∧ SameStore s t) ∧
      (s.chip.powered slot = true → Gives (.buttonSequenceTimeout slot) s fun t =>
        (t.chip.spilS slot).button = some .shutdown ∧ (t.chip.spilS slot).prepared = none ∧
          t.chip.is .STOR_SPILL_STAT_READY slot = false ∧ Sent s t (.drive slot 4 0) ∧ SameStore s t) ∧
      (∀ dr, s.chip.powered slot = false → x.drive = some dr → dr.trains = true →
        s.chip.is .SPIL_SLOT_STATUS_PWR_FAULT slot = false → Gives (.buttonSequenceTimeout slot) s fun t =>
          (t.chip.spilS slot).button = some .powering ∧ t.chip.powered slot = true ∧
            t.chip.is .SPIL_SLOT_CTRL_PERST_REL slot = true ∧ SamePlane s t ∧ SameStore s t) ∧
      (∀ dr, s.chip.powered slot = false → x.drive = some dr →
        (dr.trains = false ∨ s.chip.is .SPIL_SLOT_STATUS_PWR_FAULT slot = true) →
        Gives (.buttonSequenceTimeout slot) s fun t =>
          (t.chip.spilS slot).button = none ∧ t.chip.powered slot = false ∧
            t.chip.fld .SPIL_SLOT_CTRL_ATTN_IND slot = 1 ∧ t.chip.fld .SPIL_SLOT_CTRL_PWR_IND slot = 3 ∧ SamePlane s t ∧
            SameStore s t)) ∧
    ((s.chip.spilS slot).button = some .shutdown → Gives (.nvmeShutdownComplete slot) s fun t =>
      (t.chip.spilS slot).button = none ∧ t.chip.powered slot = false ∧ t.chip.fld .SPIL_SLOT_CTRL_PWR_IND slot = 3 ∧
        SamePlane s t ∧ SameStore s t) ∧
    (∀ speed width, s.chip.is .SPIL_SLOT_STATUS_LINK_UP slot = false → s.chip.powered slot = true →
      s.chip.is .SPIL_SLOT_CTRL_PERST_REL slot = true → Gives (.spillLinkChange slot true speed width) s fun t =>
        t.chip.is .SPIL_SLOT_STATUS_LINK_UP slot = true ∧ t.chip.fld .SPIL_SLOT_STATUS_SPEED slot = speed ∧
          t.chip.fld .SPIL_SLOT_STATUS_WIDTH slot = width ∧ t.chip.is .SPIL_SLOT_STATUS_LINK_CHG slot = true ∧
          SamePlane s t ∧ SameStore s t) ∧
    (∀ speed width, s.chip.is .SPIL_SLOT_STATUS_LINK_UP slot = true → s.chip.powered slot = true →
      Gives (.spillLinkChange slot false speed width) s fun t =>
        t.chip.is .SPIL_SLOT_STATUS_LINK_UP slot = false ∧
          t.chip.fld .SPIL_CNT_LINK_DOWNS slot = satAdd 64 (s.chip.fld .SPIL_CNT_LINK_DOWNS slot) 1 ∧ SameStore s t) ∧
    (Gives (.spillCplTimeout slot) s fun t =>
      t.chip.fld .SPIL_CNT_CPL_TIMEOUTS slot = satAdd 64 (s.chip.fld .SPIL_CNT_CPL_TIMEOUTS slot) 1 ∧
        SameRegs (.SPIL_CNT_CPL_TIMEOUTS :: eventFlds) s t ∧ SamePlane s t ∧ SameStore s t)

/-! ### The PCI Express endpoint (R240-R268) -/

/-- Resets and the link of the host endpoint (R259, R261-R266): what PERST_N, a hot reset and a function-level reset clear,
what they keep, and how they are counted; the tags of reads that a function-level reset leaves are quarantined; a host
link-down halts the running channels with status LINK_DOWN, and the function presents its reset state at the next link-up.
At each of them the mailbox closes and every claim ends. After PME_Turn_Off the link is down; in a freeze it is not followed
(read from R267: notes/assumptions/182.md). The data plane, the store and the Saffron record stay. A configuration request
that the endpoint does not serve is to be retried. -/
def Obligations.HostResets : Prop :=
  let kept (s t : State) : Prop := t.chip.strm = s.chip.strm ∧ t.chip.plane = s.chip.plane ∧ t.chip.brkw = s.chip.brkw ∧
    t.chip.stor = s.chip.stor ∧ SameStore s t
  let closed (t : State) : Prop := t.chip.mbx.isOpen = false ∧ (∀ i, t.chip.slot i = Slot.init) ∧ t.chip.mbx.order = [] ∧
    (∀ f, f < 11 → t.chip.claimed f = false)
  let cleared (s t : State) : Prop := kept s t ∧ closed t ∧ t.chip.host.ready = false ∧ t.chip.host.msix = [] ∧
    t.chip.host.reads = [] ∧ t.chip.dma = DmaS.init ∧
    t.chip.host.cfg = { Config0.init with pmeEn := s.chip.host.cfg.pmeEn, pmeStatus := t.chip.host.cfg.pmeStatus,
                                          aerUncorr := s.chip.host.cfg.aerUncorr, aerCorr := s.chip.host.cfg.aerCorr,
                                          aerLog := s.chip.host.cfg.aerLog }
  let counted (lo : Nat) (s t : State) : Prop := bits (s.chip.fld .HOST_CNT_RESETS 0) (lo + 15) lo ≠ 0xFFFF →
    t.chip.fld .HOST_CNT_RESETS 0 = s.chip.fld .HOST_CNT_RESETS 0 + 2 ^ lo
  ∀ s : State,
    (s.aonUp → s.chip.host.perst = false → Gives .perstNAssert s fun t =>
      cleared s t ∧ t.chip.host.perst = true ∧ t.chip.host.d3cold = s.chip.host.turnedOff ∧ t.chip.host.quar = [] ∧
        t.chip.is .HOST_STATUS_LINK_UP 0 = false ∧ counted (if s.chip.host.turnedOff then 0 else 48) s t) ∧
    (s.aonUp → s.chip.host.perst = true → Gives .perstNRelease s fun t =>
      t.chip.host = { s.chip.host with perst := false, d3cold := false, wake := false, inL1 := t.chip.host.inL1 } ∧
        t.chip.regs = s.chip.regs ∧ SamePlane s t ∧ SameStore s t) ∧
    (s.aonUp → s.chip.host.perst = false → Gives .hotReset s fun t =>
      cleared s t ∧ t.chip.is .HOST_STATUS_LINK_UP 0 = false ∧ t.chip.host.quar = [] ∧ counted 32 s t) ∧
    (s.chip.cfgServed = true → Gives .initiateFlr s fun t =>
      cleared s t ∧ t.chip.fld .HOST_STATUS_LINK_UP 0 = s.chip.fld .HOST_STATUS_LINK_UP 0 ∧
        (∀ r ∈ s.chip.host.reads, kFind t.chip.host.quar r.tag = some true) ∧ counted 16 s t) ∧
    (s.up → s.chip.host.perst = false → s.chip.host.ready = false → s.chip.host.lost = false → ∀ i ∈ [Instr.functionReady, .flrComplete],
      Gives i s fun t => t.chip.host.ready = true ∧ (s.chip.mbx.isOpen = false → t.chip.mbx.isOpen = true) ∧
        SamePlane s t ∧ SameStore s t) ∧
    (s.up → s.chip.host.lost = true → ∀ i ∈ [Instr.functionReady, .flrComplete], Gives i s fun t => t = s) ∧
    (∀ speed width, s.aonUp → s.chip.host.perst = false → s.chip.is .HOST_STATUS_LINK_UP 0 = false →
      Gives (.hostLinkUp speed width) s fun t =>
        t.chip.is .HOST_STATUS_LINK_UP 0 = true ∧ t.chip.fld .HOST_STATUS_SPEED 0 = speed ∧
          t.chip.fld .HOST_STATUS_WIDTH 0 = width ∧ t.chip.host.turnedOff = false ∧ t.chip.host.lost = false ∧ kept s t ∧
          (s.chip.host.lost = true → t.chip.host.ready = false ∧ t.chip.host.cfg.memEn = false ∧
            t.chip.host.cfg.busMaster = false ∧ t.chip.dma = DmaS.init) ∧
          (s.chip.host.lost = false → t.chip.host.ready = s.chip.host.ready ∧ t.chip.dma = s.chip.dma ∧
            SameRegs [.HOST_STATUS_LINK_UP, .HOST_STATUS_SPEED, .HOST_STATUS_WIDTH] s t)) ∧
    (s.aonUp → s.chip.is .HOST_STATUS_LINK_UP 0 = true → Gives .hostLinkDown s fun t =>
      kept s t ∧ closed t ∧ t.chip.host.ready = false ∧ t.chip.host.lost = true ∧ t.chip.host.reads = [] ∧ t.chip.host.quar = [] ∧
        t.chip.is .HOST_STATUS_LINK_UP 0 = false ∧ t.chip.is .HOST_STATUS_LINK_DOWN_SEEN 0 = true ∧
        t.chip.fld .HOST_CNT_LINK_DOWNS 0 = satAdd 64 (s.chip.fld .HOST_CNT_LINK_DOWNS 0) 1 ∧
        (∀ ch, ch < 16 → s.chip.dState ch = 1 → t.chip.dState ch = 3 ∧ t.chip.fld .DMA_CH_STATUS_CAUSE ch = 15)) ∧
    (s.aonUp → s.chip.frozen = true → Gives .pmeTurnOff s fun t => t = s) ∧
    (s.up → s.chip.is .HOST_STATUS_LINK_UP 0 = true → Gives .pmeTurnOff s fun t =>
      t.chip.host = { s.chip.host with turnedOff := true, inL1 := false } ∧ t.chip.out = s.chip.out ++ [.pcieMessage 1] ∧
        t.chip.is .HOST_STATUS_LINK_UP 0 = false ∧
        SameRegs [.HOST_STATUS_LINK_UP, .HOST_STATUS_SPEED, .HOST_STATUS_WIDTH] s t ∧ SamePlane s t ∧ SameStore s t) ∧
    (s.chip.cfgServed = false → s.chip.is .HOST_STATUS_LINK_UP 0 = true → s.chip.inReset = false → ∀ off d,
      ∀ i ∈ [Instr.initiateFlr, .busMasterEnableSet, .busMasterEnableClear, .pmControlWrite d, .resizableBarWrite d,
        .configSpaceWrite off d], Gives i s fun t => Sent s t .configRetry ∧
          t.chip.host.cfg = { s.chip.host.cfg with pmeStatus := t.chip.host.cfg.pmeStatus } ∧ SameRegs eventFlds s t ∧
          SamePlane s t ∧ SameStore s t) ∧
    (s.up → s.chip.host.cfg.aspmL1 = true → s.chip.is .HOST_STATUS_LINK_UP 0 = true → Gives .aspmL1Entry s fun t =>
      t.chip = { s.chip with host := { s.chip.host with inL1 := true } } ∧ SameStore s t) ∧
    (s.up → Gives .aspmL1Exit s fun t =>
      t.chip = { s.chip with host := { s.chip.host with inL1 := false } } ∧ SameStore s t)

/-- Requests of the host (R241-R250, R254-R259): configuration writes, bus mastering, power states, the MSI-X table, the
store aperture, bad BAR accesses, stray completions and completion timeouts. A size that R240 does not list is not taken over
(the model's choice: notes/assumptions/181.md). -/
def Obligations.HostRequests : Prop :=
  ∀ s : State,
    let x := s.chip.host.cfg
    let stopped (cause : Nat) (t : State) : Prop := ∀ ch, ch < 16 → s.chip.dState ch = 1 →
      (t.chip.dState ch = 2 ∨ t.chip.dState ch = 3) ∧ t.chip.fld .DMA_CH_STATUS_CAUSE ch = cause
    let sent (t : State) : Prop := ∀ v, kFind s.chip.host.pba v = some true →
      (kGet MsixEntry.init s.chip.host.msix v).masked = false → (kGet MsixEntry.init s.chip.host.msix v).addr % 4 = 0 →
      Sent s t (.msix v false)
    let conf (y : Config0) (t : State) : Prop :=
      t.chip.host.cfg = { y with pmeStatus := t.chip.host.cfg.pmeStatus } ∧ SamePlane s t ∧ SameStore s t
    (s.chip.cfgServed = true →
      (x.busMaster = true → Gives .busMasterEnableClear s fun t =>
        t.chip.host.cfg = { x with busMaster := false, pmeStatus := t.chip.host.cfg.pmeStatus } ∧ stopped 13 t ∧
          SameStore s t) ∧
      (x.busMaster = false → Gives .busMasterEnableSet s fun t =>
        conf { x with busMaster := true } t ∧
          (x.msixEn = true → x.msixMask = false → x.dstate = 0 → s.chip.frozen = false → sent t)) ∧
      (∀ d, x.memEn = false → 10 ≤ bits d 13 8 → bits d 13 8 ≤ 18 → Gives (.resizableBarWrite d) s fun t =>
        conf { x with barSize := bits d 13 8, bar2 := x.bar2 / 2 ^ (bits d 13 8 + 20) * 2 ^ (bits d 13 8 + 20) } t ∧
          SameRegs eventFlds s t) ∧
      (∀ d, x.memEn = true → Gives (.resizableBarWrite d) s fun t => conf x t ∧ SameRegs eventFlds s t) ∧
      (∀ d, x.dstate = 0 → bits d 1 0 = 3 → Gives (.pmControlWrite d) s fun t =>
        t.chip.host.cfg.dstate = 3 ∧ t.chip.fld .HOST_STATUS_DSTATE 0 = 3 ∧ t.chip.host.cfg.pmeEn = d.testBit 8 ∧
          t.chip.mbx.isOpen = false ∧ stopped 14 t ∧ SameStore s t) ∧
      (∀ d, x.dstate = 3 → bits d 1 0 = 0 → Gives (.pmControlWrite d) s fun t =>
        t.chip.host.cfg.dstate = 0 ∧ t.chip.fld .HOST_STATUS_DSTATE 0 = 0 ∧ t.chip.mbx.isOpen = true ∧ SamePlane s t ∧
          SameStore s t) ∧
      (∀ d, d.testBit 2 = x.busMaster → Gives (.configSpaceWrite 0x04 d) s fun t =>
        conf { x with memEn := d.testBit 1, parityEn := d.testBit 6, serrEn := d.testBit 8, intDisable := d.testBit 10 } t ∧
          SameRegs eventFlds s t) ∧
      (∀ d, d.testBit 15 = false → Gives (.configSpaceWrite 0x58 d) s fun t =>
        conf { x with relaxed := d.testBit 4, maxPayload := (if bits d 7 5 ≤ 2 then bits d 7 5 else x.maxPayload),
                      noSnoop := d.testBit 11, maxReadReq := (if bits d 14 12 ≤ 5 then bits d 14 12 else x.maxReadReq) } t) ∧
      (∀ d, Gives (.configSpaceWrite 0x78 d) s fun t =>
        conf (if ctoListed.contains (bits d 3 0) then { x with cto := bits d 3 0 } else x) t) ∧
      (∀ d, Gives (.configSpaceWrite 0x104 d) s fun t => conf { x with aerUncorr := x.aerUncorr - (x.aerUncorr &&& d) } t)) ∧
    (∀ v, s.up → s.chip.hostServed = true → v < 2048 → Gives (.msixVectorUnmask v) s fun t =>
      kGet MsixEntry.init t.chip.host.msix v = { kGet MsixEntry.init s.chip.host.msix v with masked := false } ∧
        (∀ w, w ≠ v → kGet MsixEntry.init t.chip.host.msix w = kGet MsixEntry.init s.chip.host.msix w) ∧
        (kGet false s.chip.host.pba v = true → x.msixEn = true → x.msixMask = false → x.busMaster = true →
          (kGet MsixEntry.init s.chip.host.msix v).addr % 4 = 0 → Sent s t (.msix v false)) ∧
        t.chip.regs = s.chip.regs ∧ SamePlane s t ∧ SameStore s t) ∧
    (∀ off len, s.chip.hostServed = true → s.chip.inAper off len = true →
      Gives (.apertureRead off len) s fun t =>
        (∀ st, st = (if (s.chip.eccRead (s.chip.aperAddr off) len).1 then 0 else 2) →
          Sent s t (.readBytes st (memRead s.mem (s.chip.aperAddr off) len))) ∧
        ((s.chip.eccRead (s.chip.aperAddr off) len).1 = false →
          t.chip.fld .HOST_CNT_APER_POISON 0 = satAdd 64 (s.chip.fld .HOST_CNT_APER_POISON 0) 1) ∧ SameStore s t) ∧
    (∀ off b, s.up → s.chip.hostServed = true → s.chip.inAper off b.length = true → s.chip.is .HOST_APER_CTRL_WRITE_EN 0 = true →
      (∀ m, m < 8 → s.chip.stackBad m = false) → s.chip.stor.ecc = [] → s.chip.aperAddr off + b.length ≤ storeEnd →
      Gives (.apertureWrite off b false) s fun t =>
        (∀ k, k < b.length → memByte t.mem (s.chip.aperAddr off + k) = b.getD k 0) ∧
          (∀ a, a < s.chip.aperAddr off ∨ s.chip.aperAddr off + b.length ≤ a → memByte t.mem a = memByte s.mem a) ∧
          SameRegs [.CORE_BRIDGE_CNT_BYTES, .CORE_BRIDGE_CNT_PEAK_RATE] s t ∧ t.mram = s.mram ∧ t.pending = s.pending) ∧
    (∀ off b p, s.up → s.chip.hostServed = true → s.chip.inAper off b.length = true →
      s.chip.is .HOST_APER_CTRL_WRITE_EN 0 = false → Gives (.apertureWrite off b p) s fun t =>
        t.chip.fld .HOST_CNT_APER_WDROP 0 = satAdd 64 (s.chip.fld .HOST_CNT_APER_WDROP 0) 1 ∧
          SameRegs [.HOST_CNT_APER_WDROP] s t ∧ SamePlane s t ∧ SameStore s t) ∧
    (∀ src data, s.up → s.chip.reaches src .HOST = true → Gives (.hostAperBaseWrite src data) s fun t =>
      t.chip.fld .HOST_APER_BASE_APER_BASE 0 = bits data 37 30 ∧ SameRegs [.HOST_APER_BASE_APER_BASE] s t ∧ SamePlane s t ∧
        SameStore s t) ∧
    (∀ off len, s.chip.hostServed = true → badAccess off len = true →
      (Gives (.barAccessError true off len) s fun t =>
        t.chip.fld .HOST_CNT_BAD_ACCESS 0 = satAdd 64 (s.chip.fld .HOST_CNT_BAD_ACCESS 0) 1 ∧
          SameRegs [.HOST_CNT_BAD_ACCESS] s t ∧ SamePlane s t ∧ SameStore s t) ∧
      (Gives (.barAccessError false off len) s fun t =>
        t.chip.out = s.chip.out ++ [.readData .host 1 len 0] ∧ t.chip.regs = s.chip.regs ∧ SamePlane s t ∧ SameStore s t)) ∧
    (∀ tag cpl, s.up → (s.chip.host.reads.find? fun r => r.tag == tag) = none → Gives (.completionReceived tag cpl) s fun t =>
      (kFind s.chip.host.quar tag = some true →
        t.chip.fld .HOST_CNT_QUAR_CPL 0 = satAdd 64 (s.chip.fld .HOST_CNT_QUAR_CPL 0) 1 ∧
          t.chip.flt.batch = s.chip.flt.batch ++ [⟨0x8000, 0x504, tag, false⟩]) ∧
      (kFind s.chip.host.quar tag = none →
        t.chip.fld .HOST_CNT_UNEXP_CPL 0 = satAdd 64 (s.chip.fld .HOST_CNT_UNEXP_CPL 0) 1 ∧
          t.chip.flt.batch = s.chip.flt.batch ++ [⟨0x8000, 0x502, tag, false⟩]) ∧
      SameRegs [.HOST_CNT_QUAR_CPL, .HOST_CNT_UNEXP_CPL] s t ∧ SamePlane s t ∧ SameStore s t) ∧
    (∀ tag r, s.up → (s.chip.host.reads.find? fun r => r.tag == tag) = some r → Gives (.completionTimeout tag) s fun t =>
      kFind t.chip.host.quar tag = some false ∧ (∀ r ∈ t.chip.host.reads, r.tag ≠ tag) ∧
        t.chip.fld .HOST_CNT_CPL_TIMEOUTS 0 = satAdd 64 (s.chip.fld .HOST_CNT_CPL_TIMEOUTS 0) 1 ∧
        ⟨0x8000, 0x501, tag, false⟩ ∈ t.chip.flt.batch ∧ t.mram = s.mram ∧ t.pending = s.pending) ∧
    (∀ tag, s.aonUp → Gives (.tagQuarantineEnd tag) s fun t =>
      kFind t.chip.host.quar tag = none ∧ (∀ u, u ≠ tag → kFind t.chip.host.quar u = kFind s.chip.host.quar u) ∧
        t.chip.strm = s.chip.strm ∧ t.chip.plane = s.chip.plane ∧ SameStore s t)

/-! ### The DMA engine (R275-R290) -/

/-- Channels, descriptors and request lines of the DMA engine (R276-R288): START, STOP and RESET; the tail and the
configuration, with what is refused; a fetch that arrives; a descriptor that starts, that fails its checks, or that
copies within the store; the data of a host read, which land in the store, and a part of them, after which the read waits
for the rest; the writeback; a frame of a receive class;
an armed request line and its burst. -/
def Obligations.DmaChannels : Prop :=
  ∀ s : State, s.up → ∀ ch, ch < 16 →
    let c := s.chip
    let goodStore : Prop := (∀ m, m < 8 → c.stackBad m = false) ∧ c.stor.ecc = []
    let rest (t : State) : Prop := t.chip.strm = c.strm ∧ t.chip.plane = c.plane ∧ t.chip.brkw = c.brkw ∧
      t.chip.stor = c.stor ∧ SameStore s t
    let bad (off : Nat) (t : State) : Prop := t.chip.flt.batch = c.flt.batch ++ [⟨0x9000 + ch, 0x506, chOff ch + off, false⟩] ∧
      SameRegs eventFlds s t ∧ SamePlane s t ∧ SameStore s t
    (∀ src data, c.reaches src .DMA = true →
      (data % 8 ≤ 1 → c.hostIssues = true → (c.dState ch = 0 ∨ c.dState ch = 3) → (c.dmaCh ch).held = none →
        Gives (.dmaStart src ch data) s fun t => t.chip.dState ch = 1 ∧ rest t) ∧
      ((data % 8 = 0 ∨ data % 8 = 2) → c.dState ch = 1 → (c.dmaCh ch).cur = none → Gives (.dmaStop src ch data) s fun t =>
        t.chip.dState ch = (if c.readsOf ch = [] then 3 else 2) ∧ t.chip.fld .DMA_CH_STATUS_CAUSE ch = 12 ∧
          t.chip.fld .DMA_CH_STATUS_STOP_INDEX ch = c.dHead ch ∧ (t.chip.dmaCh ch).fetched = [] ∧ rest t) ∧
      ((data % 8 = 0 ∨ data % 8 = 4) → Gives (.dmaReset src ch data) s fun t =>
        t.chip.dState ch = 0 ∧ t.chip.dHead ch = 0 ∧ t.chip.fld .DMA_CH_HEAD_DONE ch = 0 ∧
          t.chip.fld .DMA_CH_TAIL_TAIL ch = 0 ∧ t.chip.dmaCh ch = DmaCh.init ∧ rest t) ∧
      (bits data 15 0 < c.ringSize ch → (bits data 15 0 + c.ringSize ch - c.fld .DMA_CH_TAIL_TAIL ch % c.ringSize ch) %
          c.ringSize ch ≤ (c.fld .DMA_CH_HEAD_DONE ch + 2 * c.ringSize ch - 1 - c.fld .DMA_CH_TAIL_TAIL ch % c.ringSize ch) %
          c.ringSize ch → Gives (.dmaTailWrite src ch data) s fun t =>
        t.chip.fld .DMA_CH_TAIL_TAIL ch = bits data 15 0 ∧ t.chip.dHead ch = c.dHead ch ∧ rest t) ∧
      (c.ringSize ch ≤ bits data 15 0 → Gives (.dmaTailWrite src ch data) s (bad 0x10)) ∧
      (c.dmaCfgOk ch data = true → Gives (.dmaChCfgWrite src ch data) s fun t =>
        t.chip.fld .DMA_CH_CFG_SIZE_LOG2 ch = bits data 4 0 ∧ t.chip.fld .DMA_CH_CFG_RX_EN ch = bits data 13 13 ∧
          t.chip.fld .DMA_CH_CFG_RX_CLASS ch = bits data 12 9 ∧ t.chip.fld .DMA_CH_CFG_REQ_EN ch = bits data 22 22 ∧
          t.chip.fld .DMA_CH_CFG_REQ_LINE ch = bits data 21 16 ∧ SamePlane s t ∧ SameStore s t) ∧
      (c.dState ch = 1 → Gives (.dmaChCfgWrite src ch data) s (bad 8)) ∧
      (∀ l, l < 64 → c.reqOk l (data % 2 ^ 63 + 2 ^ 63) = true → c.is .DMA_REQ_EN l = false →
        Gives (.dmaReqEnable src l data) s fun t =>
          t.chip.is .DMA_REQ_EN l = true ∧ t.chip.fld .DMA_REQ_REGION l = bits data 48 32 ∧
            t.chip.fld .DMA_REQ_BURST l = bits data 30 24 ∧ t.chip.fld .DMA_REQ_WM l = bits data 23 0 ∧
            t.chip.fld .DMA_REQ_PTR l = ((c.region (bits data 48 32)).ringOf 0).rd ∧ SamePlane s t ∧ SameStore s t)) ∧
    (∀ b, ∀ r, c.fetchRead ch = some r → Gives (.descriptorFetched ch b) s fun t =>
      (t.chip.dmaCh ch).fetched = (List.range (min ((b.take r.len).length / 64) (min 8 (c.waitingSlots ch)))).map
        (fun k => ((c.dHead ch + k) % c.ringSize ch, descWords (slice (b.take r.len) (64 * k) 64))) ∧ rest t) ∧
    (∀ e l, (c.dmaCh ch).fetched = e :: l → (c.dmaCh ch).cur = none → c.dState ch = 1 → c.hostIssues = true →
      let d : DmaCur := ⟨e.1, e.2, 0, 0, [], 0, 0⟩
      (c.descCheck ch d ≠ 0 → Gives (.descriptorExecute ch) s fun t =>
        t.chip.dHead ch = (e.1 + 1) % c.ringSize ch ∧
          (t.chip.dmaCh ch).cur = some { d with phase := 2, status := c.descCheck ch d } ∧
          t.chip.flt.batch = c.flt.batch ++ [⟨0x9000 + ch, if c.descCheck ch d = 1 then 0x505 else 0x506, e.1, false⟩] ∧
          rest t) ∧
      (c.descCheck ch d = 0 → (d.kind = 0 ∨ d.kind = 3 ∨ d.kind = 4 ∨ d.req = true) →
        Gives (.descriptorExecute ch) s fun t =>
          t.chip.dHead ch = (e.1 + 1) % c.ringSize ch ∧ (∃ n, (t.chip.dmaCh ch).cur = some { d with issued := n }) ∧ rest t) ∧
      (c.descCheck ch d = 0 → d.kind = 1 → d.req = false → goodStore → Gives (.descriptorExecute ch) s fun t =>
        t.chip.dHead ch = (e.1 + 1) % c.ringSize ch ∧ (t.chip.dmaCh ch).cur =
          some { d with moved := d.len, phase := if c.host.reads.length < 1024 then 1 else 3 } ∧
          t.chip.fld .DMA_CH_CNT_BYTES ch = satAdd 64 (c.fld .DMA_CH_CNT_BYTES ch) d.len ∧ rest t) ∧
      (c.descCheck ch d = 0 → d.kind = 2 → goodStore → Gives (.descriptorExecute ch) s fun t =>
        t.chip.dHead ch = (e.1 + 1) % c.ringSize ch ∧ (t.chip.dmaCh ch).cur = some { d with moved := d.len, phase := 2 } ∧
          t.chip.fld .DMA_CH_CNT_BYTES ch = satAdd 64 (c.fld .DMA_CH_CNT_BYTES ch) d.len ∧
          (∀ k, k < d.len → memByte t.mem (d.dst + k) = memByte s.mem (d.src + k)) ∧
          (∀ a, a < d.dst ∨ d.dst + d.len ≤ a → memByte t.mem a = memByte s.mem a) ∧ t.mram = s.mram ∧
          t.pending = s.pending)) ∧
    (∀ tag x, ∀ r, (c.host.reads.find? fun r => r.tag == tag) = some r → r.purpose = 1 → x.status = 0 →
      x.poisoned = false → r.target + r.len ≤ storeEnd → r.got.length ≤ r.len → goodStore →
      let at_ := r.target + r.got.length
      let n := min (r.len - r.got.length) x.bytes.length
      Gives (.completionReceived tag x) s fun t =>
        (∀ k, k < n → memByte t.mem (at_ + k) = x.bytes.getD k 0) ∧
          (∀ a, a < at_ ∨ at_ + n ≤ a → memByte t.mem a = memByte s.mem a) ∧
          ((c.dmaCh r.ch).cur.isSome = true →
            t.chip.fld .DMA_CH_CNT_BYTES r.ch = satAdd 64 (c.fld .DMA_CH_CNT_BYTES r.ch) n) ∧
          (r.got.length + x.bytes.length < r.len → { r with got := r.got ++ x.bytes } ∈ t.chip.host.reads) ∧
          t.mram = s.mram ∧ t.pending = s.pending) ∧
    (∀ d, (c.dmaCh ch).cur = some d → d.phase = 2 → c.dState ch = 1 → c.hostIssues = true →
      Gives (.descriptorComplete ch) s fun t =>
        Sent s t (.hostWrite (c.ringBase ch + 64 * d.idx + 32) false d.writeback) ∧ (t.chip.dmaCh ch).cur = none ∧
          t.chip.fld .DMA_CH_HEAD_DONE ch = (d.idx + 1) % c.ringSize ch ∧
          ((d.status = 0 ∨ d.status = 10) → t.chip.dState ch = 1 ∧
            t.chip.fld .DMA_CH_CNT_DESC_OK ch = satAdd 32 (c.fld .DMA_CH_CNT_DESC_OK ch) 1) ∧
          (d.status ≠ 0 → d.status ≠ 10 → t.chip.dState ch ≠ 1 ∧ t.chip.fld .DMA_CH_STATUS_CAUSE ch = d.status ∧
            t.chip.fld .DMA_CH_STATUS_STOP_INDEX ch = d.idx ∧
            t.chip.fld .DMA_CH_CNT_DESC_ERR ch = satAdd 32 (c.fld .DMA_CH_CNT_DESC_ERR ch) 1) ∧ rest t) ∧
    (∀ i l, c.cls (c.fld .DMA_CH_CFG_RX_CLASS ch) = i :: l → ∀ d, (c.dmaCh ch).cur = some d → d.kind = 4 → d.phase = 0 →
      c.is .DMA_CH_CFG_RX_EN ch = true → c.dState ch = 1 → c.hostIssues = true → i.f.rx = none →
      let k := c.fld .DMA_CH_CFG_RX_CLASS ch
      (i.f.bytes.length ≤ d.len → Gives (.rxClassDelivery ch) s fun t =>
        t.chip.cls k = l ∧ (∃ e, (t.chip.dmaCh ch).cur = some e ∧ e.moved = i.f.bytes.length ∧
            e.word 4 = (if d.words.length ≤ 4 then 0 else packTime i.f.ts % 2 ^ 64)) ∧
          t.chip.fld .DMA_RX_CNT_RX_FRAMES k = satAdd 64 (c.fld .DMA_RX_CNT_RX_FRAMES k) 1 ∧
          t.chip.fld .DMA_CH_CNT_BYTES ch = satAdd 64 (c.fld .DMA_CH_CNT_BYTES ch) i.f.bytes.length ∧ rest t) ∧
      (d.len < i.f.bytes.length → Gives (.rxClassDelivery ch) s fun t =>
        t.chip.cls k = l ∧ t.chip.dmaCh ch = c.dmaCh ch ∧
          t.chip.fld .DMA_RX_CNT_RX_TOO_LONG k = satAdd 64 (c.fld .DMA_RX_CNT_RX_TOO_LONG k) 1 ∧
          SameRegs [.DMA_RX_CNT_RX_TOO_LONG] s t ∧ rest t)) ∧
    (∀ r, r < 64 → c.lineChannel r = some ch → ∀ d, (c.dmaCh ch).cur = some d → d.req = true → d.kind = 1 → d.phase = 0 →
      c.dState ch = 1 → c.hostIssues = true → c.lineAsserted r = true →
      let n := min (64 * c.fld .DMA_REQ_BURST r) (min (d.len - d.moved) (c.lineAvail r))
      let m := (s.burstLines (c.fld .DMA_REQ_REGION r) (c.fld .DMA_REQ_PTR r) (n / 64) 0).1.length
      ((c.region (c.fld .DMA_REQ_REGION r)).ringOf 0).inWindow (c.fld .DMA_REQ_PTR r) n = true → Gives (.requestBurst r) s fun t =>
        t.chip.fld .DMA_REQ_PTR r = c.fld .DMA_REQ_PTR r + m ∧
          t.chip.fld .DMA_CH_CNT_BYTES ch = satAdd 64 (c.fld .DMA_CH_CNT_BYTES ch) m ∧
          (∃ e, (t.chip.dmaCh ch).cur = some e ∧ e.moved = d.moved + m ∧ e.status = (if m = n then 0 else 9) ∧
            (e.phase = 0 ↔ m = n ∧ d.moved + m ≠ d.len)) ∧
          t.chip.strm = c.strm ∧ t.chip.plane = c.plane ∧ SameStore s t)

/-! ### The duo (R370-R395) -/

/-- The duo states (R373, R381-R384, R388, R390, R394): what each unit decides at a link loss, in the decision window and at
the end of a takeover; sole actions; a join that starts, is refused or aborts. -/
def Obligations.DuoStates : Prop :=
  ∀ s : State, s.up →
    let c := s.chip
    let solo (t : State) : Prop := t.chip.duoState = 0 ∧ t.chip.duoActive = true ∧ t.chip.duo.unacked = [] ∧
      ⟨0xC000, 0x602, 0, false⟩ ∈ t.chip.flt.batch ∧ t.chip.fld .DUO_CNT_LINK_LOSSES 0 = satAdd 64 (c.fld .DUO_CNT_LINK_LOSSES 0) 1 ∧
      SamePlane s t ∧ SameStore s t
    let muted (t : State) : Prop := t.chip.duoState = 3 ∧ t.chip.duoActive = false ∧ t.chip.duo.fromStep = true ∧
      t.chip.is .DUO_STATUS_LINK_UP 0 = false ∧ t.chip.flt.batch = c.flt.batch ++ [⟨0xC000, 0x601, 0, false⟩] ∧
      t.chip.fld .DUO_CNT_LINK_LOSSES 0 = satAdd 64 (c.fld .DUO_CNT_LINK_LOSSES 0) 1 ∧ t.chip.sole = false ∧
      (c.duo.pend = [] → SameStore s t ∧ (c.sole = false → SamePlane s t))
    let follows (t : State) : Prop := t.chip.duoState = 4 ∧ t.chip.duoActive = false ∧ SamePlane s t ∧ SameStore s t
    (c.duoState = 2 → c.duoActive = true → c.duo.unacked ≠ [] → c.duo.leave = false → c.ownOk = true →
      (c.reading < 2 → Gives .ackTimeout s fun t => solo t ∧ t.chip.fld .DUO_CNT_SPLITS 0 = c.fld .DUO_CNT_SPLITS 0) ∧
      (c.reading = 2 → c.fld .DUO_CFG_SPLIT_POLICY 0 = 0 → c.secondary = false → Gives .ackTimeout s fun t =>
        solo t ∧ t.chip.fld .DUO_CNT_SPLITS 0 = satAdd 64 (c.fld .DUO_CNT_SPLITS 0) 1 ∧
          t.chip.is .DUO_STATUS_SPLIT_SEEN 0 = true ∧ ⟨0xC000, 0x604, 0, false⟩ ∈ t.chip.flt.batch) ∧
      (c.reading = 2 → (c.fld .DUO_CFG_SPLIT_POLICY 0 ≠ 0 ∨ c.secondary = true) → Gives .ackTimeout s fun t =>
        t.chip.duoState = 3 ∧ t.chip.duo.fromStep = true ∧ ⟨0xC000, 0x604, 0, false⟩ ∈ t.chip.flt.batch)) ∧
    (c.duoState = 2 → c.duoActive = true → c.duo.unacked ≠ [] → c.duo.leave = false → c.ownOk = false → Gives .ackTimeout s muted) ∧
    (c.duoState = 2 → c.duoActive = false → Gives .recordSilence s muted) ∧
    (∀ h, c.duoState = 0 → c.reading ≠ 1 → Gives (.peerPinChange (.failed h)) s fun t =>
      t.chip.reading = 1 ∧ t.chip.duo.pins = bit h ∧ t.chip.duoState = 0 ∧ t.chip.flt.batch = c.flt.batch ∧
        SameRegs (.DUO_STATUS_PEER_PINS :: eventFlds) s t ∧ SamePlane s t ∧ SameStore s t) ∧
    (∀ h, c.duoState = 3 → c.duo.fromStep = true → c.duo.window = true → c.ownOk = true → c.reading ≠ 1 →
      Gives (.peerPinChange (.failed h)) s fun t => follows t ∧ t.chip.reading = 1) ∧
    (c.duoState = 3 → c.duo.fromStep = true → c.ownOk = true →
      (c.reading = 1 → Gives .decisionWindowOpen s follows) ∧
      (c.reading = 2 → c.fld .DUO_CFG_SPLIT_POLICY 0 = 0 → c.secondary = false → Gives .decisionWindowOpen s fun t =>
        follows t ∧ t.chip.fld .DUO_CNT_SPLITS 0 = satAdd 64 (c.fld .DUO_CNT_SPLITS 0) 1) ∧
      (c.reading = 0 → Gives .decisionWindowOpen s fun t =>
        t.chip.duo = { c.duo with window := true } ∧ SameRegs eventFlds s t ∧ SamePlane s t ∧ SameStore s t)) ∧
    (c.duoState = 3 → c.duo.fromStep = true → Gives .decisionWindowEnd s fun t =>
      t.chip.duoState = 3 ∧ t.chip.duo.fromStep = false ∧ t.chip.duo.window = false ∧
        (∀ b, (t.chip.berth b).queue = (c.berth b).queue.filter fun i => !c.waits i.f) ∧
        (∀ g, (t.chip.quay g).staged = (c.quay g).staged.filter fun x => !c.waits x.it.f) ∧
        t.chip.fld .DUO_CNT_PEND_DROPS 0 = satAdd 64 (c.fld .DUO_CNT_PEND_DROPS 0) c.dropUnconfirmed.1 ∧ SameStore s t) ∧
    (c.duoState = 4 → Gives .takeoverComplete s fun t =>
      t.chip.duoState = 0 ∧ t.chip.duoActive = true ∧ t.chip.is .DUO_STATUS_TAKEOVER_SEEN 0 = true ∧
        t.chip.fld .DUO_CNT_TAKEOVERS 0 = satAdd 64 (c.fld .DUO_CNT_TAKEOVERS 0) 1 ∧ t.chip.duo.unacked = [] ∧
        t.chip.flt.batch = c.flt.batch ++ [⟨0xC000, 0x602, 0, false⟩] ∧ SamePlane s t ∧ SameStore s t) ∧
    (c.duo.soleStop = true → Gives .soleActionStop s fun t =>
      t.chip.is .DUO_STATUS_SOLE_BARRED 0 = true ∧ t.chip.sole = false ∧
        SameRegs (.DUO_STATUS_SOLE_BARRED :: eventFlds) s t ∧ SameStore s t ∧
        (c.sole = true → t.chip.time.ppsOut = false ∧ Sent s t (.alarms false) ∧
          ∀ b, (t.chip.berth b).queue = (c.berth b).queue.filter fun i => !i.f.soleOnly) ∧
        (c.sole = false → SamePlane s t)) ∧
    (c.duoState = 1 → Gives .joinAbort s fun t =>
      t.chip.duoState = 0 ∧ t.chip.is .DUO_STATUS_ABORT_SEEN 0 = true ∧ t.chip.fld .DUO_STATUS_JOIN_EPOCH 0 = 0 ∧
        t.chip.fld .DUO_CNT_JOIN_ABORTS 0 = satAdd 64 (c.fld .DUO_CNT_JOIN_ABORTS 0) 1 ∧
        t.chip.flt.batch = c.flt.batch ++ [⟨0xC000, 0x603, c.fld .DUO_STATUS_JOIN_EPOCH 0, false⟩] ∧
        (c.duoActive = true → SamePlane s t) ∧
        (c.duoActive = false → ∀ p, p < 256 → t.chip.is .PORT_CFG_ENABLE p = false) ∧
        (c.duoActive = false → 2 ≤ c.fld .DUO_STATUS_JOIN_EPOCH 0 → t.chip.strm.keys = [] ∧ t.chip.strm.handles = [] ∧
          t.chip.brkw.inst = [] ∧ t.chip.stor.regions = []) ∧
        (c.duoActive = true ∨ c.fld .DUO_STATUS_JOIN_EPOCH 0 < 2 → t.mem = s.mem) ∧ t.mram = s.mram ∧
        t.pending = s.pending) ∧
    (∀ q : PeerInfo, q.asks = true → c.is .DUO_CFG_ENABLE 0 = true → c.duoState = 0 → c.link 248 = 3 →
      (c.cannotJoin q = false → c.anyClaim = false → q.claims = false → c.duo.asked = none →
        Gives (.peerJoinAccepted q) s fun t =>
          t.chip.duoState = 1 ∧ t.chip.duoActive = true ∧ t.chip.fld .DUO_STATUS_JOIN_EPOCH 0 = 1 ∧
            t.chip.duo.peer = some q ∧ Sent s t (.duoMessage 1) ∧ SamePlane s t ∧ SameStore s t) ∧
      ((c.cannotJoin q = true ∨ c.anyClaim = true ∨ q.claims = true) → Gives (.peerJoinAccepted q) s fun t =>
        Sent s t (.duoMessage 2) ∧ t.chip.duo = { c.duo with peer := some q } ∧ SameRegs eventFlds s t ∧ SamePlane s t ∧
          SameStore s t))

/-- Step records and the epochs of a join (R375-R378, R389): the record that the ACTIVE unit sends at an epoch's end and
its acknowledgement; what a standby does with a record, and the copies and log entries that expire; on the serving unit the
snapshot at the end of the first epoch, the records from then on, and what each of the three epochs sends; the three epochs on
the joiner; and IN_STEP at the next boundary on both. -/
def Obligations.DuoEpochs : Prop :=
  ∀ s : State, s.up →
    let c := s.chip
    let ep := c.fld .DUO_STATUS_EPOCH 0
    let next : Nat := (ep + 1) % 2 ^ 48
    (c.ticking = true → c.duoState = 2 → c.duoActive = true → c.duo.swapDue = false → c.duo.swapEpoch = none →
      Gives .epochEnd s fun t =>
        let x := cutRuns 12288 (c.duo.deferred ++ c.duo.entries)
        Sent s t (.stepRecord ⟨ep, if x.1 = [] then [.empty ep] else x.1⟩) ∧ t.chip.fld .DUO_STATUS_EPOCH 0 = next ∧
          t.chip.duo = { c.duo with entries := [], deferred := x.2, unacked := c.duo.unacked ++ [ep] } ∧
          t.chip.fld .DUO_CNT_RUNS_DEFERRED 0 = satAdd 64 (c.fld .DUO_CNT_RUNS_DEFERRED 0) x.2.length ∧
          SamePlane s t ∧ SameStore s t) ∧
    (c.ticking = true → c.duoState = 1 → c.duoActive = false → c.duo.swapEpoch = none → c.duo.caught = true →
      Gives .epochEnd s fun t =>
        t.chip.duoState = 2 ∧ t.chip.duoActive = false ∧ t.chip.fld .DUO_STATUS_JOIN_EPOCH 0 = 0 ∧
          t.chip.fld .DUO_CNT_JOINS 0 = satAdd 64 (c.fld .DUO_CNT_JOINS 0) 1 ∧ t.chip.duo.caught = false ∧
          SamePlane s t ∧ SameStore s t) ∧
    (c.ticking = true → c.duoState = 1 → c.duoActive = true → c.duo.swapEpoch = none → c.duo.caught = false →
      c.duo.e0 = none → Gives .epochEnd s fun t =>
        t.chip.duo = { c.duo with e0 := some c.peerData, entries := [], deferred := [] } ∧ NotSent s t Output.stepRecord ∧
          t.chip.fld .DUO_STATUS_EPOCH 0 = next ∧ SameRegs (.DUO_STATUS_EPOCH :: eventFlds) s t ∧ SamePlane s t ∧
          SameStore s t) ∧
    (c.ticking = true → c.duoState = 1 → c.duoActive = true → c.duo.swapEpoch = none → c.duo.swapDue = false →
      c.duo.e0.isSome = true →
      let x := cutRuns 12288 (c.duo.deferred ++ c.duo.entries)
      let sent (t : State) : Prop := Sent s t (.stepRecord ⟨ep, if x.1 = [] then [.empty ep] else x.1⟩) ∧
        t.chip.fld .DUO_STATUS_EPOCH 0 = next ∧ t.chip.duo.entries = [] ∧ t.chip.duo.deferred = x.2 ∧ SamePlane s t ∧
        SameStore s t
      (c.duo.caught = false → Gives .epochEnd s fun t => sent t ∧ t.chip.duoState = 1) ∧
      (c.duo.caught = true → Gives .epochEnd s fun t =>
        sent t ∧ t.chip.duoState = 2 ∧ t.chip.duoActive = true ∧ t.chip.fld .DUO_STATUS_JOIN_EPOCH 0 = 0 ∧
          t.chip.fld .DUO_CNT_JOINS 0 = satAdd 64 (c.fld .DUO_CNT_JOINS 0) 1 ∧ t.chip.duo.caught = false ∧
          t.chip.duo.unacked = [])) ∧
    (∀ e ns, c.duoState = 2 → c.duo.unacked.contains e = true → Gives (.stepAckRx e ns) s fun t =>
      t.chip.duo.unacked = (c.duo.unacked.filter fun x => x != e) ∧
        t.chip.fld .DUO_ACK_ACK_LAST_NS 0 = min ns (2 ^ 32 - 1) ∧
        t.chip.fld .DUO_ACK_ACK_MAX_NS 0 = max (c.fld .DUO_ACK_ACK_MAX_NS 0) (min ns (2 ^ 32 - 1)) ∧
        SameRegs ([.DUO_ACK_ACK_LAST_NS, .DUO_ACK_ACK_MAX_NS] ++ eventFlds) s t ∧ SamePlane s t ∧
        SameStore s t) ∧
    (∀ e, c.follows = true → c.duoState = 2 → c.link 248 = 3 → Gives (.stepRecordRx ⟨e, [.empty e]⟩) s fun t =>
      Sent s t (.stepAck e) ∧ t.chip.fld .DUO_STATUS_EPOCH 0 = (e + 1) % 2 ^ 48 ∧
        t.chip.is .DUO_STATUS_LINK_UP 0 = true ∧ SamePlane s t ∧ SameStore s t) ∧
    (∀ e h n rx gen anchor, c.follows = true → c.duoState = 2 → c.link 248 = 3 → c.duo.pend = [] →
      let align : Bool := decide ((c.inst h).cfg.mode = modeAlign)
      let rel : Bool := align && anchor == 0
      Gives (.stepRecordRx ⟨e, [.run h n rx gen anchor]⟩) s fun t =>
        t.chip.duo.log = c.duo.log ++ [⟨h, rel, rx, gen, anchor, runNumbers rx n, none⟩] ∧
          ((c.inst h).cfg.gen ≠ 0 → (align = false ∨ rel = true) → (t.chip.inst h).cfg.genNext = (gen + n) % 2 ^ 32) ∧
          (rel = true → (t.chip.inst h).top = (c.inst h).top ∧ (t.chip.inst h).seen = (c.inst h).seen) ∧
          (∀ j, j ≠ h → t.chip.inst j = c.inst j) ∧ t.chip.strm = c.strm ∧ t.chip.plane = c.plane ∧
          ((c.inst h).cfg.inRegion = false → t.mem = s.mem) ∧ t.mram = s.mram ∧ t.pending = s.pending) ∧
    (∀ r, c.duoState = 1 → c.follows = true → c.link 248 = 3 → c.fld .DUO_STATUS_JOIN_EPOCH 0 ≠ 3 →
      Gives (.stepRecordRx r) s fun t =>
        t.chip.duo = { c.duo with queued := c.duo.queued ++ [r] } ∧ SamePlane s t ∧ SameStore s t) ∧
    (∀ x l, c.duo.pend = x :: l → Gives .orphanExpiry s fun t =>
      t.chip.duo = { c.duo with pend := c.duo.pend.filter fun y => decide (x.since < y.since) } ∧
        t.chip.fld .DUO_CNT_ORPHANS 0 = satAdd 64 (c.fld .DUO_CNT_ORPHANS 0)
          (c.duo.pend.length - (c.duo.pend.filter fun y => decide (x.since < y.since)).length) ∧ SamePlane s t ∧
        SameStore s t) ∧
    (∀ x l, c.duo.log = x :: l → Gives .missingExpiry s fun t =>
      t.chip.duo = { c.duo with log := l } ∧
        t.chip.fld .DUO_CNT_MISSING 0 = satAdd 64 (c.fld .DUO_CNT_MISSING 0) x.left.length ∧ SamePlane s t ∧
        SameStore s t) ∧
    (c.duoState = 1 → c.duoActive = true → c.fld .DUO_STATUS_JOIN_EPOCH 0 = 1 → ∀ d, Gives (.configEpochEnd d) s fun t =>
      Sent s t (.duoData 1 (c.duo.e0.getD c.peerData)) ∧ t.chip.fld .DUO_STATUS_JOIN_EPOCH 0 = 2 ∧
        SameRegs (.DUO_STATUS_JOIN_EPOCH :: eventFlds) s t ∧ SamePlane s t ∧ SameStore s t) ∧
    (c.duoState = 1 → c.duoActive = true → c.fld .DUO_STATUS_JOIN_EPOCH 0 = 2 → ∀ d, Gives (.streamEpochEnd d) s fun t =>
      Sent s t (.duoData 2 (c.duo.e0.getD c.peerData)) ∧ t.chip.fld .DUO_STATUS_JOIN_EPOCH 0 = 3 ∧
        t.chip.fld .DUO_JOIN_PROG_PAGES_TOTAL 0 = c.pagesInUse ∧
        SameRegs ([.DUO_STATUS_JOIN_EPOCH, .DUO_JOIN_PROG_PAGES_TOTAL] ++ eventFlds) s t ∧ SamePlane s t ∧ SameStore s t) ∧
    (c.duoState = 1 → c.duoActive = true → c.fld .DUO_STATUS_JOIN_EPOCH 0 = 3 → ∀ l, Gives (.storeCatchupEnd l) s fun t =>
      Sent s t (.duoPages s.storePages) ∧ t.chip.duo = { c.duo with caught := true } ∧ t.chip.duoState = 1 ∧
        t.chip.fld .DUO_JOIN_PROG_PAGES_COPIED 0 = c.fld .DUO_JOIN_PROG_PAGES_TOTAL 0 ∧
        SameRegs (.DUO_JOIN_PROG_PAGES_COPIED :: eventFlds) s t ∧ SamePlane s t ∧ SameStore s t) ∧
    (c.duoState = 1 → c.duoActive = false → c.fld .DUO_STATUS_JOIN_EPOCH 0 = 1 → ∀ d, Gives (.configEpochEnd d) s fun t =>
      t.chip.fld .DUO_STATUS_JOIN_EPOCH 0 = 2 ∧ t.chip.strm.keys = d.strm.keys ∧ t.chip.strm.handles = d.strm.handles ∧
        t.chip.strm.pool = d.strm.pool ∧ t.mram = s.mram ∧ t.pending = s.pending) ∧
    (c.duoState = 1 → c.duoActive = false → c.fld .DUO_STATUS_JOIN_EPOCH 0 = 2 → c.duo.queued = [] →
      ∀ d, Gives (.streamEpochEnd d) s fun t =>
        t.chip.fld .DUO_STATUS_JOIN_EPOCH 0 = 3 ∧ t.chip.fld .DUO_JOIN_PROG_PAGES_TOTAL 0 = t.chip.pagesInUse ∧
          t.chip.stor.cursors = d.stor.cursors ∧ t.chip.brkw.inst = d.brkw.inst ∧ t.chip.strm.meterQ = d.strm.meterQ ∧
          t.chip.strm.keys = c.strm.keys ∧ t.chip.dma = c.dma ∧ SameStore s t) ∧
    (c.duoState = 1 → c.duoActive = false → c.fld .DUO_STATUS_JOIN_EPOCH 0 = 3 → ∀ a b, c.stackBad (stackOf a) = false →
      Gives (.storeCatchupEnd [(a, b)]) s fun t =>
        t.mem = memWrite s.mem a b ∧ t.chip.fld .DUO_JOIN_PROG_PAGES_COPIED 0 = 1 ∧ t.chip.duo = { c.duo with caught := true } ∧
          t.chip.duoState = 1 ∧ t.mram = s.mram ∧ t.pending = s.pending)

/-! ### The fault collector and the Saffron record (R345-R369) -/

/-- The fault collector (R345-R360, R369): reports and their batch, the message and the counters that a batch leaves, the
fault state it enters; pairs; recovery at the end of the quiet period, or a latch; Fened's beat and its stall; the ALIVE
pin; the first cause cleared. -/
def Obligations.FaultCollector : Prop :=
  ∀ s : State, s.aonUp →
    let c := s.chip
    let n := c.fld .FLT_LOG_WR_WR 0
    let same (t : State) : Prop := t.chip.strm = c.strm ∧ t.chip.plane = c.plane ∧ t.chip.brkw = c.brkw ∧
      t.chip.dma = c.dma ∧ SameStore s t
    let recovered (ms : Nat) (t : State) : Prop := t.chip.fld .FLT_STATUS_STATE 0 = 0 ∧
      t.chip.fld .FLT_RECOVERIES_TOTAL 0 = satAdd 32 (c.fld .FLT_RECOVERIES_TOTAL 0) 1 ∧ t.chip.flt.aliveFatal = false ∧
      t.chip.flt.history = (ms :: c.flt.history).take 1000 ∧ t.chip.flt.pairs = [] ∧ same t
    let within (ms : Nat) : Nat := (c.flt.history.filter fun x => decide (ms < x + 1000 * c.fld .FLT_CFG_WINDOW_S 0)).length
    (∀ r : Report, kindListed r.kind = true → Gives (.faultReport r) s fun t =>
      t.chip.flt = { c.flt with batchOpen := true, batch := c.flt.batch ++ [{ r with injected := r.injected && c.is .DBG_STATUS_FTEST 0 }] } ∧
        (r.kind = 0x50C → t.chip.is .FLT_STATUS_STALL_SEEN 0 = true ∧ SameRegs [.FLT_STATUS_STALL_SEEN] s t) ∧
        (r.kind ≠ 0x50C → t.chip.regs = c.regs) ∧ SamePlane s t ∧ SameStore s t) ∧
    (∀ r : Report, kindListed r.kind = false → Gives (.faultReport r) s fun t => t = s) ∧
    (∀ r, c.flt.batch = [r] → c.flt.batchOpen = true → c.pairOf r = none → c.flt.pairs.length < 256 →
      c.duoState = 0 → c.duo.lossAt = none → Gives .faultBatchClose s fun t =>
        let m : Msg := ⟨r.source, r.kind, kindClass r.kind, true, r.injected, 0, c.flt.nextBatch, r.addr⟩
        t.chip.message n = some m ∧ t.chip.fld .FLT_LOG_WR_WR 0 = (n + 1) % 2 ^ 32 ∧ t.chip.flt.batch = [] ∧
          t.chip.flt.pairs = c.flt.pairs ++ [⟨r.source, r.kind, kindClass r.kind, n, 0⟩] ∧
          t.chip.fld .FLT_CNT_BATCHES 0 = satAdd 64 (c.fld .FLT_CNT_BATCHES 0) 1 ∧
          t.chip.fld .FLT_STATUS_BATCH 0 = c.flt.nextBatch ∧
          t.chip.fld (classCnt (kindClass r.kind)) 0 = satAdd 64 (c.fld (classCnt (kindClass r.kind)) 0) 1 ∧
          t.chip.is (classSeen (kindClass r.kind)) 0 = true ∧
          (kindEnters r.kind = false → t.chip.fld .FLT_STATUS_STATE 0 = c.fld .FLT_STATUS_STATE 0) ∧
          (kindEnters r.kind = true → c.fld .FLT_STATUS_STATE 0 = 0 →
            t.chip.fld .FLT_STATUS_STATE 0 = 1 ∧ t.chip.flt.quiet = true ∧ t.chip.is .FLT_PINS_ERR_P 0 = false ∧
              t.chip.is .FLT_PINS_ERR_N 0 = true) ∧
          (kindEnters r.kind = true → c.fld .FLT_FIRST_CAUSE_CAUSE 0 = 0 →
            t.chip.fld .FLT_FIRST_CAUSE_CAUSE 0 = m.word % 2 ^ 64 ∧
              t.chip.fld .FLT_FIRST_TIME_TIME 0 = packTime c.now % 2 ^ 64) ∧
          (kindClass r.kind = 2 → t.chip.flt.aliveFatal = true) ∧ same t) ∧
    (∀ r, c.flt.batch = [r, r] → c.flt.batchOpen = true → c.pairOf r = none → c.flt.pairs.length < 256 → c.flt.pairs = [] →
      c.duoState = 0 → c.duo.lossAt = none → Gives .faultBatchClose s fun t =>
        t.chip.message n = some ⟨r.source, r.kind, kindClass r.kind, true, r.injected, 1, c.flt.nextBatch, r.addr⟩ ∧
          t.chip.fld .FLT_LOG_WR_WR 0 = (n + 1) % 2 ^ 32 ∧
          t.chip.flt.pairs = [⟨r.source, r.kind, kindClass r.kind, n, 1⟩] ∧ same t) ∧
    (∀ source kind, ∀ p, (c.flt.pairs.find? fun p => p.source == source && p.kind == kind) = some p →
      Gives (.pairClose source kind) s fun t =>
        t.chip.flt.pairs = (c.flt.pairs.filter fun x => x != p) ∧ (p.rep = 0 → t.chip.flt.queue = c.flt.queue) ∧
          (p.rep ≠ 0 → c.flt.queue.length < 224 → ∃ r, t.chip.flt.queue = c.flt.queue ++ [r] ∧ r.sect = 1 ∧ r.typ = 2 ∧
            r.payload = toLE 2 p.source ++ toLE 2 p.kind ++ toLE 2 p.rep) ∧
          SameRegs [.SAFF_CNT_LOST] s t ∧ SamePlane s t ∧ SameStore s t) ∧
    (∀ ms, c.fld .FLT_STATUS_STATE 0 = 1 → c.flt.quiet = true → c.flt.batchOpen = false → c.fatalLive = false →
      c.duo.window = false →
      (within ms < c.fld .FLT_CFG_LIMIT 0 → Gives (.quietPeriodExpiry ms) s (recovered ms)) ∧
      (c.fld .FLT_CFG_LIMIT 0 ≤ within ms → Gives (.quietPeriodExpiry ms) s fun t =>
        t.chip.fld .FLT_STATUS_STATE 0 = 2 ∧ t.chip.fld .FLT_RECOVERIES_TOTAL 0 = c.fld .FLT_RECOVERIES_TOTAL 0 ∧
          t.chip.flt.pairs = [] ∧ same t)) ∧
    (∀ ms, c.fld .FLT_STATUS_STATE 0 = 1 → c.flt.quiet = true → c.fatalLive = true →
      Gives (.quietPeriodExpiry ms) s fun t =>
        t.chip.flt.quiet = false ∧ t.chip.flt.due = true ∧ SameRegs eventFlds s t ∧ same t) ∧
    (∀ ms, c.fld .FLT_STATUS_STATE 0 = 1 → c.flt.due = true → c.flt.quiet = false → c.flt.batchOpen = false →
      c.fatalLive = false → c.duo.window = false → within ms < c.fld .FLT_CFG_LIMIT 0 → Gives (.fatalConditionClear ms) s (recovered ms)) ∧
    (c.flt.aliveStall = false → c.mbx.act = none → c.frozen = false → c.duoState = 0 → c.duo.lossAt = none →
      Gives .fenedStall s fun t =>
        t.chip.flt.aliveStall = true ∧ t.chip.mbx.stalled = true ∧ t.chip.is .FLT_STATUS_STALL_SEEN 0 = true ∧
          ⟨0xB001, 0x50C, 0, false⟩ ∈ t.chip.flt.batch ∧ same t) ∧
    (c.frozen = false → c.beats = true → c.duo.asked = none → c.duo.window = false → Gives .fenedHeartbeat s fun t =>
      t.chip.flt.aliveStall = false ∧ t.chip.mbx.stalled = false ∧ SamePlane s t ∧ SameStore s t) ∧
    (c.aliveRuns = true → Gives .aliveEdge s fun t =>
      t.chip.is .FLT_PINS_ALIVE 0 = !c.is .FLT_PINS_ALIVE 0 ∧ t.chip.out = c.out ++ [.alive (!c.is .FLT_PINS_ALIVE 0)] ∧
        SameRegs [.FLT_PINS_ALIVE] s t ∧ SamePlane s t ∧ SameStore s t) ∧
    (c.aliveRuns = false → Gives .aliveEdge s fun t => t = s) ∧
    (∀ src data, c.reaches src .FLT = true → Gives (.fltCmdClearFirst src data) s fun t =>
      t.chip.fld .FLT_FIRST_CAUSE_CAUSE 0 = 0 ∧ t.chip.fld .FLT_FIRST_CAUSE_HI_CAUSE_HI 0 = 0 ∧
        t.chip.fld .FLT_FIRST_TIME_TIME 0 = 0 ∧ t.chip.fld .FLT_FIRST_TIME_HI_TIME_HI 0 = 0 ∧
        SameRegs [.FLT_FIRST_CAUSE_CAUSE, .FLT_FIRST_CAUSE_HI_CAUSE_HI, .FLT_FIRST_TIME_TIME,
          .FLT_FIRST_TIME_HI_TIME_HI] s t ∧ SamePlane s t ∧ SameStore s t)

/-- The Saffron record (R361-R366, R369): the oldest record of the queue is written in its section's ring under the next
SEQ, or in the next permanent place, and its section's head goes to one of the two copies of the directory; a place that reads
back wrong is skipped, counted and reported, however many do, and the record that tells of it passes the places known to fail;
what a started read finds; an hour of powered time. -/
def Obligations.SaffronRecord : Prop :=
  ∀ s : State, s.aonUp →
    let c := s.chip
    (∀ r l, c.flt.queue = r :: l → (r.sect ≠ 5 ∨ r.typ ≠ 2) → r.sect < 6 → s.mram.sects.length = 6 →
      let m := if r.tellsFail then s.mram.skipFailing r.sect else s.mram
      let at_ := sectPlace r.sect + (m.sect r.sect).place
      (Gives (.saffRecordWrite 0) s fun t =>
        (s.mram.dir.length = 6 → (t.mram.dir.getD r.sect (none, none)).1 = some (t.mram.sect r.sect) ∨
          (t.mram.dir.getD r.sect (none, none)).2 = some (t.mram.sect r.sect)) ∧
        kFind t.mram.recs at_ = some (r.bytes (m.sect r.sect).nextSeq) ∧
          (∀ p, p ≠ at_ → kFind t.mram.recs p = kFind m.recs p) ∧
          (t.mram.sect r.sect).nextSeq = ((m.sect r.sect).nextSeq + 1) % 2 ^ 32 ∧
          (t.mram.sect r.sect).place = ((m.sect r.sect).place + 1) % sectCap r.sect ∧
          (∀ k, k ≠ r.sect → t.mram.sect k = m.sect k) ∧ t.mram.permanent = m.permanent ∧
          t.chip.flt.queue = l ∧ t.chip.fld .SAFF_CNT_WRITES 0 = satAdd 64 (c.fld .SAFF_CNT_WRITES 0) 1 ∧
          SameRegs [.SAFF_CNT_WRITES] s t ∧ SamePlane s t ∧ t.mem = s.mem ∧ t.pending = s.pending) ∧
      (∀ k, 0 < k → k < sectCap r.sect → r.tellsFail = false → (m.sect r.sect).place < sectCap r.sect →
        let nth (j : Nat) : Nat := sectPlace r.sect + ((m.sect r.sect).place + j) % sectCap r.sect
        Gives (.saffRecordWrite k) s fun t =>
        (∀ j, j < k → nth j ∈ t.mram.bad) ∧ kFind t.mram.recs (nth k) = some (r.bytes (m.sect r.sect).nextSeq) ∧
          t.chip.fld .SAFF_CNT_WRITE_FAILS 0 = satAdd 64 (c.fld .SAFF_CNT_WRITE_FAILS 0) k ∧
          t.chip.flt.batch = c.flt.batch ++ ((List.range k).map fun j => ⟨0xD001, 0x701, 64 * nth j, false⟩) ∧
          t.chip.flt.queue = l ∧
          SameRegs [.SAFF_CNT_WRITES, .SAFF_CNT_WRITE_FAILS] s t ∧ SamePlane s t ∧ t.mem = s.mem ∧
          t.pending = s.pending)) ∧
    (∀ r l, c.flt.queue = r :: l → r.sect = 5 → r.typ = 2 → s.mram.permanent < 256 → Gives (.saffRecordWrite 0) s fun t =>
      kFind t.mram.recs (permPlace + s.mram.permanent) = some (r.bytes (s.mram.sect 5).nextSeq) ∧
        t.mram.permanent = s.mram.permanent + 1 ∧ t.chip.flt.queue = l ∧ SameRegs [.SAFF_CNT_WRITES] s t ∧
        SamePlane s t ∧ t.mem = s.mem ∧ t.pending = s.pending) ∧
    (∀ src data, c.reaches src .SAFF = true → bits data 50 48 ≤ 5 → Gives (.saffReadCtrlStart src data) s fun t =>
      let r := s.mram.find (bits data 50 48) (bits data 31 0)
      t.chip.is .SAFF_READ_CTRL_FOUND 0 = r.isSome ∧
        (∀ i, i < 8 → t.chip.fld .SAFF_DATA_DATA i = leNat (slice (r.getD []) (8 * i) 8)) ∧
        t.chip.fld .SAFF_READ_CTRL_SECTION 0 = bits data 50 48 ∧ t.chip.fld .SAFF_READ_CTRL_SEQ 0 = bits data 31 0 ∧
        SameRegs [.SAFF_READ_CTRL_FOUND, .SAFF_DATA_DATA, .SAFF_READ_CTRL_SECTION, .SAFF_READ_CTRL_SEQ] s t ∧
        SamePlane s t ∧ SameStore s t) ∧
    (∀ src data, c.reaches src .SAFF = true → 5 < bits data 50 48 → Gives (.saffReadCtrlStart src data) s fun t =>
      t.chip.flt.batch = c.flt.batch ++ [⟨0xD001, 0x703, 0x48080, false⟩] ∧ t.chip.regs = c.regs ∧ SamePlane s t ∧
        SameStore s t) ∧
    (c.flt.queue.length < 256 → c.flt.life.length = 11 → Gives .lifetimeSnapshot s fun t =>
      t.chip.flt.life.getD 0 0 = c.flt.life.getD 0 0 + 1 ∧
        (∃ r, t.chip.flt.queue = c.flt.queue ++ [r] ∧ r.sect = 5 ∧ r.typ = 1 ∧ r.payload = lifeBytes t.chip.flt.life) ∧
        t.chip.regs = c.regs ∧ SamePlane s t ∧ SameStore s t)

/-! ### The mailbox (R299-R332) -/

/-- The slots of the mailbox (R299-R301, R303, R306, R388). A write of MBX_DOORBELL judges every bit against the states
before it: POST of a FREE slot posts it behind those that wait, in ascending order of the slots, RELEASE of a DONE slot
frees it, every other bit is dropped, counted in SLOT_VIOL and reported. Acceptance takes the slot that waits longest: an
opcode that no command has answers UNSUPPORTED; IDENTIFY answers; a DUO_JOIN that its peer has not answered by then fails.
A request sent while others wait, or while nothing takes commands, is posted and waits; one for a slot that is not FREE is
dropped; nothing happens when the host cannot reach the device. -/
def Obligations.MailboxSlots : Prop :=
  (∀ s : State, s.up → s.chip.mbx.slots.length = 8 → ∀ src data, s.chip.admits src .MBX →
    ∀ i ∈ [Instr.mbxPost src data, .mbxRelease src data], Gives i s fun t =>
      let posts (k : Nat) : Bool := data.testBit k && (s.chip.slot k).st == 0
      let frees (k : Nat) : Bool := data.testBit (8 + k) && (s.chip.slot k).st == 3
      let bad : Nat := ((List.range 8).map fun k =>
        bit (data.testBit k && !posts k) + bit (data.testBit (8 + k) && !frees k)).sum
      (∀ k, k < 8 → t.chip.slot k =
        ⟨if posts k = true then 1 else if frees k = true then 0 else (s.chip.slot k).st, (s.chip.slot k).buf⟩) ∧
      t.chip.mbx.order = s.chip.mbx.order ++ (List.range 8).filter posts ∧
      t.chip.fld .MBX_CNT_SLOT_VIOL 0 = satAdd 64 (s.chip.fld .MBX_CNT_SLOT_VIOL 0) bad ∧
      t.chip.flt.batch = s.chip.flt.batch ++ List.replicate bad ⟨0xB000, 0x508, 0x10018, false⟩ ∧
      SameRegs (.MBX_CNT_SLOT_VIOL :: eventFlds) s t ∧ Kept [.flt] s t) ∧
  (∀ s : State, s.chip.duo.asked = none → (s.chip.serving = false ∨ s.chip.mbx.order = []) → Gives .mbxAccept s fun t =>
    (∀ k, t.chip.slot k = s.chip.slot k) ∧ t.chip.mbx.order = s.chip.mbx.order ∧ SameRegs eventFlds s t ∧ Kept [] s t) ∧
  (∀ s : State, ∀ i l, s.chip.mbx.order = i :: l → ¬ i ∈ l → s.chip.serving = true → s.chip.mbx.fened = .up →
    s.chip.mbx.slots.length = 8 → i < 8 → s.chip.duo.asked = none → s.chip.dbg.latchMbx = false →
    (∀ op, findCmd op = none → ∀ r : Req, r.slot = i → r.wf = true → r.timed = false → r.lateOk = false → op < 2 ^ 16 →
      (s.chip.slot i).buf = reqBytes r op → Gives .mbxAccept s fun t => Denied s r 9 0 t ∧ t.chip.mbx.order = l) ∧
    (∀ r : Req, r.slot = i → r.wf = true → r.timed = false → r.lateOk = false → r.params = [] →
      (s.chip.slot i).buf = reqBytes r 1 → Gives .mbxAccept s fun t =>
        Told s r ((cmdIdentify.body [] s).data) t ∧ t.chip.mbx.order = l)) ∧
  (∀ s : State, ∀ i, s.chip.duo.asked = some i → (s.chip.slot i).st = 2 → i < 8 → s.chip.mbx.slots.length = 8 →
    s.chip.mbx.order = [] → Gives .mbxAccept s fun t =>
      (t.chip.slot i).st = 3 ∧ pn (t.chip.slot i).buf 2 1 = rNotFound ∧ t.chip.duo.asked = none ∧
        (∀ k, k ≠ i → t.chip.slot k = s.chip.slot k) ∧ SameRegs (.MBX_CNT_REJECTED :: eventFlds) s t ∧ Kept [.duo] s t) ∧
  (∀ i k r, rowOf i = some (k, r) → ∀ s : State, s.chip.mbx.slots.length = 8 → r.slot < 8 →
    (s.chip.hostServed = false → Gives i s fun t =>
      (∀ j, t.chip.slot j = s.chip.slot j) ∧ SameRegs eventFlds s t ∧ Kept [] s t) ∧
    (s.chip.hostServed = true → (s.chip.slot r.slot).st = 0 → (s.chip.slot r.slot).buf.length ≤ 4096 →
      s.chip.duo.asked = none → (∃ j l, s.chip.mbx.order = j :: l ∧ j ≠ r.slot) ∨ (s.chip.mbx.order = [] ∧ s.chip.serving = false) →
      Gives i s fun t => (t.chip.slot r.slot).st = 1 ∧ (t.chip.slot r.slot).buf.take (reqBytes r k.op).length = reqBytes r k.op ∧
        t.chip.mbx.order = s.chip.mbx.order ++ [r.slot] ∧ (∀ j, j ≠ r.slot → t.chip.slot j = s.chip.slot j) ∧
        SameRegs eventFlds s t ∧ Kept [] s t) ∧
    (s.chip.hostServed = true → (s.chip.slot r.slot).st ≠ 0 → s.chip.mbx.order.head? ≠ some r.slot → Gives i s fun t =>
      (∀ j, t.chip.slot j = s.chip.slot j) ∧ t.chip.mbx.order = s.chip.mbx.order ∧
        SameRegs (.MBX_CNT_SLOT_VIOL :: eventFlds) s t ∧ Kept [.flt] s t))

/-- The checks of a request in their order, for every command (R303, R306, R307, R315, R318, R321, R327, R332): the first
that fails gives status and DETAIL, and nothing else of the device changes. -/
def Obligations.CommandChecks : Prop :=
  ∀ i k r, rowOf i = some (k, r) → ∀ s : State, s.idleFor r →
    let no (status detail : Nat) : Prop := Gives i s (Denied s r status detail)
    let major : Prop := k.op = 1 ∨ r.filMajor = s.chip.filNow / 256
    (r.lateOk = true → r.timed = false → no rParam (2 ^ 63 + 4)) ∧
    (r.timed = true → k.timed = false → no rParam (2 ^ 63 + 4)) ∧
    (r.timed = true → k.timed = true → timeOk r.execTime = false → no rParam (2 ^ 63 + 0x10)) ∧
    (r.timed = false → r.lateOk = false →
      (¬ major → no 9 0) ∧
      (major → layBeyond (k.lay r.params) r.params = true → no 9 0) ∧
      (major → layBeyond (k.lay r.params) r.params = false →
        (k.accepted.contains s.chip.fenedState = false → no 10 0) ∧
        (k.accepted.contains s.chip.fenedState = true →
          (∀ f, s.chip.invalidFn (k.acts s.chip r.params) = some f → no 10 f) ∧
          (s.chip.invalidFn (k.acts s.chip r.params) = none →
            (∀ d, k.bar r.params s = some d → no 10 d) ∧
            (k.bar r.params s = none →
              (k.decision = true → s.chip.duoActive = false → no 10 9) ∧
              ((k.decision = true → s.chip.duoActive = true) →
                (∀ f, s.chip.claimedFn (k.writes s.chip r.params) = some f → no 11 f) ∧
                (s.chip.claimedFn (k.writes s.chip r.params) = none → ∀ o, layBad (k.lay r.params) r.params = some o → no rParam o)))))))

/-- Timed commands (R308-R310) and activation (R325). A command that may be timed waits under a handle of its own until its
time, which is after now and at most 86,400 s off; TIMED_EXECUTE carries out the earliest once its time is reached, here a
TIME_SRC_SET, which a claim on TIME stops; in either case it no longer waits. The boot ROM loads the image that an
activation asked for; Fened takes over from it; if it does not within the grace, ALIVE stops, the stall is reported, and
the image that ran before is started again, or none is left. -/
def Obligations.TimedAndActivation : Prop :=
  (∀ i k r, rowOf i = some (k, r) → k.timed = true → ∀ s : State, s.idleFor r → r.timed = true → timeOk r.execTime = true →
    r.filMajor = s.chip.filNow / 256 → k.fits r.params → s.admits k r →
    let dry := k.body r.params (s.taken k r)
    let at_ := unpackTime r.execTime
    (dry.status = rParam ∨ dry.status = rNotFound → Gives i s (Denied s r dry.status dry.detail)) ∧
    (dry.status ≠ rParam → dry.status ≠ rNotFound →
      (at_ ≤ s.chip.now → r.lateOk = false → Gives i s (Denied s r rTimePassed 0)) ∧
      (s.chip.now + 86400 * secT < at_ → Gives i s (Denied s r rParam (2 ^ 63 + 0x10))) ∧
      (s.chip.now < at_ → at_ ≤ s.chip.now + 86400 * secT → 256 ≤ s.chip.mbx.timed.length →
        Gives i s (Denied s r rNoResource 0)) ∧
      (s.chip.now < at_ → at_ ≤ s.chip.now + 86400 * secT → s.chip.mbx.timed.length < 256 → Gives i s fun t =>
        let n := pn (t.chip.slot r.slot).buf 16 8
        n < 65536 ∧ (∀ x ∈ s.chip.mbx.timed, x.handle ≠ n) ∧ Answered r 0 n [] t ∧
          t.chip.mbx.timed = s.chip.mbx.timed ++ [⟨n, k.op, at_, r.params⟩] ∧ Counted s r t ∧ SameRegs mbxFlds s t ∧
          Kept [.mbx] s t))) ∧
  (∀ s : State, s.up →
    (s.chip.timedOrder = [] → Gives .timedExecute s fun t => SameRegs eventFlds s t ∧ Kept [] s t) ∧
    (∀ t0 l, s.chip.timedOrder = t0 :: l → (s.chip.ticking = false ∨ s.chip.reached t0.at_ = false) →
      Gives .timedExecute s fun t => SameRegs eventFlds s t ∧ Kept [] s t) ∧
    (∀ t0 l, s.chip.timedOrder = t0 :: l → s.chip.ticking = true → s.chip.reached t0.at_ = true → s.chip.fenedRuns = true →
      t0.opcode = 0x4005 → t0.params.length = 3 → pn t0.params 0 1 ≤ 8 → pn t0.params 1 1 ≤ 1 → pn t0.params 2 1 ≤ 15 →
      cmdTimeSrcSet.accepted.contains s.chip.fenedState = true → s.chip.bitF .MBX_CLAIM_INVALID 0 1 = false →
      Gives .timedExecute s fun t =>
        t.chip.mbx.timed = (s.chip.mbx.timed.filter fun x => x.handle != t0.handle) ∧
        (s.chip.claimed 1 = false → t.chip.fld .TIME_SRC_ENABLE (pn t0.params 0 1) = pn t0.params 1 1 ∧
          t.chip.fld .TIME_SRC_PRIORITY (pn t0.params 0 1) = pn t0.params 2 1) ∧
        (s.chip.claimed 1 = true → SameRegs eventFlds s t) ∧
        SameRegs ([.TIME_SRC_ENABLE, .TIME_SRC_PRIORITY] ++ eventFlds) s t ∧ Kept [.mbx] s t)) ∧
  (∀ s : State, s.up → s.chip.frozen = false → ∀ a, s.chip.mbx.act = some a →
    let x := s.chip.fwSlot a.slot
    (a.loaded = false → s.chip.slotReason x = 0 → s.chip.requested 40 = true → Gives (.activationLoadDone true) s fun t =>
      t.chip.mbx.act = some { a with loaded := true } ∧ t.chip.fld .MBX_STATUS_SLOT 0 = a.slot ∧
        t.chip.fld .MBX_FW_VER_VERSION 0 = x.version ∧
        SameRegs ([.MBX_STATUS_SLOT, .MBX_FW_VER_VERSION, .PWR_MILESTONE_US] ++ eventFlds) s t ∧ Kept [.mbx] s t) ∧
    (a.loaded = false → a.fellBack = false → s.chip.slotReason x ≠ 0 → ∀ ok, Gives (.activationLoadDone ok) s fun t =>
      t.chip.mbx.act = some a ∧ SameRegs eventFlds s t ∧ Kept [.mbx] s t) ∧
    (a.loaded = true → Gives .fenedTakeover s fun t =>
      t.chip.mbx.act = none ∧ t.chip.mbx.fened = .up ∧ t.chip.mbx.stalled = false ∧ t.chip.flt.aliveStall = false ∧
        Kept [.mbx, .flt, .pwr, .core, .host, .strm] s t) ∧
    (a.loaded = false → Gives .fenedTakeover s fun t => SameRegs eventFlds s t ∧ Kept [] s t) ∧
    (a.fellBack = false → s.chip.duoState = 0 → s.chip.duo.lossAt = none → Gives .activationGraceExpiry s fun t =>
      t.chip.flt.aliveStall = true ∧ t.chip.is .FLT_STATUS_STALL_SEEN 0 = true ∧
        ⟨0xB001, 0x50C, 0, false⟩ ∈ t.chip.flt.batch ∧
        (a.previous = 2 → t.chip.mbx.act = none ∧ t.chip.mbx.fened = .restricted) ∧
        (a.previous ≠ 2 → t.chip.mbx.act = some ⟨a.previous, a.slot, false, true⟩ ∧ t.chip.mbx.fened = s.chip.mbx.fened) ∧
        Kept [.mbx, .flt, .host] s t) ∧
    (a.fellBack = true → Gives .activationGraceExpiry s fun t => SameRegs eventFlds s t ∧ Kept [] s t))

/-- The stream store stays in its canonical form at every step, from every state that has it. -/
def Obligations.StoreStaysCanonical : Prop :=
  ∀ s t : State, s.safe → step s = .next t → t.safe

/-- The permanent records of the Saffron record (R366) are never overwritten or cleared, whatever command a step carries
out, and the rings stay within their sections (R361, R363). -/
def Obligations.PermanentRecordsStay : Prop :=
  ∀ s t : State, step s = .next t → s.mram.fits → t.mram.fits ∧ s.mram.keeps t.mram

/-! ### The commands of the mailbox (R333-R344) -/

/-- The queries (R333, R335-R344): each answers OK with the data its table lists, as the device stands, and changes
nothing but what every command changes. -/
def Obligations.QueriesTell : Prop :=
  ∀ s : State,
    let c := s.chip
    let q (k : Cmd) (i : Req → Instr) (ok : Bytes → Prop) (data : Bytes → Bytes) : Prop :=
      ∀ r, s.takes k r → ok r.params → Gives (i r) s (Told s r (data r.params))
    let any : Bytes → Prop := fun _ => True
    let up : Nat := c.fld .MBX_STATUS_SLOT 0
    q cmdIdentify .identify any (fun _ => layOut 64 [(0, 2, 0x1DA7), (2, 2, if c.ident.half then 0x2560 else 0x5120),
      (4, 1, 0xB0), (5, 1, up), (6, 2, c.filNow), (8, 8, c.ident.serial), (16, 8, c.fld .MBX_FW_VER_VERSION 0),
      (24, 4, c.populatedMap), (28, 2, c.ident.secMin), (30, 1, c.fld .DUO_STATUS_RANK 0)]) ∧
    q cmdGetState .getState any (fun _ => layOut 40 [(0, 1, c.fenedState), (1, 1, c.duoState),
      (2, 1, c.fld .DUO_STATUS_ROLE 0), (3, 1, c.fld .TIME_STATUS_SERVO_STATE 0),
      (4, 4, c.fld .TIME_STATUS_VALID 0 + 2 * c.fld .TIME_STATUS_SUSPECT 0 + 4 * c.fld .MBX_STATUS_FALLBACK 0 +
        8 * bit (decide (c.fld .FLT_STATUS_STATE 0 ≠ 0))), (8, 4, c.fld .FLT_RECOVERIES_TOTAL 0), (12, 2, c.mbx.timed.length),
      (14, 2, c.fld .MBX_CLAIM_CLAIMED 0), (16, 2, c.fld .MBX_CLAIM_INVALID 0), (24, 16, packTime c.now)]) ∧
    q cmdListTimed .listTimed any (fun p => (let l := (c.timedOrder.drop (pn p 0 2)).take 128
      toLE 2 l.length ++ toLE 2 c.mbx.timed.length ++ toLE 4 0 ++
        l.flatMap fun t => toLE 2 t.handle ++ toLE 2 t.opcode ++ toLE 4 0 ++ toLE 16 (packTime t.at_))) ∧
    q cmdFwQuery .fwQuery any (fun _ => toLE 2 up ++ toLE 2 c.ident.secMin ++ toLE 4 0 ++ c.mbx.fwA.shown ++ c.mbx.fwB.shown) ∧
    q cmdSaffInfo .saffInfo any (fun _ => ((List.range 5).flatMap fun k => toLE 4 (s.showF .SAFF_SECT_CAPACITY k) ++
      toLE 4 (s.mram.kept k) ++ toLE 4 (s.mram.newest k) ++ toLE 4 0) ++
        (toLE 4 (s.showF .SAFF_SECT_CAPACITY 5) ++ toLE 4 (s.mram.kept 5) ++ toLE 4 (s.mram.newest 5))) ∧
    q cmdSaffRead .saffRead (fun p => pn p 0 1 ≤ 5 ∧ 1 ≤ pn p 8 1 ∧ pn p 8 1 ≤ 63) (fun p =>
      (let x := s.mram.readAt (pn p 0 1) (pn p 4 4) (pn p 8 1)
       toLE 4 x.1 ++ toLE 4 x.2.length ++ x.2.flatten)) ∧
    q cmdTimeGet .timeGet any (fun _ => layOut 48 [(0, 16, packTime c.now), (16, 4, s.reg .TIME .TIME_STATUS 0),
      (24, 8, s.reg .TIME .TIME_EVT_CNT 0), (32, 8, s.reg .TIME .TIME_VOTE_CNT 0), (40, 8, s.reg .TIME .TIME_INCR 0)]) ∧
    q cmdTimeSrcGet .timeSrcGet (fun p => pn p 0 1 ≤ 8) (fun p => layOut 32 [(0, 8, s.reg .TIME .TIME_SRC_00 (pn p 0 1)),
      (8, 8, s.reg .TIME .TIME_SRC_08 (pn p 0 1)), (16, 8, s.reg .TIME .TIME_SRC_10 (pn p 0 1)),
      (24, 8, s.reg .TIME .TIME_SRC_18 (pn p 0 1))]) ∧
    (∀ r, s.takes cmdPtpInstGet r → ∀ x, kFind c.time.inst (pn r.params 0 1) = some x → pn r.params 0 1 < 8 →
      Gives (.ptpInstGet r) s (Told s r (x.cfg ++ toLE 8 x.gmId ++ toLE 2 x.stepsRemoved ++ toLE 1 x.slavePort ++
        toLE 1 x.gmClass ++ toLE 4 0 ++
        (List.range 256).flatMap fun k => toLE 1 (if (portsOf x.cfg).contains k then x.stateOf k else 0xFF)))) ∧
    q cmdPortGet .portGet (fun p => c.portValid (pn p 0 1) = true) (fun p => s.regBytes .PORT
      ([.PORT_STATUS, .PORT_MM_STATUS, .PORT_CFG, .PORT_FEC_CFG, .PORT_MM_CFG] ++ portCnts) (pn p 0 1)) ∧
    q cmdPortGroupGet .portGroupGet (fun p => c.populated (pn p 0 1) = true) (fun p =>
      s.regBytes .PORT [.PORT_GRP_CFG, .PORT_LASER_CFG, .PORT_GRP_STATUS, .PORT_GRP_CNT] (pn p 0 1) ++
        (List.range 8).flatMap fun l => toLE 8 (s.reg .PORT .PORT_LANE_00 (8 * pn p 0 1 + l)) ++
          toLE 8 (s.reg .PORT .PORT_LANE_08 (8 * pn p 0 1 + l))) ∧
    (∀ r, s.takes cmdKeyLookup r → c.keyPortBad (pn r.params 0 56) = false → ∀ h, c.findKey (c.normKey (keyOf (pn r.params 0 56))) = some h →
      Gives (.keyLookup r) s (Told s r (toLE 4 h))) ∧
    q cmdStreamGet .streamGet (fun p => pn p 0 4 < 65536 ∧ (c.handle (pn p 0 4)).valid = true ∧
      (pn p 4 1 ≤ 3 ∨ pn p 4 1 = 0xFF)) (fun p => toLE 32 (c.handleRec (pn p 0 4)) ++
        toLE 64 (c.cntRec (pn p 0 4) (if pn p 4 1 = 0xFF then none else some (pn p 4 1))) ++
          (c.egress (pn p 0 4)).flatMap fun w => toLE 4 w) ∧
    q cmdStrmUsageGet .strmUsageGet any (fun _ => toLE 8 (s.reg .STRM .STRM_USAGE 0)) ∧
    q cmdPortStrmCntGet .portStrmCntGet (fun p => c.portValid (pn p 0 1) = true) (fun p => s.regBytes .STRM
      [.STRM_PORT_CNT_00, .STRM_PORT_CNT_08, .STRM_PORT_CNT_10, .STRM_PORT_CNT_18, .STRM_PORT_CNT_20] (pn p 0 1)) ∧
    q cmdBerthGet .berthGet any (fun p => (let b := pn p 0 2
      let cfg := s.reg .SCHD .SCHD_BERTH_CFG b
      let sh := s.reg .SCHD .SCHD_BERTH_SHAPER b
      toLE 8 (c.activeCfg b cfg) ++ toLE 8 (c.activeShaper b sh) ++ toLE 8 cfg ++ toLE 8 sh ++
        s.regBytes .SCHD [.SCHD_BERTH_STATE, .SCHD_BERTH_CNT] b)) ∧
    q cmdTideGet .tideGet (fun p => c.portValid (pn p 0 1) = true) (fun p => (let k := pn p 0 1
      let t (lo hi : Reg) : Bytes := toLE 16 (s.reg .TIDE lo k + s.reg .TIDE hi k * 2 ^ 64)
      s.regBytes .TIDE [.TIDE_STATUS, .TIDE_CTRL, .TIDE_PORT_CFG] k ++ t .TIDE_ADMIN_BASE .TIDE_ADMIN_BASE_HI ++
        s.regBytes .TIDE [.TIDE_ADMIN_CYCLE] k ++ t .TIDE_PEND_START .TIDE_PEND_START_HI ++
        t .TIDE_OPER_BASE .TIDE_OPER_BASE_HI ++ s.regBytes .TIDE [.TIDE_OPER_CYCLE] k ++
        t .TIDE_OPER_SWITCH .TIDE_OPER_SWITCH_HI ++
        s.regBytes .TIDE [.TIDE_CNT_00, .TIDE_CNT_08, .TIDE_CNT_10, .TIDE_CNT_18, .TIDE_CNT_20, .TIDE_CNT_28] k)) ∧
    q cmdTideRead .tideRead (fun p => c.portValid (pn p 0 1) = true ∧ pn p 1 1 ≤ 1 ∧ 1 ≤ pn p 4 2 ∧ pn p 4 2 ≤ 500 ∧
      pn p 2 2 + pn p 4 2 ≤ 1024) (fun p => (List.range (pn p 4 2)).flatMap fun j => toLE 8 (if pn p 1 1 = 0 then
        kGet 0 (c.tide (pn p 0 1)).admin (pn p 2 2 + j) else c.operEntry (pn p 0 1) (pn p 2 2 + j))) ∧
    q cmdBrkwGet .brkwGet any (fun p => toLE 40 (c.inst (pn p 0 2)).cfg.word ++ toLE 64 (c.pathsRec (pn p 0 2)) ++
      toLE 80 (c.brkwState (pn p 0 2)) ++ toLE 112 (c.brkwCntRec (pn p 0 2))) ∧
    q cmdBrkwPathGet .brkwPathGet (fun p => pn p 2 1 ≤ 7) (fun p => toLE 32 (c.pathCntRec (pn p 0 2) (pn p 2 1))) ∧
    q cmdBrkwPoolGet .brkwPoolGet any (fun _ => (List.range 4).flatMap fun k => toLE 8 (s.reg .BRKW .BRKW_POOL k)) ∧
    q cmdRegionGet .regionGet (fun p => pn p 0 4 < 131072 ∧ (c.region (pn p 0 4)).valid = true) (fun p =>
      toLE 16 (c.regionRec (pn p 0 4)) ++ toLE 24 (if (c.region (pn p 0 4)).kind = 2 then (c.region (pn p 0 4)).holdRec
        else (c.region (pn p 0 4)).recordRec) ++ toLE 56 (c.regionState (pn p 0 4)) ++ toLE 88 (c.regCntRec (pn p 0 4))) ∧
    q cmdReplayGet .replayGet (fun p => pn p 0 2 < 1024) (fun p => toLE 64 (c.cursor (pn p 0 2)).word) ∧
    q cmdStoreGet .storeGet any (fun _ => ((List.range 4).flatMap fun k => toLE 8 (s.reg .STOR .STOR_QUAD k)) ++
      ((List.range 8).flatMap fun m => toLE 8 (s.reg .STOR .STOR_ECC_CNT m)) ++
        toLE 8 (s.reg .STOR .STOR_SCRUB_CFG 0) ++ toLE 8 (s.reg .STOR .STOR_CURSORS 0)) ∧
    q cmdPagemapGet .pagemapGet (fun p => pn p 0 4 < 131072 ∧ (c.region (pn p 0 4)).valid = true ∧ 1 ≤ pn p 8 2 ∧
      pn p 8 2 ≤ 160) (fun p => (let l := (List.range (pn p 8 2)).filterMap fun j => c.pageMap (pn p 0 4) (pn p 4 4 + j)
        toLE 8 l.length ++ l.flatMap fun e => toLE 8 e.1 ++ toLE 16 e.2)) ∧
    q cmdSpillGet .spillGet (fun p => pn p 0 1 ≤ 1) (fun p => (let k := pn p 0 1
      let f (g : DriveInfo → Nat) : Nat := ((c.driveAnswers k).map g).getD 0
      s.regBytes .STOR [.STOR_SPILL_CFG, .STOR_SPILL_STAT] k ++ s.regBytes .SPIL [.SPIL_SLOT_STATUS, .SPIL_SLOT_CTRL,
        .SPIL_CNT_00, .SPIL_CNT_08, .SPIL_CNT_10, .SPIL_CNT_18, .SPIL_CNT_20, .SPIL_CNT_28] k ++
        toLE 2 (f DriveInfo.tempK) ++ toLE 1 (f DriveInfo.pctUsed) ++ toLE 1 (f DriveInfo.critWarn) ++
        toLE 8 (f DriveInfo.mediaErrors))) ∧
    q cmdDuoGet .duoGet any (fun _ => layOut 20 [(0, 1, c.duoState), (1, 1, c.fld .DUO_STATUS_ROLE 0),
      (2, 1, c.fld .DUO_STATUS_RANK 0), (3, 1, c.duo.pins), (4, 1, bit c.duoLinkUp),
      (8, 8, c.showF .DUO_PEER_SERIAL 0), (16, 2, c.showF .DUO_PEER_INFO_FIL 0), (18, 2, c.showF .DUO_PEER_INFO_STEPLOG_FMT 0)]) ∧
    q cmdFltGet .fltGet any (fun _ => layOut 32 [(0, 1, c.fld .FLT_STATUS_STATE 0), (4, 4, c.fld .FLT_RECOVERIES_TOTAL 0),
      (8, 4, c.fld .FLT_LOG_WR_WR 0), (16, 8, c.fld .FLT_FIRST_CAUSE_CAUSE 0), (24, 8, c.fld .FLT_FIRST_CAUSE_HI_CAUSE_HI 0)]) ∧
    q cmdFltLogRead .fltLogRead (fun p => 1 ≤ pn p 4 2 ∧ pn p 4 2 ≤ 252) (fun p =>
      (let first := c.logFrom (pn p 0 4)
       let back := (c.fld .FLT_LOG_WR_WR 0 + 2 ^ 32 - first) % 2 ^ 32
       let l := (List.range (if 2 ^ 31 ≤ back then 0 else min (pn p 4 2) back)).filterMap fun k =>
         c.message ((first + k) % 2 ^ 32)
       toLE 4 first ++ toLE 4 l.length ++ l.flatMap fun m => toLE 16 m.word)) ∧
    q cmdPwrGet .pwrGet any (fun _ => layOut 24 [(0, 8, c.fld .PWR_DOMAIN_STATUS_ON 0),
      (8, 2, c.fld .CORE_AVS_STATUS_SET_MV 0), (10, 2, c.fld .CORE_AVS_STATUS_READ_MV 0), (16, 2, c.fld .CORE_SLACK_MIN_TJ 0),
      (18, 2, c.fld .CORE_SLACK_MIN_TJ 1), (20, 2, c.fld .CORE_SLACK_MIN_TJ 2), (22, 2, c.fld .CORE_SLACK_MIN_TJ 3)]) ∧
    q cmdCoreGet .coreGet any (fun _ => ([Reg.CORE_SLACK_STATUS, .CORE_SLACK_MIN, .CORE_QBUF_STATUS, .CORE_QBUF_DROP].flatMap
      fun x => (List.range 4).flatMap fun k => s.regBytes .CORE [x] k) ++
        s.regBytes .CORE [.CORE_AVS_STATUS, .CORE_AVS_COUNT] 0 ++ (List.range 2).flatMap fun d => s.regBytes .CORE
          [.CORE_BRIDGE_CNT_00, .CORE_BRIDGE_CNT_08, .CORE_BRIDGE_CNT_10, .CORE_BRIDGE_CNT_18, .CORE_BRIDGE_CNT_20] d) ∧
    q cmdCaptureRead .captureRead (fun p => pn p 0 4 % 8 = 0 ∧ pn p 4 2 % 8 = 0 ∧ 8 ≤ pn p 4 2 ∧ pn p 4 2 ≤ 4032 ∧
      pn p 0 4 + pn p 4 2 ≤ c.capLen) (fun p => c.capRead (pn p 0 4) (pn p 4 2))

/-- The commands of the system, firmware, record and time groups that change something (R298, R310, R314, R317, R323-R325,
R333-R338): what each writes, its answer, and that nothing else changes. -/
def Obligations.SystemCommands : Prop :=
  ∀ s : State,
    let c := s.chip
    let no (k : Cmd) (i : Req → Instr) (ok : Bytes → Prop) (status detail : Nat) : Prop :=
      ∀ r, s.takes k r → ok r.params → Gives (i r) s (Denied s r status detail)
    let m (k : Cmd) (i : Req → Instr) (ok : Bytes → Prop) (data : Bytes → Bytes) (flds : List Fld) (zones : List Zone)
        (post : Bytes → State → Prop) : Prop :=
      ∀ r, s.takes k r → ok r.params → Gives (i r) s fun t => Done s r (data r.params) flds zones t ∧ post r.params t
    let none_ : Bytes → Bytes := fun _ => []
    let cross : List Fld := [.TIME_SRC_EXCLUDED, .TIME_SRC_EXCL_SEEN, .TIME_SRC_CONFIRMING, .TIME_EVT_CNT_EXCLUSIONS,
      .TIME_STATUS_SERVO_SRC]
    let quiet (k : Nat) (l : List Fld) (t : State) : Prop :=
      (∀ j, j ≠ k → c.is .TIME_SRC_CONFIRMING j = false) → SameRegs (l ++ mbxFlds) s t ∧ t.chip.time = c.time

    m cmdReset .reset (fun p => pn p 0 1 = 0 ∧ pn p 4 4 = 0 ∧ c.fld .FLT_STATUS_STATE 0 ≠ 2) none_ [] [] (fun _ _ => True) ∧
    m cmdReset .reset (fun p => pn p 0 1 = 0 ∧ pn p 4 4 = 0 ∧ c.fld .FLT_STATUS_STATE 0 = 2 ∧ c.duo.window = false) none_
      [.FLT_STATUS_STATE, .FLT_STATUS_ERR_OUT, .FLT_PINS_ERR_P, .FLT_PINS_ERR_N] [.flt]
      (fun _ t => t.chip.fld .FLT_STATUS_STATE 0 = 0 ∧ t.chip.flt.history = [] ∧ t.chip.flt.aliveFatal = false) ∧
    m cmdReset .reset (fun p => pn p 0 1 = 1 ∧ pn p 4 4 = 0) none_ [] [.mbx] (fun _ t => t.chip.mbx.fened = .boot ∧
      t.chip.mbx.act = some ⟨c.fld .MBX_STATUS_SLOT 0, c.fld .MBX_STATUS_SLOT 0, false, false⟩) ∧
    m cmdReset .reset (fun p => pn p 0 1 = 2 ∧ pn p 4 4 = 0x52535431) none_ [] [.pwr] (fun _ t =>
      t.chip.pwr = { c.pwr with unitReset := true }) ∧
    no cmdReset .reset (fun p => 2 < pn p 0 1) rParam 0 ∧
    no cmdReset .reset (fun p => pn p 0 1 = 2 ∧ pn p 4 4 ≠ 0x52535431) rParam 4 ∧
    m cmdClaim .claim (fun p => pn p 0 1 ≤ 10 ∧ c.claimed (pn p 0 1) = false ∧ pn p 0 1 ≠ 8 ∧
      c.mbx.timed.all (fun t => !(t.writes c).contains (pn p 0 1)) = true) none_ [.MBX_CLAIM_CLAIMED] []
      (fun p t => t.chip.claimed (pn p 0 1) = true ∧ ∀ f, f ≠ pn p 0 1 → t.chip.claimed f = c.claimed f) ∧
    m cmdClaim .claim (fun p => c.claimed 8 = false ∧ pn p 0 1 = 8 ∧
      c.mbx.timed.all (fun t => !(t.writes c).contains 8) = true) none_ [.MBX_CLAIM_CLAIMED] [.spil]
      (fun _ t => t.chip.claimed 8 = true ∧ (∀ f, f ≠ 8 → t.chip.claimed f = c.claimed f) ∧
        ∀ k, k < 2 → t.chip.spilS k = { c.spilS k with button := none }) ∧
    m cmdClaim .claim (fun p => pn p 0 1 ≤ 10 ∧ c.claimed (pn p 0 1) = true) none_ [] [] (fun _ _ => True) ∧
    no cmdClaim .claim (fun p => pn p 0 1 ≤ 10 ∧ c.claimed (pn p 0 1) = false ∧
      c.mbx.timed.any (fun t => (t.writes c).contains (pn p 0 1)) = true) rInUse 0 ∧
    no cmdClaim .claim (fun p => 10 < pn p 0 1) rParam 0 ∧
    m cmdRelease .release (fun p => pn p 0 1 ≤ 10 ∧ pn p 0 1 ≠ 1 ∧ c.claimed (pn p 0 1) = true ∧ c.firstBad (pn p 0 1) = none)
      (fun _ => toLE 1 1) [.MBX_CLAIM_CLAIMED, .MBX_CLAIM_INVALID] []
      (fun p t => t.chip.claimed (pn p 0 1) = false ∧ t.chip.bitF .MBX_CLAIM_INVALID 0 (pn p 0 1) = false ∧
        ∀ f, f ≠ pn p 0 1 → t.chip.claimed f = c.claimed f) ∧
    (∀ r, s.takes cmdRelease r → pn r.params 0 1 = 1 → c.claimed 1 = true → c.firstBad 1 = none →
      (∀ k, k < 8 → c.is .TIME_SRC_CONFIRMING k = false) → Gives (.release r) s fun t =>
        Answered r 0 0 (toLE 1 1) t ∧ Counted s r t ∧ t.chip.claimed 1 = false ∧
          t.chip.bitF .MBX_CLAIM_INVALID 0 1 = false ∧ t.chip.fld .TIME_STATUS_SERVO_STATE 0 = 1 ∧
          t.chip.now = c.now ∧ SamePlane s t ∧ t.mem = s.mem ∧ t.pending = s.pending) ∧
    (∀ r, s.takes cmdRelease r → pn r.params 0 1 ≤ 10 → pn r.params 0 1 ≠ 1 → c.claimed (pn r.params 0 1) = true →
      ∀ off, c.firstBad (pn r.params 0 1) = some off → Gives (.release r) s fun t =>
        Answered r rParam off [0] t ∧ Counted s r t ∧ t.chip.claimed (pn r.params 0 1) = false ∧
          t.chip.bitF .MBX_CLAIM_INVALID 0 (pn r.params 0 1) = true ∧ ⟨0xB001, 0x50A, off, false⟩ ∈ t.chip.flt.batch ∧
          SameRegs ([.MBX_CLAIM_CLAIMED, .MBX_CLAIM_INVALID, .MBX_CNT_REJECTED] ++ mbxFlds) s t ∧ Kept [.flt] s t) ∧
    m cmdRelease .release (fun p => pn p 0 1 ≤ 10 ∧ c.claimed (pn p 0 1) = false)
      (fun p => toLE 1 (bit (!c.bitF .MBX_CLAIM_INVALID 0 (pn p 0 1)))) [] [] (fun _ _ => True) ∧
    (∀ r, s.takes cmdCancelTimed r → ∀ x, (c.mbx.timed.find? fun t => t.handle == pn r.params 0 2) = some x →
      Gives (.cancelTimed r) s fun t => Done s r [] [] [.mbx] t ∧
        t.chip.mbx.timed = c.mbx.timed.filter fun y => y.handle != x.handle) ∧
    no cmdCancelTimed .cancelTimed (fun p => (c.mbx.timed.find? fun t => t.handle == pn p 0 2) = none) rNotFound 0 ∧
    m cmdFwBegin .fwBegin (fun p => pn p 0 1 ≤ 1 ∧
      (c.fld .MBX_STATUS_SLOT 0 = pn p 0 1 → c.slotReason (c.fwSlot (1 - pn p 0 1)) = 0)) none_ [] [.mbx] (fun p t =>
      t.chip.fwSlot (pn p 0 1) = ⟨[], List.replicate 512 0xFF, 0, 0⟩ ∧
        t.chip.fwSlot (1 - pn p 0 1) = c.fwSlot (1 - pn p 0 1) ∧ t.chip.mbx.fened = .up) ∧
    no cmdFwBegin .fwBegin (fun p => pn p 0 1 ≤ 1 ∧ c.fld .MBX_STATUS_SLOT 0 = pn p 0 1 ∧
      c.slotReason (c.fwSlot (1 - pn p 0 1)) ≠ 0) rInUse 0 ∧
    no cmdFwBegin .fwBegin (fun p => 1 < pn p 0 1) rParam 0 ∧
    m cmdFwWrite .fwWrite (fun p => pn p 0 1 ≤ 1 ∧ c.fld .MBX_STATUS_SLOT 0 ≠ pn p 0 1 ∧ 4 ≤ pn p 8 2 ∧ pn p 8 2 ≤ 4032 ∧
      pn p 8 2 % 4 = 0 ∧ pn p 4 4 % 4 = 0 ∧ pn p 4 4 + pn p 8 2 ≤ 33554432 ∧
      ((c.fwSlot (pn p 0 1)).pieces = [] → (c.fwSlot (pn p 0 1)).header = List.replicate 512 0xFF) ∧
      (c.fwSlot (pn p 0 1)).pieces.any (pieceHits (pn p 4 4) (pn p 8 2)) = false) none_ [] [.mbx] (fun p t =>
      (t.chip.fwSlot (pn p 0 1)).pieces = (c.fwSlot (pn p 0 1)).pieces ++ [(pn p 4 4, slice p 16 (pn p 8 2))] ∧
        t.chip.fwSlot (1 - pn p 0 1) = c.fwSlot (1 - pn p 0 1)) ∧
    no cmdFwWrite .fwWrite (fun p => pn p 0 1 ≤ 1 ∧ c.fld .MBX_STATUS_SLOT 0 = pn p 0 1 ∧ 4 ≤ pn p 8 2 ∧ pn p 8 2 ≤ 4032 ∧
      pn p 8 2 % 4 = 0 ∧ pn p 4 4 % 4 = 0 ∧ pn p 4 4 + pn p 8 2 ≤ 33554432 ∧
      (c.fwSlot (pn p 0 1)).pieces.any (pieceHits (pn p 4 4) (pn p 8 2)) = false) rInUse 0 ∧
    no cmdFwWrite .fwWrite (fun p => pn p 0 1 ≤ 1 ∧ 4 ≤ pn p 8 2 ∧ pn p 8 2 ≤ 4032 ∧ pn p 8 2 % 4 = 0 ∧
      (c.fwSlot (pn p 0 1)).pieces.any (pieceHits (pn p 4 4) (pn p 8 2)) = true) rParam 4 ∧
    m cmdFwVerify .fwVerify (fun p => pn p 0 1 ≤ 1 ∧ c.fld .MBX_STATUS_SLOT 0 ≠ pn p 0 1)
      (fun p => toLE 1 (bit (c.slotReason (c.fwSlot (pn p 0 1)) == 0)) ++ toLE 1 (c.slotReason (c.fwSlot (pn p 0 1))) ++
        List.replicate 14 0 ++ slice (c.fwSlot (pn p 0 1)).header 0 32) [] [.mbx] (fun p t =>
      t.chip.fwSlot (pn p 0 1) = ⟨(c.fwSlot (pn p 0 1)).pieces, (c.fwSlot (pn p 0 1)).header,
        if c.slotReason (c.fwSlot (pn p 0 1)) = 0 then 2 else 3, c.slotReason (c.fwSlot (pn p 0 1))⟩ ∧
        t.chip.fwSlot (1 - pn p 0 1) = c.fwSlot (1 - pn p 0 1)) ∧
    m cmdFwActivate .fwActivate (fun p => pn p 0 1 ≤ 1 ∧ (c.fwSlot (pn p 0 1)).st = 2 ∧ c.slotReason (c.fwSlot (pn p 0 1)) = 0 ∧
      c.fld .MBX_CLAIM_CLAIMED 0 = 0 ∧ c.mbx.timed = [] ∧ c.peerDiffers (c.fwSlot (pn p 0 1)) = false) none_ [] [.mbx]
      (fun p t => t.chip.mbx.act = some ⟨pn p 0 1, c.fld .MBX_STATUS_SLOT 0, false, false⟩ ∧ t.chip.mbx.fened = .boot ∧
        t.chip.mbx.fwA = c.mbx.fwA ∧ t.chip.mbx.fwB = c.mbx.fwB) ∧
    no cmdFwActivate .fwActivate (fun p => pn p 0 1 ≤ 1 ∧ (c.fwSlot (pn p 0 1)).st ≠ 2) stBadImage 0 ∧
    m cmdFwSetMinSec .fwSetMinSec (fun p => pn p 4 4 = 0x53454331 ∧ c.ident.secMin ≤ pn p 0 2 ∧
      pn p 0 2 ≤ leNat (slice c.mbx.image 0x14 2)) none_ [] [.ident] (fun p t =>
      t.chip.ident = { c.ident with secMin := pn p 0 2 }) ∧
    no cmdFwSetMinSec .fwSetMinSec (fun p => pn p 4 4 = 0x53454331 ∧
      (pn p 0 2 < c.ident.secMin ∨ leNat (slice c.mbx.image 0x14 2) < pn p 0 2)) rParam 0 ∧
    no cmdFwSetMinSec .fwSetMinSec (fun p => pn p 4 4 ≠ 0x53454331) rParam 4 ∧

    m cmdSaffClear .saffClear (fun p => pn p 0 1 ≤ 4 ∧ pn p 4 4 = 0x434C5231 ∧ s.mram.sects.length = 6) none_
      [.SAFF_CNT_WRITES, .FLT_RECOVERIES_TOTAL] [.mram] (fun p t => t.mram.kept (pn p 0 1) = 1 ∧
        (∀ k, k ≠ pn p 0 1 → t.mram.sect k = s.mram.sect k) ∧ t.mram.permanent = s.mram.permanent ∧
        (pn p 0 1 ≠ 4 → t.chip.fld .FLT_RECOVERIES_TOTAL 0 = c.fld .FLT_RECOVERIES_TOTAL 0)) ∧

    m cmdTimeLoad .timeLoad (fun p => timeOk (pn p 0 12) = true ∧ c.time.held = none ∧ c.ticking = false) none_
      [.TIME_LOAD_LOAD, .TIME_LOAD_HI_LOAD_HI] [.time] (fun p t => t.chip.time = { c.time with held := some .load } ∧
        t.chip.loadValue = pn p 0 12) ∧
    (∀ r, s.takes cmdTimeLoad r → timeOk (pn r.params 0 12) = true → c.time.held = none → c.ticking = true →
      Gives (.timeLoad r) s fun t => Answered r 0 0 [] t ∧ Counted s r t ∧
        t.chip.raw = unpackTime (pn r.params 0 12) * 65536 % timeWrap ∧ t.mram = s.mram ∧ t.pending = s.pending) ∧
    no cmdTimeLoad .timeLoad (fun p => timeOk (pn p 0 12) = true ∧ c.time.held ≠ none) rLocked 0 ∧
    no cmdTimeLoad .timeLoad (fun p => timeOk (pn p 0 12) = false) rParam 0 ∧
    m cmdTimeStep .timeStep (fun _ => c.time.held = none ∧ c.ticking = false) none_ [.TIME_ADJ_OFS_OFS] [.time] (fun p t =>
      t.chip.time = { c.time with held := some .step } ∧ t.chip.fld .TIME_ADJ_OFS_OFS 0 = pn p 0 8) ∧
    (∀ r, s.takes cmdTimeStep r → c.time.held = none → c.ticking = true → Gives (.timeStep r) s fun t =>
      Answered r 0 0 [] t ∧ Counted s r t ∧
        t.chip.raw = (((c.raw : Int) + asInt 64 (pn r.params 0 8) * 65536) % (timeWrap : Int)).toNat ∧ t.mram = s.mram ∧
        t.pending = s.pending) ∧
    no cmdTimeStep .timeStep (fun _ => c.time.held ≠ none) rLocked 0 ∧
    m cmdTimeCfg .timeCfg (fun p => servoCfgOk (pn p 0 8) = true ∧ checkCfgOk (pn p 8 8) = true ∧ ppsCfgOk (pn p 16 8) = true)
      none_ (regFlds .TIME .TIME_SERVO_CFG ++ regFlds .TIME .TIME_CHECK_CFG ++ regFlds .TIME .TIME_PPS_CFG) [.time]
      (fun p t => Holds .TIME .TIME_SERVO_CFG 0 (pn p 0 8) t ∧ Holds .TIME .TIME_CHECK_CFG 0 (pn p 8 8) t ∧
        Holds .TIME .TIME_PPS_CFG 0 (pn p 16 8) t ∧ t.chip.time = { c.time with ppsOut := t.chip.time.ppsOut }) ∧
    no cmdTimeCfg .timeCfg (fun p => servoCfgOk (pn p 0 8) = false) rParam 0 ∧
    m cmdTimeSrcSet .timeSrcSet (fun p => pn p 0 1 ≤ 8 ∧ pn p 1 1 ≤ 1 ∧ pn p 2 1 ≤ 15) none_
      (.TIME_SRC_ENABLE :: .TIME_SRC_PRIORITY :: cross) [.time] (fun p t => quiet (pn p 0 1) [.TIME_SRC_ENABLE, .TIME_SRC_PRIORITY] t ∧
        t.chip.fld .TIME_SRC_ENABLE (pn p 0 1) = pn p 1 1 ∧
        t.chip.fld .TIME_SRC_PRIORITY (pn p 0 1) = pn p 2 1 ∧ ∀ k, k ≠ pn p 0 1 →
          t.chip.fld .TIME_SRC_ENABLE k = c.fld .TIME_SRC_ENABLE k ∧ t.chip.fld .TIME_SRC_PRIORITY k = c.fld .TIME_SRC_PRIORITY k) ∧
    no cmdTimeSrcSet .timeSrcSet (fun p => pn p 0 1 ≤ 8 ∧ pn p 1 1 ≤ 1 ∧ 15 < pn p 2 1) rParam 2 ∧
    m cmdTimeSrcReadmit .timeSrcReadmit (fun p => pn p 0 1 ≤ 8) none_ cross [.time] (fun p t =>
      quiet (pn p 0 1) [.TIME_SRC_EXCLUDED] t ∧ t.chip.is .TIME_SRC_EXCLUDED (pn p 0 1) = false ∧
        ∀ k, k ≠ pn p 0 1 → c.is .TIME_SRC_CONFIRMING k = false →
          t.chip.fld .TIME_SRC_EXCLUDED k = c.fld .TIME_SRC_EXCLUDED k) ∧
    m cmdTimePortSet .timePortSet (fun p => c.portValid (pn p 0 1) = true) none_
      [.TIME_PORT_ASYM_ASYM, .TIME_PORT_CFG_RTC_EN, .TIME_PORT_CFG_P2P_ADD_LINK] [] (fun p t =>
      t.chip.fld .TIME_PORT_ASYM_ASYM (pn p 0 1) = pn p 8 8 ∧ t.chip.fld .TIME_PORT_CFG_RTC_EN (pn p 0 1) = bits (pn p 16 4) 31 31 ∧
        t.chip.fld .TIME_PORT_CFG_P2P_ADD_LINK (pn p 0 1) = bits (pn p 16 4) 30 30) ∧
    no cmdTimePortSet .timePortSet (fun p => c.portValid (pn p 0 1) = false) rParam 0 ∧
    m cmdTimeClearSuspect .timeClearSuspect (fun _ => True) none_ [.TIME_STATUS_SUSPECT] [.time] (fun _ t =>
      t.chip.is .TIME_STATUS_SUSPECT 0 = false ∧ t.chip.raw = c.raw) ∧
    m cmdPtpInstSet .ptpInstSet (fun p => (pn p 0 1 ≤ 7 ∨ pn p 0 1 = 0xFF) ∧ ptpBad p = none ∧
      c.ptpNumber (pn p 0 1) ≤ 7 ∧ c.ptpPortBad (c.ptpNumber (pn p 0 1)) p = none) (fun p => toLE 1 (c.ptpNumber (pn p 0 1)))
      [.TIME_PORT_CFG_INST, .TIME_SRC_SRC_VALID] [.time] (fun p t =>
      kFind t.chip.time.inst (c.ptpNumber (pn p 0 1)) = some ⟨toLE 1 (c.ptpNumber (pn p 0 1)) ++ slice p 1 11 ++ toLE 4 0 ++
        slice p 16 32, 0, 0, 0xFF, 248, [], []⟩ ∧
      (∀ k, k ≠ c.ptpNumber (pn p 0 1) → kFind t.chip.time.inst k = kFind c.time.inst k) ∧
      (∀ k ∈ portsOf p, t.chip.fld .TIME_PORT_CFG_INST k = c.ptpNumber (pn p 0 1))) ∧
    no cmdPtpInstSet .ptpInstSet (fun p => pn p 0 1 = 0xFF ∧ ptpBad p = none ∧ c.ptpNumber 0xFF = 8 ∧
      c.ptpPortBad 8 p = none) rNoResource 0 ∧
    m cmdPtpInstDelete .ptpInstDelete (fun p => pn p 0 1 ≤ 7 ∧ (kFind c.time.inst (pn p 0 1)).isSome = true) none_
      [.TIME_PORT_CFG_INST, .TIME_SRC_SRC_VALID] [.time] (fun p t =>
      kFind t.chip.time.inst (pn p 0 1) = none ∧ (∀ k, k ≠ pn p 0 1 → kFind t.chip.time.inst k = kFind c.time.inst k) ∧
        ∀ k, k < 256 → t.chip.fld .TIME_PORT_CFG_INST k ≠ pn p 0 1) ∧
    no cmdPtpInstDelete .ptpInstDelete (fun p => pn p 0 1 ≤ 7 ∧ kFind c.time.inst (pn p 0 1) = none) rNotFound 0

/-- The commands of the port, stream, Berth and Tide Table groups that change something (R165, R171, R177, R179, R82-R113,
R126, R127, R133-R141, R330, R339): what each writes, its answer, and what stays. A handle's or a Berth's command leaves
every other as it was. That EGRESS_SET tests the handle before the ports it names is the model's choice
(notes/assumptions/190.md). -/
def Obligations.PlaneCommands : Prop :=
  ∀ s : State,
    let c := s.chip
    let no (k : Cmd) (i : Req → Instr) (ok : Bytes → Prop) (status detail : Nat) : Prop :=
      ∀ r, s.takes k r → ok r.params → Gives (i r) s (Denied s r status detail)
    let m (k : Cmd) (i : Req → Instr) (ok : Bytes → Prop) (data : Bytes → Bytes) (flds : List Fld) (zones : List Zone)
        (post : Bytes → State → Prop) : Prop :=
      ∀ r, s.takes k r → ok r.params → Gives (i r) s fun t => Done s r (data r.params) flds zones t ∧ post r.params t
    let none_ : Bytes → Bytes := fun _ => []
    let on (p : Nat) : Prop := c.portValid p = true ∧ c.domainOn (40 + quadOfPort p) = true
    let off (p : Nat) : Prop := c.portValid p = true ∧ c.domainOn (40 + quadOfPort p) = false
    let rewritten (p : Bytes) : Handle := (let x := c.handle (pn p 0 4)
      { handleOf (pn p 8 32) with egrLen := x.egrLen, egrBase := x.egrBase, homeQ := x.homeQ, valid := true })
    let others (h : Nat) (t : State) : Prop := ∀ j, j ≠ h → t.chip.handle j = c.handle j
    m cmdPortGroupSet .portGroupSet (fun p => c.populated (pn p 0 1) = true ∧ c.domainOn (40 + quadOf (pn p 0 1)) = true ∧
      asInt 16 (bits (pn p 8 4) 15 0) < asInt 16 (bits (pn p 8 4) 31 16) ∧ c.grpCode (pn p 0 1) (pn p 4 4) = rOK ∧
      (pn p 4 4).testBit 31 = c.is .PORT_GRP_CFG_ENGINE_EN (pn p 0 1) ∧
      bits (pn p 4 4) 6 0 = c.fld .PORT_GRP_CFG_SPLIT (pn p 0 1) ∧ (c.domainOn (pn p 0 1) = true ∨ (pn p 4 4).testBit 31 = false)) none_
      (regFlds .PORT .PORT_GRP_CFG ++ regFlds .PORT .PORT_LASER_CFG ++ [.PORT_STATUS_LINK_STATE]) [.plane, .strm, .brkw, .stor]
      (fun p t => Holds .PORT .PORT_GRP_CFG (pn p 0 1) (pn p 4 4) t ∧ Holds .PORT .PORT_LASER_CFG (pn p 0 1) (pn p 8 4) t) ∧
    (∀ r, s.takes cmdPortGroupSet r → c.populated (pn r.params 0 1) = true →
      c.domainOn (40 + quadOf (pn r.params 0 1)) = true → c.domainOn (pn r.params 0 1) = true →
      asInt 16 (bits (pn r.params 8 4) 15 0) < asInt 16 (bits (pn r.params 8 4) 31 16) →
      c.grpCode (pn r.params 0 1) (pn r.params 4 4) = rOK →
      (pn r.params 0 1 = 31 → c.duoState ≠ 1 ∧ c.duoState ≠ 2) → Gives (.portGroupSet r) s fun t =>
        Answered r 0 0 [] t ∧ Counted s r t ∧ Holds .PORT .PORT_GRP_CFG (pn r.params 0 1) (pn r.params 4 4) t ∧
          Holds .PORT .PORT_LASER_CFG (pn r.params 0 1) (pn r.params 8 4) t ∧ SameStore s t) ∧
    no cmdPortGroupSet .portGroupSet (fun p => c.populated (pn p 0 1) = false) rParam 0 ∧
    m cmdPortGroupSet .portGroupSet (fun p => c.populated (pn p 0 1) = true ∧ c.domainOn (40 + quadOf (pn p 0 1)) = false ∧
      asInt 16 (bits (pn p 8 4) 15 0) < asInt 16 (bits (pn p 8 4) 31 16)) none_ [] [] (fun _ _ => True) ∧
    (∀ r, s.takes cmdPortSet r → on (pn r.params 0 1) → 64 ≤ bits (pn r.params 8 8) 45 32 → bits (pn r.params 8 8) 45 32 ≤ 9728 →
      bits (pn r.params 16 4) 15 0 < bits (pn r.params 16 4) 31 16 → 1 ≤ bits (pn r.params 20 4) 23 16 →
      bits (pn r.params 20 4) 23 16 ≤ 128 → (pn r.params 0 1 = 248 → c.duoState ≠ 1 ∧ c.duoState ≠ 2) → Gives (.portSet r) s fun t =>
        Answered r 0 0 [] t ∧ Counted s r t ∧ Holds .PORT .PORT_FEC_CFG (pn r.params 0 1) (pn r.params 16 4) t ∧
          t.chip.fld .PORT_MM_CFG_MM_EN (pn r.params 0 1) = bits (pn r.params 20 4) 31 31 ∧
          t.chip.fld .PORT_MM_CFG_VERIFY_MS (pn r.params 0 1) = bits (pn r.params 20 4) 23 16 ∧
          t.chip.fld .PORT_CFG_MAX_FRAME (pn r.params 0 1) = bits (pn r.params 8 8) 45 32 ∧
          t.chip.fld .PORT_CFG_UP_HOLD_MS (pn r.params 0 1) = bits (pn r.params 8 8) 31 16 ∧ SameStore s t) ∧
    m cmdPortSet .portSet (fun p => off (pn p 0 1) ∧ 64 ≤ bits (pn p 8 8) 45 32 ∧ bits (pn p 8 8) 45 32 ≤ 9728 ∧
      bits (pn p 16 4) 15 0 < bits (pn p 16 4) 31 16 ∧ 1 ≤ bits (pn p 20 4) 23 16 ∧ bits (pn p 20 4) 23 16 ≤ 128) none_ [] []
      (fun _ _ => True) ∧
    no cmdPortSet .portSet (fun p => c.portValid (pn p 0 1) = false) rParam 0 ∧
    m cmdMmRestart .mmRestart (fun p => on (pn p 0 1) ∧ c.is .PORT_MM_CFG_MM_EN (pn p 0 1) = false ∧
      (let v := c.fld .PORT_MM_CFG_VERIFY_MS (pn p 0 1)
       1 ≤ v ∧ v ≤ 128)) none_
      [.PORT_MM_STATUS_VERIFY, .PORT_MM_CFG_RESTART] [.plane] (fun p t => t.chip.fld .PORT_MM_STATUS_VERIFY (pn p 0 1) = 0) ∧
    m cmdMmRestart .mmRestart (fun p => off (pn p 0 1)) none_ [] [] (fun _ _ => True) ∧
    no cmdMmRestart .mmRestart (fun p => c.portValid (pn p 0 1) = false) rParam 0 ∧
    m cmdProfileSet .profileSet (fun p => pn p 0 1 ≤ 15 ∧ profOk (pn p 8 8) = true ∧ c.profUsed (pn p 0 1) = false) none_
      (regFlds .STRM .STRM_PROFILE) [] (fun p t => Holds .STRM .STRM_PROFILE (pn p 0 1) (pn p 8 8) t) ∧
    no cmdProfileSet .profileSet (fun p => pn p 0 1 ≤ 15 ∧ profOk (pn p 8 8) = true ∧ c.profUsed (pn p 0 1) = true) rInUse 0 ∧
    m cmdPortLookupSet .portLookupSet (fun p => c.portValid (pn p 0 1) = true ∧ c.strmPortOk (pn p 0 1) (pn p 8 8) = true) none_
      (regFlds .STRM .STRM_PORT_CFG) [] (fun p t => Holds .STRM .STRM_PORT_CFG (pn p 0 1) (pn p 8 8) t) ∧
    no cmdPortLookupSet .portLookupSet (fun p => c.portValid (pn p 0 1) = true ∧ c.strmPortOk (pn p 0 1) (pn p 8 8) = false) rParam 8 ∧
    m cmdHandleCreate .handleCreate (fun p => pn p 0 4 < 65536 ∧ c.portValid (pn p 4 1) = true ∧ pn p 5 1 ≤ 3 ∧
      (c.handle (pn p 0 4)).valid = false ∧ c.handleCode (pn p 0 4) { handleOf (pn p 8 32) with egrLen := 0, egrBase := 0, homeQ := pn p 5 1, valid := true } = rOK)
      (fun p => toLE 4 (pn p 0 4)) [] [.strm] (fun p t =>
      t.chip.handle (pn p 0 4) = { handleOf (pn p 8 32) with egrLen := 0, egrBase := 0, homeQ := pn p 5 1, valid := true } ∧
        others (pn p 0 4) t ∧ t.chip.strm = { c.strm with handles := t.chip.strm.handles }) ∧
    m cmdHandleCreate .handleCreate (fun p => pn p 0 4 = 0xFFFFFFFF ∧ c.portValid (pn p 4 1) = true ∧ pn p 5 1 ≤ 3 ∧
      c.lowestHandle < 65536 ∧
      c.handleCode c.lowestHandle
        { handleOf (pn p 8 32) with egrLen := 0, egrBase := 0, homeQ := pn p 5 1, valid := true } = rOK)
      (fun _ => toLE 4 c.lowestHandle) [] [.strm] (fun _ t =>
      (t.chip.handle c.lowestHandle).valid = true ∧ others c.lowestHandle t) ∧
    no cmdHandleCreate .handleCreate (fun p => pn p 0 4 < 65536 ∧ c.portValid (pn p 4 1) = true ∧ pn p 5 1 ≤ 3 ∧
      (c.handle (pn p 0 4)).valid = true ∧ c.handleCode (pn p 0 4)
        { handleOf (pn p 8 32) with egrLen := 0, egrBase := 0, homeQ := pn p 5 1, valid := true } ≠ rParam) rExists 0 ∧
    no cmdHandleCreate .handleCreate (fun p => pn p 0 4 < 65536 ∧ c.portValid (pn p 4 1) = false) rParam 4 ∧
    m cmdHandleWrite .handleWrite (fun p => pn p 0 4 < 65536 ∧ (c.handle (pn p 0 4)).valid = true ∧
      c.handleCode (pn p 0 4) (rewritten p) = rOK) none_ [] [.strm] (fun p t =>
      t.chip.handle (pn p 0 4) = (rewritten p) ∧ others (pn p 0 4) t ∧
        t.chip.strm = { c.strm with handles := t.chip.strm.handles }) ∧
    no cmdHandleWrite .handleWrite (fun p => pn p 0 4 < 65536 ∧ (c.handle (pn p 0 4)).valid = false) rNotFound 0 ∧
    m cmdHandleDelete .handleDelete (fun p => pn p 0 4 < 65536 ∧ (c.handle (pn p 0 4)).valid = true ∧
      c.ownsRegion (pn p 0 4) = false ∧ c.brkwMode (pn p 0 4) = 0) none_ [.STRM_USAGE_OVF_USED] [.strm, .brkw]
      (fun p t => (t.chip.handle (pn p 0 4)).valid = false ∧
        t.chip.strm.keys = (c.strm.keys.filter fun e => e.2 != pn p 0 4) ∧ others (pn p 0 4) t) ∧
    no cmdHandleDelete .handleDelete (fun p => pn p 0 4 < 65536 ∧ (c.handle (pn p 0 4)).valid = false) rNotFound 0 ∧
    no cmdHandleDelete .handleDelete (fun p => pn p 0 4 < 65536 ∧ (c.handle (pn p 0 4)).valid = true ∧
      c.ownsRegion (pn p 0 4) = true) rInUse 0 ∧
    m cmdKeyInsert .keyInsert (fun p => c.is .STRM_PROFILE_VALID (c.normKey (keyOf (pn p 0 56))).profile = true ∧
      c.is .STRM_PROFILE_PORT_IN_KEY (c.normKey (keyOf (pn p 0 56))).profile = false ∧
      (c.handle (keyHandle (pn p 0 56))).valid = true ∧ c.keysOf (keyHandle (pn p 0 56)) < 8 ∧ c.strm.keys.length < 61440 ∧
      c.findKey (c.normKey (keyOf (pn p 0 56))) = none) none_ [.STRM_USAGE_OVF_USED] [.strm] (fun p t =>
      t.chip.strm = { c.strm with keys := c.strm.keys ++ [(c.normKey (keyOf (pn p 0 56)), keyHandle (pn p 0 56))] }) ∧
    no cmdKeyInsert .keyInsert (fun p => c.is .STRM_PROFILE_VALID (c.normKey (keyOf (pn p 0 56))).profile = false) rParam 0 ∧
    no cmdKeyInsert .keyInsert (fun p => c.is .STRM_PROFILE_VALID (c.normKey (keyOf (pn p 0 56))).profile = true ∧
      c.keyPortBad (pn p 0 56) = true) rParam 0 ∧
    no cmdKeyInsert .keyInsert (fun p => c.is .STRM_PROFILE_VALID (c.normKey (keyOf (pn p 0 56))).profile = true ∧
      c.keyPortBad (pn p 0 56) = false ∧ (c.handle (keyHandle (pn p 0 56))).valid = false) rNotFound 0 ∧
    m cmdKeyDelete .keyDelete (fun p => c.keyPortBad (pn p 0 56) = false ∧
      (c.findKey (c.normKey (keyOf (pn p 0 56)))).isSome = true) none_
      [.STRM_USAGE_OVF_USED] [.strm] (fun p t =>
      t.chip.strm = { c.strm with keys := c.strm.keys.filter fun e => e.1 != c.normKey (keyOf (pn p 0 56)) }) ∧
    no cmdKeyDelete .keyDelete (fun p => c.keyPortBad (pn p 0 56) = false ∧
      c.findKey (c.normKey (keyOf (pn p 0 56))) = none) rNotFound 0 ∧
    no cmdKeyDelete .keyDelete (fun p => c.keyPortBad (pn p 0 56) = true) rParam 0 ∧
    (∀ r, s.takes cmdEgressSet r → ∀ b, c.freeRun (pn r.params 4 2) = some b → pn r.params 0 4 < 65536 → pn r.params 4 2 ≤ 256 →
      (c.handle (pn r.params 0 4)).valid = true →
      (let l := (List.range (pn r.params 4 2)).map fun k => pn r.params (8 + 4 * k) 4
       c.listCode (pn r.params 0 4) l = rOK → Gives (.egressSet r) s fun t => Done s r [] [] [.strm] t ∧
        t.chip.egress (pn r.params 0 4) = l ∧ others (pn r.params 0 4) t)) ∧
    no cmdEgressSet .egressSet (fun p => pn p 0 4 < 65536 ∧ pn p 4 2 ≤ 256 ∧ (c.handle (pn p 0 4)).valid = false) rNotFound 0 ∧
    m cmdMeterSet .meterSet (fun p => pn p 0 4 < 65536 ∧ (pn p 8 24).testBit 132 = false ∧
      (meterOf (pn p 8 24)).peak ≤ (c.meter (pn p 0 4)).peak) none_ [] [.strm] (fun p t =>
      t.chip.meter (pn p 0 4) = meterOf (pn p 8 24) ∧ (∀ q ∈ quads, (t.chip.meterQ (pn p 0 4) q).c =
        (meterOf (pn p 8 24)).cbs * tokenUnit ∧ (t.chip.meterQ (pn p 0 4) q).mafr = false) ∧
      (∀ j, j ≠ pn p 0 4 → t.chip.meter j = c.meter j)) ∧
    no cmdMeterSet .meterSet (fun p => 65536 ≤ pn p 0 4) rParam 0 ∧
    m cmdGateCfgSet .gateCfgSet (fun p => pn p 0 2 < 4096 ∧ 
      timeOk (bits (pn p 8 48) 95 0) = true ∧ bits (pn p 8 48) 196 195 = 0 ∧ (c.gate (pn p 0 2)).pend = none) none_ [] [.strm]
      (fun p t => t.chip.gate (pn p 0 2) = { c.gate (pn p 0 2) with
        base := bits (pn p 8 48) 95 0, cycleNs := bits (pn p 8 48) 159 128, cycleFrac := bits (pn p 8 48) 167 160,
        count := bits (pn p 8 48) 176 168, initOpen := (pn p 8 48).testBit 192, closeOctEn := (pn p 8 48).testBit 194,
        closeInvEn := (pn p 8 48).testBit 193 }) ∧
    no cmdGateCfgSet .gateCfgSet (fun p => 4095 < pn p 0 2) rParam 0 ∧
    m cmdGateListWrite .gateListWrite (fun p => pn p 0 2 < 4096 ∧ 1 ≤ pn p 4 2 ∧ pn p 4 2 ≤ 128 ∧ pn p 2 2 + pn p 4 2 ≤ 256 ∧
      (c.gate (pn p 0 2)).pend = none) none_ [] [.strm] (fun p t =>
      (∀ k ∈ List.range (pn p 4 2), kGet GEntry.init (t.chip.gate (pn p 0 2)).admin (pn p 2 2 + k) =
        gEntryOf (pn p (16 + 16 * k) 16)) ∧ (t.chip.gate (pn p 0 2)).oper = (c.gate (pn p 0 2)).oper ∧
        (∀ g, g ≠ pn p 0 2 → t.chip.gate g = c.gate g)) ∧
    no cmdGateListWrite .gateListWrite (fun p => pn p 0 2 < 4096 ∧ 1 ≤ pn p 4 2 ∧ pn p 4 2 ≤ 128 ∧ pn p 2 2 + pn p 4 2 ≤ 256 ∧
      (c.gate (pn p 0 2)).pend.isSome = true) rLocked 0 ∧
    m cmdGateCommit .gateCommit (fun p => pn p 0 2 < 4096 ∧ pn p 2 1 = 0 ∧ (c.gate (pn p 0 2)).pend = none ∧
      (c.gate (pn p 0 2)).commitBad = 0) (fun p => (let x := c.gate (pn p 0 2)
        layOut 24 [(8, 16, packTime (commitStart (unpackTime x.base) (cycleT x.cycleNs x.cycleFrac) c.now (nsT 4000)))])) []
      [.strm] (fun p t => (let x := c.gate (pn p 0 2)
        (t.chip.gate (pn p 0 2)).pend = some (commitStart (unpackTime x.base) (cycleT x.cycleNs x.cycleFrac) c.now (nsT 4000)) ∧
          (t.chip.gate (pn p 0 2)).oper = x.oper)) ∧
    (∀ r, s.takes cmdGateCommit r → pn r.params 0 2 < 4096 → pn r.params 2 1 = 0 → (c.gate (pn r.params 0 2)).pend = none →
      (c.gate (pn r.params 0 2)).commitBad ≠ 0 → Gives (.gateCommit r) s fun t =>
        Answered r rParam 0 (layOut 24 [(0, 1, (c.gate (pn r.params 0 2)).commitBad)]) t ∧ Counted s r t ∧
          SameRegs (.MBX_CNT_REJECTED :: mbxFlds) s t ∧ Kept [] s t) ∧
    m cmdGateCommit .gateCommit (fun p => pn p 0 2 < 4096 ∧ pn p 2 1 = 1) (fun p =>
      layOut 24 [(8, 16, packTime (c.gate (pn p 0 2)).pendStart)]) [] [.strm] (fun p t =>
      t.chip.gate (pn p 0 2) = { c.gate (pn p 0 2) with pend := none }) ∧
    m cmdStreamClear .streamClear (fun p => pn p 0 4 < 65536) none_ [] [.strm] (fun p t =>
      (∀ q ∈ quads, ∀ k ∈ List.range 8, t.chip.strmCnt (pn p 0 4) q k = 0) ∧
        t.chip.strm = { c.strm with cnt := t.chip.strm.cnt }) ∧
    no cmdStreamClear .streamClear (fun p => 65536 ≤ pn p 0 4) rParam 0 ∧
    m cmdFilterUnlatch .filterUnlatch (fun p => pn p 0 4 < 65536 ∧ pn p 4 2 < 4096 ∧ pn p 6 1 ≤ 15 ∧
      (c.handle (pn p 0 4)).valid = true) none_ [] [.strm] (fun p t =>
      ((pn p 6 1).testBit 0 = true → (t.chip.handle (pn p 0 4)).blocked = false) ∧
      ((pn p 6 1).testBit 1 = true → ∀ q ∈ quads, (t.chip.meterQ (c.handle (pn p 0 4)).meterId q).mafr = false) ∧
      ((pn p 6 1).testBit 2 = true → ∀ q ∈ quads, (t.chip.gateQ (pn p 4 2) q).closedOct = false) ∧
      ((pn p 6 1).testBit 3 = true → ∀ q ∈ quads, (t.chip.gateQ (pn p 4 2) q).closedInv = false) ∧ others (pn p 0 4) t) ∧
    no cmdFilterUnlatch .filterUnlatch (fun p => pn p 0 4 < 65536 ∧ pn p 4 2 < 4096 ∧ pn p 6 1 ≤ 15 ∧
      (c.handle (pn p 0 4)).valid = false) rNotFound 0 ∧
    m cmdBerthSet .berthSet (fun p => pn p 0 4 < 65536 ∧ bits (pn p 16 8) 56 32 ≤ 16777216 ∧
      c.berthCode (pn p 0 4) (pn p 8 8) = rOK ∧ c.copyingOf (pn p 0 4) = none) (fun p => toLE 4 (pn p 0 4))
      (regFlds .SCHD .SCHD_BERTH_CFG ++ regFlds .SCHD .SCHD_BERTH_SHAPER ++ [.SCHD_BERTH_CNT_DROPPED]) [.plane] (fun p t =>
      Holds .SCHD .SCHD_BERTH_CFG (pn p 0 4) (pn p 8 8) t ∧ Holds .SCHD .SCHD_BERTH_SHAPER (pn p 0 4) (pn p 16 8) t ∧
        (∀ b, b ≠ pn p 0 4 → t.chip.berth b = c.berth b) ∧ t.chip.plane.tide = c.plane.tide) ∧
    no cmdBerthSet .berthSet (fun p => pn p 0 4 < 65536 ∧ bits (pn p 16 8) 56 32 ≤ 16777216 ∧ c.bValid (pn p 0 4) = true ∧
      (pn p 8 8).testBit 63 = false ∧ c.referenced (pn p 0 4) = true) rInUse 0 ∧
    m cmdBerthRelease .berthRelease (fun p => c.bValid (pn p 0 2) = true ∧ c.referenced (pn p 0 2) = false)
      (fun p => toLE 4 (c.berth (pn p 0 2)).queue.length) [.SCHD_BERTH_CFG_VALID, .SCHD_BERTH_CNT_DROPPED] [.plane] (fun p t =>
      c.bValid (pn p 0 2) = true ∧ t.chip.bValid (pn p 0 2) = false ∧ t.chip.berth (pn p 0 2) = BerthS.init ∧
        ∀ b, b ≠ pn p 0 2 → t.chip.berth b = c.berth b ∧ t.chip.bValid b = c.bValid b) ∧
    m cmdBerthRelease .berthRelease (fun p => c.bValid (pn p 0 2) = false) (fun _ => toLE 4 0) [] [] (fun _ _ => True) ∧
    no cmdBerthRelease .berthRelease (fun p => c.bValid (pn p 0 2) = true ∧ c.referenced (pn p 0 2) = true) rInUse 0 ∧
    m cmdTideCfgSet .tideCfgSet (fun p => on (pn p 0 1) ∧ pn p 1 1 ≤ 3 ∧ (pn p 1 1 % 2 = 1 → timeOk (pn p 8 12) = true ∧
      c.tideLocked (pn p 0 1) = false)) none_ ([.TIDE_ADMIN_BASE_BASE, .TIDE_ADMIN_BASE_HI_BASE_HI] ++
      regFlds .TIDE .TIDE_ADMIN_CYCLE ++ regFlds .TIDE .TIDE_PORT_CFG) [] (fun p t =>
      (pn p 1 1 % 2 = 1 → t.chip.adminBase (pn p 0 1) = pn p 8 12 ∧ Holds .TIDE .TIDE_ADMIN_CYCLE (pn p 0 1) (pn p 24 8) t) ∧
      (2 ≤ pn p 1 1 → Holds .TIDE .TIDE_PORT_CFG (pn p 0 1) (pn p 32 8) t)) ∧
    m cmdTideCfgSet .tideCfgSet (fun p => on (pn p 0 1) ∧ pn p 1 1 = 4) none_
      [.TIDE_CTRL_PREEMPT_MASK, .TIDE_CTRL_IDLE_GATES, .TIDE_STATUS_GATES] [.plane, .time] (fun p t =>
      t.chip.fld .TIDE_CTRL_PREEMPT_MASK (pn p 0 1) = pn p 40 1 ∧ t.chip.fld .TIDE_CTRL_IDLE_GATES (pn p 0 1) = pn p 41 1 ∧
        ((c.tide (pn p 0 1)).oper = none → t.chip.fld .TIDE_STATUS_GATES (pn p 0 1) = pn p 41 1) ∧
        t.chip.plane.tide = c.plane.tide) ∧
    no cmdTideCfgSet .tideCfgSet (fun p => on (pn p 0 1) ∧ pn p 1 1 = 1 ∧ timeOk (pn p 8 12) = true ∧
      c.tideLocked (pn p 0 1) = true) rLocked 0 ∧
    m cmdTideWrite .tideWrite (fun p => on (pn p 0 1) ∧ 1 ≤ pn p 4 2 ∧ pn p 4 2 ≤ 500 ∧ pn p 2 2 + pn p 4 2 ≤ 1024 ∧
      c.tideLocked (pn p 0 1) = false) none_ [] [.plane] (fun p t =>
      (∀ k ∈ List.range (pn p 4 2), kGet 0 (t.chip.tide (pn p 0 1)).admin (pn p 2 2 + k) = pn p (16 + 8 * k) 8) ∧
        (t.chip.tide (pn p 0 1)).oper = (c.tide (pn p 0 1)).oper ∧ (∀ k, k ≠ pn p 0 1 → t.chip.tide k = c.tide k) ∧
        t.chip.plane.berths = c.plane.berths) ∧
    no cmdTideWrite .tideWrite (fun p => on (pn p 0 1) ∧ 1 ≤ pn p 4 2 ∧ pn p 4 2 ≤ 500 ∧ pn p 2 2 + pn p 4 2 ≤ 1024 ∧
      c.tideLocked (pn p 0 1) = true) rLocked 0 ∧
    (∀ r, s.takes cmdTideCommit r → on (pn r.params 0 1) → pn r.params 1 1 = 0 → c.tideLocked (pn r.params 0 1) = false →
      (let k := pn r.params 0 1
       (c.tideCheck k = 0 → Gives (.tideCommit r) s fun t =>
         (let x := commitStart (unpackTime (c.adminBase k)) (c.adminCycle k) c.now (nsT 4000)
          Answered r 0 0 (layOut 24 [(8, 16, packTime x)]) t ∧ Counted s r t ∧ (t.chip.tide k).pend = some ⟨c.adminEntries k, x,
           c.adminCycle k, c.adminBase k, c.adminCycleReg k⟩) ∧ (t.chip.tide k).oper = (c.tide k).oper ∧
          t.chip.is .TIDE_STATUS_PENDING k = true ∧ SameStore s t) ∧
       (c.tideCheck k ≠ 0 → Gives (.tideCommit r) s fun t =>
         Answered r rParam 0 (layOut 24 [(0, 1, c.tideCheck k)]) t ∧ Counted s r t ∧
           SameRegs (.MBX_CNT_REJECTED :: mbxFlds) s t ∧ Kept [] s t))) ∧
    no cmdTideCommit .tideCommit (fun p => on (pn p 0 1) ∧ pn p 1 1 = 0 ∧ c.tideLocked (pn p 0 1) = true) rLocked 0 ∧
    m cmdPortHandover .portHandover (fun p => c.portValid (pn p 0 1) = true) none_ [] [.plane] (fun p t =>
      (t.chip.port (pn p 0 1)).hand.isSome = true ∧ (∀ k, k ≠ pn p 0 1 → t.chip.port k = c.port k) ∧
        t.chip.plane.tide = c.plane.tide) ∧
    no cmdPortHandover .portHandover (fun p => c.portValid (pn p 0 1) = false) rParam 0

/-- The commands of the Breakwater, store, spill, duo, fault, power, core and development groups that change something
(R196, R200, R201, R213, R217, R221-R223, R229, R233-R236, R272, R273, R330, R340-R344, R353, R371, R388, R391, R392, R404,
R411, R415, R420): what each writes, its answer, and what stays. DUO_JOIN stays unanswered until the peer answers. That HOLD_SET tests its region
before the port it names is the model's choice (notes/assumptions/190.md). -/
def Obligations.UnitCommands : Prop :=
  ∀ s : State,
    let c := s.chip
    let no (k : Cmd) (i : Req → Instr) (ok : Bytes → Prop) (status detail : Nat) : Prop :=
      ∀ r, s.takes k r → ok r.params → Gives (i r) s (Denied s r status detail)
    let m (k : Cmd) (i : Req → Instr) (ok : Bytes → Prop) (data : Bytes → Bytes) (flds : List Fld) (zones : List Zone)
        (post : Bytes → State → Prop) : Prop :=
      ∀ r, s.takes k r → ok r.params → Gives (i r) s fun t => Done s r (data r.params) flds zones t ∧ post r.params t
    let none_ : Bytes → Bytes := fun _ => []
    let others (r : Nat) (t : State) : Prop := (∀ k, k ≠ r → t.chip.region k = c.region k) ∧ t.chip.stor.cursors = c.stor.cursors
    m cmdBrkwSet .brkwSet (fun p => pn p 2 1 = 1 ∧ c.cfgCode (pn p 0 2) (cfgOf (pn p 8 40)) (c.inst (pn p 0 2)).paths = rOK)
      none_ [] [.brkw, .stor] (fun p t => (t.chip.inst (pn p 0 2)).cfg = cfgOf (pn p 8 40) ∧
        ∀ n, n ≠ pn p 0 2 → t.chip.inst n = c.inst n) ∧
    m cmdBrkwSet .brkwSet (fun p => pn p 2 1 = 2 ∧ c.pathsCode (pn p 0 2) (pn p 48 64) = rOK) none_ [] [.brkw] (fun p t =>
      t.chip.inst (pn p 0 2) = (c.inst (pn p 0 2)).withPaths (pn p 48 64) ∧
        ∀ n, n ≠ pn p 0 2 → t.chip.inst n = c.inst n) ∧
    m cmdBrkwSet .brkwSet (fun p => pn p 2 1 = 3 ∧ (c.brkwBoth (pn p 0 2) (pn p 8 40) (pn p 48 64)).1 = rOK) none_ []
      [.brkw, .stor] (fun p t => (t.chip.inst (pn p 0 2)).cfg = cfgOf (pn p 8 40) ∧
        (t.chip.inst (pn p 0 2)).paths = (c.inst (pn p 0 2)).newPaths (pn p 48 64) ∧
        ∀ n, n ≠ pn p 0 2 → t.chip.inst n = c.inst n) ∧
    m cmdBrkwSet .brkwSet (fun p => pn p 2 1 = 0) none_ [] [] (fun _ _ => True) ∧
    no cmdBrkwSet .brkwSet (fun p => pn p 2 1 = 1 ∧
      c.cfgCode (pn p 0 2) (cfgOf (pn p 8 40)) (c.inst (pn p 0 2)).paths = rParam) rParam 8 ∧
    no cmdBrkwSet .brkwSet (fun p => pn p 2 1 = 3 ∧ cfgRange (cfgOf (pn p 8 40)) = true ∧ c.pathsNamed (pn p 48 64) = false)
      rParam 48 ∧
    m cmdBrkwResetSeq .brkwResetSeq (fun _ => True) none_ [] [.brkw] (fun p t => (let n := pn p 0 2
      t.chip.inst n = { c.inst n with takeAny := true, seen := [] } ∧
        t.chip.brkwCnt n cResets = satAdd 64 (c.brkwCnt n cResets) 1 ∧ ∀ k, k ≠ n → t.chip.inst k = c.inst k)) ∧
    m cmdBrkwClear .brkwClear (fun p => pn p 2 1 = 1) none_ [] [.brkw] (fun p t =>
      (∀ k ∈ List.range 14, t.chip.brkwCnt (pn p 0 2) k = 0) ∧
        (∀ n k, n ≠ pn p 0 2 → k < 16 → t.chip.brkwCnt n k = c.brkwCnt n k) ∧ t.chip.brkw.pathCnt = c.brkw.pathCnt) ∧
    m cmdBrkwClear .brkwClear (fun p => pn p 2 1 = 2) none_ [] [.brkw] (fun p t =>
      (∀ j ∈ List.range 8, ∀ k ∈ List.range 4, t.chip.pathCnt (pn p 0 2) j k = 0) ∧ t.chip.brkw.inst = c.brkw.inst ∧
        t.chip.brkw.cnt = c.brkw.cnt) ∧
    m cmdRegionCreate .regionCreate (fun p => pn p 0 4 < 131072 ∧ pn p 4 1 ≤ 3 ∧ 1 ≤ pn p 8 4 ∧ pn p 8 4 ≤ 1048576 ∧
      (c.region (pn p 0 4)).valid = false ∧ (c.regionCreate (pn p 0 4) (pn p 4 1) (pn p 6 2) (pn p 8 4)).1 = rOK)
      (fun p => (let d := (c.regionCreate (pn p 0 4) (pn p 4 1) (pn p 6 2) (pn p 8 4)).2
        layOut 16 [(0, 4, pn p 0 4), (8, 4, (d.shownCharge (pn p 0 4)).1), (12, 4, (d.shownCharge (pn p 0 4)).2)])) [] [.stor]
      (fun p t => t.chip.region (pn p 0 4) = { Region.init with
          valid := true, kind := pn p 4 1, quad := (c.handle (pn p 6 2)).homeQ, handle := pn p 6 2,
          pages := (t.chip.region (pn p 0 4)).pages } ∧ (t.chip.region (pn p 0 4)).pages.length = pn p 8 4 ∧
        others (pn p 0 4) t) ∧
    no cmdRegionCreate .regionCreate (fun p => pn p 0 4 < 131072 ∧ pn p 4 1 ≤ 3 ∧ 1 ≤ pn p 8 4 ∧ pn p 8 4 ≤ 1048576 ∧
      (c.region (pn p 0 4)).valid = true) rExists 0 ∧
    no cmdRegionCreate .regionCreate (fun p => pn p 0 4 < 131072 ∧ pn p 4 1 ≤ 3 ∧ 1 ≤ pn p 8 4 ∧ pn p 8 4 ≤ 1048576 ∧
      (c.region (pn p 0 4)).valid = false ∧ (c.handle (pn p 6 2)).valid = false) rNotFound 0 ∧
    (∀ r, s.takes cmdRegionResize r → pn r.params 0 4 < 131072 →
      (c.regionResize (pn r.params 0 4) (pn r.params 8 4)).1 = rOK → Gives (.regionResize r) s fun t =>
        (∃ d, Done s r d [] [.stor] t) ∧ (t.chip.region (pn r.params 0 4)).pages.length = pn r.params 8 4 ∧
          others (pn r.params 0 4) t) ∧
    no cmdRegionResize .regionResize (fun p => pn p 0 4 < 131072 ∧ (c.region (pn p 0 4)).valid = false) rNotFound 0 ∧
    m cmdRegionDelete .regionDelete (fun p => pn p 0 4 < 131072 ∧ (c.regionDelete (pn p 0 4)).1 = rOK ∧
      ∀ l ∈ List.range 64, c.is .DMA_REQ_EN l = false) none_ [] [.stor] (fun p t =>
      t.chip.region (pn p 0 4) = Region.init ∧ others (pn p 0 4) t) ∧
    no cmdRegionDelete .regionDelete (fun p => pn p 0 4 < 131072 ∧ (c.region (pn p 0 4)).valid = false) rNotFound 0 ∧
    m cmdHoldSet .holdSet (fun p => pn p 0 4 < 131072 ∧ c.holdCode (pn p 0 4) (pn p 8 24) = rOK ∧ (c.region (pn p 0 4)).state = 0)
      (fun p => (let d := (c.holdWrite (pn p 0 4) (pn p 8 24)).2
        layOut 16 [(0, 4, pn p 0 4), (8, 4, (d.shownCharge (pn p 0 4)).1), (12, 4, (d.shownCharge (pn p 0 4)).2)])) [] [.stor]
      (fun p t => t.chip.region (pn p 0 4) = (c.region (pn p 0 4)).withHold (pn p 8 24) ∧ others (pn p 0 4) t) ∧
    no cmdHoldSet .holdSet (fun p => pn p 0 4 < 131072 ∧ c.holdCode (pn p 0 4) (pn p 8 24) = rNotFound) rNotFound 0 ∧
    (∀ r, s.takes cmdHoldForce r → pn r.params 0 4 < 131072 → pn r.params 4 1 ≤ 1 →
      (let d := { c.region (pn r.params 0 4) with force := false }.holdRec + pn r.params 4 1 * 2 ^ 10
       c.holdCode (pn r.params 0 4) d = rOK → (c.region (pn r.params 0 4)).state = 0 → Gives (.holdForce r) s fun t =>
         Done s r [] [] [.stor] t ∧ (t.chip.region (pn r.params 0 4)).force = (pn r.params 4 1 == 1) ∧
           others (pn r.params 0 4) t)) ∧
    no cmdHoldForce .holdForce (fun p => pn p 0 4 < 131072 ∧ 1 < pn p 4 1) rParam 4 ∧
    m cmdRecordSet .recordSet (fun p => pn p 0 4 < 131072 ∧ c.recordCode (pn p 0 4) (pn p 8 16) = rOK ∧
      (c.region (pn p 0 4)).spill = 0) (fun p => (let d := (c.recordWrite (pn p 0 4) (pn p 8 16)).2
        layOut 16 [(0, 4, pn p 0 4), (8, 4, (d.shownCharge (pn p 0 4)).1), (12, 4, (d.shownCharge (pn p 0 4)).2)])) [] [.stor]
      (fun p t => t.chip.region (pn p 0 4) = (c.region (pn p 0 4)).withRecord (pn p 8 16) ∧ others (pn p 0 4) t) ∧
    no cmdRecordSet .recordSet (fun p => pn p 0 4 < 131072 ∧ c.recordCode (pn p 0 4) (pn p 8 16) = rNotFound) rNotFound 0 ∧
    (∀ r, s.takes cmdRecordArm r → pn r.params 0 4 < 131072 → pn r.params 4 1 ≤ 1 →
      c.recordCode (pn r.params 0 4) ({ c.region (pn r.params 0 4) with arm := false }.recordRec + pn r.params 4 1) = rOK →
      Gives (.recordArm r) s fun t => Done s r [] [] [.stor] t ∧
        (t.chip.region (pn r.params 0 4)).arm = (pn r.params 4 1 == 1) ∧ others (pn r.params 0 4) t) ∧
    no cmdRecordArm .recordArm (fun p => pn p 0 4 < 131072 ∧ 1 < pn p 4 1) rParam 4 ∧
    m cmdReplayStart .replayStart (fun p => pn p 0 2 ≤ 1023 ∧ (c.replayStart (pn p 0 2) (pn p 8 64)).1 = rOK ∧
      c.now + nsT 20000000 ≤ unpackTime (cursorOf (pn p 8 64)).l)
      (fun p => layOut 24 [(0, 2, pn p 0 2), (8, 16, (cursorOf (pn p 8 64)).l)]) [] [.stor] (fun p t =>
      t.chip.cursor (pn p 0 2) = { cursorOf (pn p 8 64) with state := 1, next := (t.chip.cursor (pn p 0 2)).next } ∧
        (∀ k, k ≠ pn p 0 2 → t.chip.cursor k = c.cursor k) ∧ t.chip.stor.regions = c.stor.regions) ∧
    no cmdReplayStart .replayStart (fun p => 1023 < pn p 0 2 ∧ pn p 0 2 ≠ 0xFFFF) rParam 0 ∧
    m cmdReplayStop .replayStop (fun p => pn p 0 2 < 1024 ∧ (c.cursor (pn p 0 2)).state = 1) none_ [] [.stor] (fun p t =>
      t.chip.cursor (pn p 0 2) = { c.cursor (pn p 0 2) with state := 2, cause := 4 } ∧
        t.chip.stor.regions = c.stor.regions) ∧
    no cmdReplayStop .replayStop (fun p => 1024 ≤ pn p 0 2) rParam 0 ∧
    m cmdScrubSet .scrubSet (fun p => bits (pn p 0 4) 15 0 ≠ 0) none_ (regFlds .STOR .STOR_SCRUB_CFG) [] (fun p t =>
      Holds .STOR .STOR_SCRUB_CFG 0 (pn p 0 4) t) ∧
    no cmdScrubSet .scrubSet (fun p => bits (pn p 0 4) 15 0 = 0) rParam 0 ∧
    (∀ r, s.takes cmdSpillPrepare r → ∀ d, c.driveAnswers (pn r.params 0 1) = some d → pn r.params 0 1 ≤ 1 →
      pn r.params 4 4 = 0x53504C31 →
      (c.extentHeld (pn r.params 0 1) = false → d.formats = true → Gives (.spillPrepare r) s fun t =>
        Done s r (toLE 4 (d.capacity / 65536) ++ toLE 4 0 ++ toLE 8 d.capacity) [.STOR_SPILL_STAT_READY, .STOR_SPILL_STAT_FAULT]
          [.spil, .stor] t ∧ (t.chip.spilS (pn r.params 0 1)).prepared = some (d.capacity / 65536) ∧
          t.chip.is .STOR_SPILL_STAT_READY (pn r.params 0 1) = true ∧
          t.chip.is .STOR_SPILL_STAT_FAULT (pn r.params 0 1) = false ∧ t.chip.stor.regions = c.stor.regions) ∧
      (c.extentHeld (pn r.params 0 1) = true → Gives (.spillPrepare r) s (Denied s r rInUse 0))) ∧
    no cmdSpillPrepare .spillPrepare (fun p => pn p 0 1 ≤ 1 ∧ pn p 4 4 = 0x53504C31 ∧ c.driveAnswers (pn p 0 1) = none)
      rNotFound 0 ∧
    m cmdSpillSet .spillSet (fun p => pn p 0 1 ≤ 1 ∧ spillCfgOk (pn p 8 8) = true) none_ (regFlds .STOR .STOR_SPILL_CFG) []
      (fun p t => Holds .STOR .STOR_SPILL_CFG (pn p 0 1) (pn p 8 8) t) ∧
    no cmdSpillSet .spillSet (fun p => 1 < pn p 0 1) rParam 0 ∧
    (∀ r, s.takes cmdSlotPower r → pn r.params 0 1 ≤ 1 → pn r.params 1 1 ≤ 1 → c.domainOn 45 = true →
      (pn r.params 1 1 = 0 → c.powered (pn r.params 0 1) = true → Gives (.slotPower r) s fun t =>
        Answered r 0 0 [] t ∧ t.chip.powered (pn r.params 0 1) = false ∧
          t.chip.is .SPIL_SLOT_CTRL_PERST_REL (pn r.params 0 1) = false ∧ SameStore s t) ∧
      (pn r.params 1 1 = 1 → c.powered (pn r.params 0 1) = false → (c.spilS (pn r.params 0 1)).drive = none →
        Gives (.slotPower r) s (Denied s r rNotFound 0)) ∧
      (pn r.params 1 1 = 1 → c.powered (pn r.params 0 1) = false →
        ∀ d, (c.spilS (pn r.params 0 1)).drive = some d →
        (d.trains = false ∨ c.is .SPIL_SLOT_STATUS_PWR_FAULT (pn r.params 0 1) = true) →
        Gives (.slotPower r) s fun t => Answered r stInternal 0 [] t ∧ Counted s r t ∧
          t.chip.powered (pn r.params 0 1) = false ∧ SamePlane s t ∧ SameStore s t) ∧
      (pn r.params 1 1 = 1 → c.powered (pn r.params 0 1) = false →
        ∀ d, (c.spilS (pn r.params 0 1)).drive = some d → d.trains = true →
        c.is .SPIL_SLOT_STATUS_PWR_FAULT (pn r.params 0 1) = false → Gives (.slotPower r) s fun t =>
          Answered r 0 0 [] t ∧ t.chip.powered (pn r.params 0 1) = true ∧
            t.chip.is .SPIL_SLOT_CTRL_PERST_REL (pn r.params 0 1) = true ∧
            t.chip.is .SPIL_SLOT_STATUS_LINK_UP (pn r.params 0 1) = true ∧ SamePlane s t ∧ SameStore s t)) ∧
    m cmdSlotLocate .slotLocate (fun p => pn p 0 1 ≤ 1 ∧ pn p 1 1 ≤ 1) none_ [.SPIL_SLOT_CTRL_ATTN_IND] [.spil] (fun p t =>
      t.chip.spilS (pn p 0 1) = { c.spilS (pn p 0 1) with locating := pn p 1 1 == 1 }) ∧
    m cmdDuoCfg .duoCfg (fun p => pn p 0 1 ≤ 1 ∧ pn p 8 1 ≤ 1 ∧ 100 ≤ pn p 4 4 ∧ pn p 4 4 ≤ 10000 ∧ c.duoState = 0 ∧
      (c.groupPorts 31).any c.portNamed = false ∧ pn p 0 1 = 0) none_ (regFlds .DUO .DUO_CFG ++ [.DUO_STATUS_SOLE_BARRED])
        [.duo] (fun p t => t.chip.is .DUO_CFG_ENABLE 0 = false ∧
        t.chip.fld .DUO_CFG_SILENCE_US 0 = pn p 4 4 ∧ t.chip.fld .DUO_CFG_SPLIT_POLICY 0 = pn p 8 1 ∧ t.chip.fld .DUO_CFG_TAKEOVER_WITH_GAPS 0 = bits (pn p 9 1) 0 0) ∧
    (∀ r, s.takes cmdDuoCfg r → pn r.params 0 1 = 1 → pn r.params 8 1 ≤ 1 → 100 ≤ pn r.params 4 4 → pn r.params 4 4 ≤ 10000 →
      c.duoState = 0 → (c.groupPorts 31).any c.portNamed = false → c.is .DBG_STATUS_FTEST 0 = false →
      c.is .DUO_CFG_ENABLE 0 = false → Gives (.duoCfg r) s fun t =>
        Answered r 0 0 [] t ∧ Counted s r t ∧ t.chip.is .DUO_CFG_ENABLE 0 = true ∧
          t.chip.fld .DUO_CFG_SILENCE_US 0 = pn r.params 4 4 ∧ t.chip.fld .DUO_CFG_SPLIT_POLICY 0 = pn r.params 8 1 ∧
          t.chip.fld .PORT_GRP_CFG_SPLIT 31 = 0 ∧ t.chip.is .PORT_CFG_ENABLE 248 = true ∧ t.chip.duoState = 0 ∧
          SameStore s t) ∧
    no cmdDuoCfg .duoCfg (fun p => pn p 0 1 ≤ 1 ∧ pn p 8 1 ≤ 1 ∧ 100 ≤ pn p 4 4 ∧ pn p 4 4 ≤ 10000 ∧ c.duoState ≠ 0) rInUse 0 ∧
    (∀ r, s.takes cmdDuoJoin r → Gives (.duoJoin r) s fun t =>
      (t.chip.slot r.slot).st = 2 ∧ t.chip.duo.asked = some r.slot ∧ (c.link 248 = 3 → Sent s t (.duoMessage 0)) ∧
        (c.link 248 ≠ 3 → NotSent s t Output.duoMessage) ∧ Counted s r t ∧ SameRegs mbxFlds s t ∧ Kept [.duo] s t) ∧
    m cmdDuoLeave .duoLeave (fun _ => c.duoState = 0) none_ [] [] (fun _ _ => True) ∧
    (∀ r, s.takes cmdDuoLeave r → c.duoState = 2 → c.duoActive = true → Gives (.duoLeave r) s fun t =>
      Answered r 0 0 [] t ∧ Counted s r t ∧ t.chip.duo.leave = true ∧ t.chip.duo.swapDue = true ∧ t.chip.duoState = 2 ∧
        SameRegs mbxFlds s t ∧ Kept [.duo] s t) ∧
    (∀ r, s.takes cmdDuoLeave r → (c.duoState = 2 ∧ c.duoActive = false ∧ c.duo.pend = []) ∨ c.duoState = 3 → Gives (.duoLeave r) s fun t =>
      Answered r 0 0 [] t ∧ t.chip.duoState = 0 ∧ t.chip.duo.unacked = [] ∧
        (∀ p, p < 256 → t.chip.is .PORT_CFG_ENABLE p = false) ∧ t.chip.is .DUO_STATUS_SOLE_BARRED 0 = false ∧
        t.chip.is .DUO_CFG_ENABLE 0 = c.is .DUO_CFG_ENABLE 0 ∧ SameStore s t) ∧
    m cmdDuoSwap .duoSwap (fun _ => True) none_ [] [.duo] (fun _ t => t.chip.duo.swapDue = true) ∧
    m cmdFltCfg .fltCfg (fun p => 1 ≤ pn p 0 4 ∧ pn p 0 4 ≤ 60000 ∧ 1 ≤ pn p 4 2 ∧ pn p 4 2 ≤ 1000 ∧ 1 ≤ pn p 8 4 ∧
      pn p 8 4 ≤ 86400) none_ (regFlds .FLT .FLT_CFG) [] (fun p t => t.chip.fld .FLT_CFG_QUIET_MS 0 = pn p 0 4 ∧
      t.chip.fld .FLT_CFG_LIMIT 0 = pn p 4 2 ∧ t.chip.fld .FLT_CFG_WINDOW_S 0 = pn p 8 4) ∧
    no cmdFltCfg .fltCfg (fun p => 60000 < pn p 0 4) rParam 0 ∧
    m cmdFltClearFirst .fltClearFirst (fun _ => True) none_ [.FLT_FIRST_CAUSE_CAUSE, .FLT_FIRST_CAUSE_HI_CAUSE_HI,
      .FLT_FIRST_TIME_TIME, .FLT_FIRST_TIME_HI_TIME_HI] [] (fun _ t => t.chip.fld .FLT_FIRST_CAUSE_CAUSE 0 = 0 ∧
      t.chip.fld .FLT_FIRST_CAUSE_HI_CAUSE_HI 0 = 0 ∧ t.chip.fld .FLT_FIRST_TIME_TIME 0 = 0 ∧
      t.chip.fld .FLT_FIRST_TIME_HI_TIME_HI 0 = 0) ∧
    (∀ r, s.takes cmdPwrDomainSet r → c.hasDomain (pn r.params 0 1) = true →
      (pn r.params 1 1 = 1 → c.requested (pn r.params 0 1) = false → Gives (.pwrDomainSet r) s fun t =>
        Answered r 0 0 [] t ∧ Counted s r t ∧ t.chip.requested (pn r.params 0 1) = true ∧ SameStore s t) ∧
      (pn r.params 1 1 = 0 → c.offCode (pn r.params 0 1) = rOK → c.requested (pn r.params 0 1) = true →
        (c.duoState = 2 → pn r.params 0 1 < 32 ∨ (40 ≤ pn r.params 0 1 ∧ pn r.params 0 1 ≠ 45)) →
        Gives (.pwrDomainSet r) s fun t => Answered r 0 0 [] t ∧ Counted s r t ∧ t.chip.requested (pn r.params 0 1) = false ∧
          t.chip.domainOn (pn r.params 0 1) = false ∧ t.mram = s.mram ∧ t.pending = s.pending) ∧
      (pn r.params 1 1 = 0 → c.offCode (pn r.params 0 1) ≠ rOK →
        Gives (.pwrDomainSet r) s (Denied s r (c.offCode (pn r.params 0 1)) 0))) ∧
    no cmdPwrDomainSet .pwrDomainSet (fun p => pn p 1 1 ≤ 1 ∧ c.hasDomain (pn p 0 1) = false) rParam 0 ∧
    m cmdSlackSet .slackSet (fun p => pn p 0 1 ≤ 3 ∧ slackCtrlOk (pn p 4 4) = true ∧ slackCfgOk (pn p 8 4) = true ∧
      c.domainOn (40 + pn p 0 1) = true) none_ (regFlds .CORE .CORE_SLACK_CTRL ++ regFlds .CORE .CORE_SLACK_CFG) [.core]
      (fun p t => Holds .CORE .CORE_SLACK_CTRL (pn p 0 1) (pn p 4 4) t ∧ Holds .CORE .CORE_SLACK_CFG (pn p 0 1) (pn p 8 4) t) ∧
    no cmdSlackSet .slackSet (fun p => 3 < pn p 0 1) rParam 0 ∧
    (∀ r, s.takes cmdAvsSet r → avsCtrlOk (pn r.params 0 4) = true → avsLimitsOk (pn r.params 8 8) = true →
      Gives (.avsSet r) s fun t => Answered r 0 0 [] t ∧ Counted s r t ∧
        Holds .CORE .CORE_AVS_CTRL 0 (pn r.params 0 4) t ∧ Holds .CORE .CORE_AVS_LIMITS 0 (pn r.params 8 8) t ∧ SamePlane s t ∧
        SameStore s t) ∧
    no cmdAvsSet .avsSet (fun p => avsCtrlOk (pn p 0 4) = false) rParam 0 ∧
    m cmdStageLeadSet .stageLeadSet (fun p => c.populated (pn p 0 1) = true ∧ 800 ≤ pn p 4 2 ∧ pn p 4 2 ≤ 10000 ∧
      c.domainOn (40 + quadOf (pn p 0 1)) = true ∧ (c.groupPorts (pn p 0 1)).all (fun k => c.berthsOf k == []) = true) none_
      [.CORE_STAGE_LEAD_LEAD] [] (fun p t => t.chip.fld .CORE_STAGE_LEAD_LEAD (pn p 0 1) = pn p 4 2 ∧
        ∀ g, g ≠ pn p 0 1 → t.chip.fld .CORE_STAGE_LEAD_LEAD g = c.fld .CORE_STAGE_LEAD_LEAD g) ∧
    no cmdStageLeadSet .stageLeadSet (fun p => c.populated (pn p 0 1) = true ∧ pn p 4 2 < 800) rParam 4 ∧
    m cmdMonAccess .monAccess (fun p => pn p 0 1 ≤ 1) none_ [.DBG_STATUS_MON_UNLOCKED] [] (fun p t =>
      t.chip.fld .DBG_STATUS_MON_UNLOCKED 0 = pn p 0 1) ∧
    no cmdMonAccess .monAccess (fun p => 1 < pn p 0 1) rParam 0 ∧
    (∀ r, s.takes cmdFreeze r → Gives (.freeze r) s fun t =>
      Answered r 0 0 [] t ∧ Counted s r t ∧ t.chip.dbg.latchMbx = true ∧ t.chip.frozen = true ∧
        t.chip.fld .DBG_STATUS_LAST_SOURCE 0 = 3 ∧ SamePlane s t ∧ SameStore s t) ∧
    m cmdCaptureRelease .captureRelease (fun _ => True) none_ [.DBG_STATUS_CAPTURE_HELD, .DBG_STATUS_CAP_LINES,
      .DBG_STATUS_CAP_LOST_SEEN] [] (fun _ t => t.chip.capHeld = false)

/-! ### Rules stated whole -/

/-- R58: a 64-bit read of TIME_NOW answers bits 63:0 of the voted time and latches bits 95:64 in TIME_NOW_HI for its path; a
read of TIME_NOW_HI answers what is latched, so that read first it answers what the TIME_NOW read before it left. For
the host driver and for the monitor's path; neither read changes a register. -/
def Obligations.TimeNowReads : Prop :=
  ∀ (s : State) src, s.up → (src = .host → s.chip.hostServed = true) →
    (Gives (.registerRead src 0x50000 8) s fun t =>
      t.chip.out = s.chip.out ++ [.readData src 0 8 (packTime s.chip.now % 2 ^ 64)] ∧
        kGet 0 (t.chip.path src).hi 0x50008 = packTime s.chip.now / 2 ^ 64 ∧ t.chip.regs = s.chip.regs ∧
        SamePlane s t ∧ SameStore s t) ∧
    (∀ len ∈ [4, 8], Gives (.registerRead src 0x50008 len) s fun t =>
      t.chip.out = s.chip.out ++ [.readData src 0 len (kGet 0 (s.chip.path src).hi 0x50008 % 2 ^ 32)] ∧
        (t.chip.path src).hi = (s.chip.path src).hi ∧ t.chip.regs = s.chip.regs ∧ SamePlane s t ∧ SameStore s t)

/-- R89: a write to a profile that a key entry references is dropped whole: every register keeps its value, and STRM_PARAM,
of class contained, is reported. A key inserted names its profile; an insertion under a profile whose VALID is 0 ends
with PARAM and leaves the tables as they were. -/
def Obligations.ProfileWrites : Prop :=
  kindClass 0x301 = 1 ∧
  ∀ (s : State) src, s.chip.admits src .STRM →
    (∀ n v, n < 16 → v < 2 ^ 64 → s.chip.profUsed n = true →
      Gives (.registerWrite src (0xA00800 + 8 * n) 8 v) s fun t =>
        SameRegs eventFlds s t ∧ t.chip.flt.batch = s.chip.flt.batch ++ [⟨0x3010, 0x301, 0xA00800 + 8 * n, false⟩] ∧
          SamePlane s t ∧ SameStore s t) ∧
    (∀ data, let k := s.chip.normKey (keyOf s.chip.strmData)
      let h := keyHandle s.chip.strmData
      k.profile = bits s.chip.strmData 19 16 ∧
      (s.chip.is .STRM_PROFILE_VALID k.profile = true → s.chip.is .STRM_PROFILE_PORT_IN_KEY k.profile = false →
        (s.chip.handle h).valid = true → s.chip.keysOf h < 8 → s.chip.strm.keys.length < 61440 →
        s.chip.findKey k = none → Gives (.strmKeyInsert src data) s fun t =>
          t.chip.strm.keys = s.chip.strm.keys ++ [(k, h)] ∧ t.chip.profUsed k.profile = true ∧
            t.chip.fld .STRM_STATUS_RESULT 0 = 0 ∧ SameStore s t) ∧
      (s.chip.is .STRM_PROFILE_VALID k.profile = false → Gives (.strmKeyInsert src data) s fun t =>
        t.chip.strm = s.chip.strm ∧ t.chip.fld .STRM_STATUS_RESULT 0 = 5 ∧ SameStore s t))

/-- R38: a write of CORE_SLACK_CTRL takes effect when RAISE_THR < WARN_THR < LOWER_THR, and a write of CORE_SLACK_CFG when
TARGET_SIZE lies in 64-128; any other is dropped whole, every register keeps its value, and CORE_PARAM, of class
contained, is reported. The quadrant's domain is on. -/
def Obligations.SlackRules : Prop :=
  kindClass 0x008 = 1 ∧
  ∀ (s : State) src q v, s.chip.admits src .CORE → q < 4 → v < 2 ^ 32 → s.chip.domainOn (40 + q) = true →
    let ctrl := 0x80000 + 0x100 * q
    let cfg := 0x80004 + 0x100 * q
    let dropped (off : Nat) (t : State) : Prop :=
      SameRegs eventFlds s t ∧ t.chip.flt.batch = s.chip.flt.batch ++ [⟨q, 0x008, off, false⟩] ∧ SamePlane s t ∧ SameStore s t
    (bits v 7 0 < bits v 15 8 ∧ bits v 15 8 < bits v 23 16 → Gives (.registerWrite src ctrl 4 v) s fun t =>
      t.chip.fld .CORE_SLACK_CTRL_ENABLE q = bits v 31 31 ∧ t.chip.fld .CORE_SLACK_CTRL_LOWER_THR q = bits v 23 16 ∧
        t.chip.fld .CORE_SLACK_CTRL_WARN_THR q = bits v 15 8 ∧ t.chip.fld .CORE_SLACK_CTRL_RAISE_THR q = bits v 7 0 ∧
        SameRegs ([.CORE_SLACK_CTRL_ENABLE, .CORE_SLACK_CTRL_LOWER_THR, .CORE_SLACK_CTRL_WARN_THR,
          .CORE_SLACK_CTRL_RAISE_THR] ++ eventFlds) s t ∧ SamePlane s t ∧ SameStore s t) ∧
    (¬ (bits v 7 0 < bits v 15 8 ∧ bits v 15 8 < bits v 23 16) → Gives (.registerWrite src ctrl 4 v) s (dropped ctrl)) ∧
    (64 ≤ bits v 7 0 ∧ bits v 7 0 ≤ 128 → Gives (.registerWrite src cfg 4 v) s fun t =>
      t.chip.fld .CORE_SLACK_CFG_TARGET_SIZE q = bits v 7 0 ∧
        SameRegs (.CORE_SLACK_CFG_TARGET_SIZE :: eventFlds) s t ∧ SamePlane s t ∧ SameStore s t) ∧
    (¬ (64 ≤ bits v 7 0 ∧ bits v 7 0 ≤ 128) → Gives (.registerWrite src cfg 4 v) s (dropped cfg))

/-- R55: one counter that alone differs is reloaded from the voted time at the edge; RELOADS counts it, RELOAD_SEEN is set,
LAST_BAD names the counter, TIME_CTR_RELOAD, of class corrected, is reported; timed traffic is as it was. -/
def Obligations.CounterReloaded : Prop :=
  kindClass 0x102 = 0 ∧
  ∀ s k v, s.chip.ticking = true → k < 3 → v % timeWrap ≠ s.chip.raw → Gives (.timeCtrReload k v) s fun t =>
    t.chip.time.ctr0 = s.chip.raw % timeWrap ∧ t.chip.time.ctr1 = s.chip.raw % timeWrap ∧
      t.chip.time.ctr2 = s.chip.raw % timeWrap ∧ t.chip.is .TIME_STATUS_RELOAD_SEEN 0 = true ∧
      t.chip.fld .TIME_STATUS_LAST_BAD 0 = k ∧
      t.chip.fld .TIME_VOTE_CNT_RELOADS 0 = satAdd 32 (s.chip.fld .TIME_VOTE_CNT_RELOADS 0) 1 ∧
      t.chip.flt.batch = s.chip.flt.batch ++ [⟨0x1000, 0x102, k, false⟩] ∧
      SameRegs [.TIME_STATUS_RELOAD_SEEN, .TIME_STATUS_LAST_BAD, .TIME_VOTE_CNT_RELOADS] s t ∧ SamePlane s t ∧
      SameStore s t
end

