-- ==== Sys2Proof/Laws/Map.lean ====
section
/-!
SUPPORT. Laws/Map.lean: what reading a keyed map answers after it is written, and that writing keeps its keys rising.
-/
namespace Sys2Proof

variable {α : Type}

@[simp] theorem kFind_kInsert (m : KMap α) (k j : Nat) (v : α) :
    kFind (kInsert m k v) j = if k = j then some v else kFind m j := by
  induction m with
  | nil => simp [kInsert, kFind]
  | cons e r ih =>
    obtain ⟨a, x⟩ := e
    simp only [kInsert]
    split
    · simp [kFind]
    · split
      · subst k
        by_cases h : a = j <;> simp [kFind, h]
      · by_cases h : a = j
        · subst a
          simp_all [kFind]
        · simp [kFind, ih, h]

@[simp] theorem kFind_kErase (m : KMap α) (k j : Nat) :
    kFind (kErase m k) j = if k = j then none else kFind m j := by
  induction m with
  | nil => simp [kErase, kFind]
  | cons e r ih =>
    obtain ⟨a, x⟩ := e
    unfold kErase at ih ⊢
    by_cases hk : a = k
    · subst a
      simp only [List.filter_cons, bne_self_eq_false, Bool.false_eq_true, ↓reduceIte, ih, kFind]
      split <;> rfl
    · have : (a != k) = true := by simpa using hk
      simp only [List.filter_cons, this, ↓reduceIte, kFind, ih]
      by_cases h : a = j
      · subst a
        simp [Ne.symm hk]
      · simp [h]

@[simp] theorem kGet_kInsert (d : α) (m : KMap α) (k j : Nat) (v : α) :
    kGet d (kInsert m k v) j = if k = j then v else kGet d m j := by
  unfold kGet
  rw [kFind_kInsert]
  split <;> rfl

@[simp] theorem kGet_kErase (d : α) (m : KMap α) (k j : Nat) :
    kGet d (kErase m k) j = if k = j then d else kGet d m j := by
  unfold kGet
  rw [kFind_kErase]
  split <;> rfl

@[simp] theorem kGet_kPut [DecidableEq α] (d : α) (m : KMap α) (k j : Nat) (v : α) :
    kGet d (kPut d m k v) j = if k = j then v else kGet d m j := by
  unfold kPut
  split
  · subst v
    exact kGet_kErase d m k j
  · exact kGet_kInsert d m k j v

/-- Every key of a map is at least n. -/
def kAbove (n : Nat) (m : KMap α) : Prop := ∀ e ∈ m, n < e.1

theorem kSorted_cons (a : Nat) (x : α) (r : KMap α) : kSorted ((a, x) :: r) = true ↔ kAbove a r ∧ kSorted r = true := by
  induction r generalizing a x with
  | nil => simp [kSorted, kAbove]
  | cons e r ih =>
    obtain ⟨b, y⟩ := e
    constructor
    · intro h
      simp only [kSorted, Bool.and_eq_true, decide_eq_true_eq] at h
      refine ⟨?_, h.2⟩
      intro e he
      rcases List.mem_cons.1 he with rfl | he
      · exact h.1
      · exact Nat.lt_trans h.1 (((ih b y).1 h.2).1 e he)
    · intro h
      simp only [kSorted, Bool.and_eq_true, decide_eq_true_eq]
      exact ⟨h.1 (b, y) (List.mem_cons_self ..), h.2⟩

theorem kErase_sorted (m : KMap α) (k : Nat) (h : kSorted m = true) : kSorted (kErase m k) = true := by
  induction m with
  | nil => rfl
  | cons e r ih =>
    obtain ⟨a, x⟩ := e
    obtain ⟨h1, h2⟩ := (kSorted_cons a x r).1 h
    unfold kErase at ih ⊢
    simp only [List.filter_cons]
    split
    · exact (kSorted_cons _ _ _).2 ⟨fun e he => h1 e (List.mem_filter.1 he).1, ih h2⟩
    · exact ih h2

theorem kInsert_above (m : KMap α) (n k : Nat) (v : α) (h : kAbove n m) (hk : n < k) : kAbove n (kInsert m k v) := by
  induction m with
  | nil =>
    intro e he
    simp only [kInsert, List.mem_singleton] at he
    subst he
    exact hk
  | cons e r ih =>
    obtain ⟨a, x⟩ := e
    have hr : kAbove n r := fun e he => h e (List.mem_cons_of_mem _ he)
    have ha : n < a := h (a, x) (List.mem_cons_self ..)
    simp only [kInsert]
    split
    · intro e he
      rcases List.mem_cons.1 he with rfl | he
      · exact hk
      · exact h e he
    · split
      · intro e he
        rcases List.mem_cons.1 he with rfl | he
        · exact hk
        · exact hr e he
      · intro e he
        rcases List.mem_cons.1 he with rfl | he
        · exact ha
        · exact ih hr e he

theorem kInsert_sorted (m : KMap α) (k : Nat) (v : α) (h : kSorted m = true) : kSorted (kInsert m k v) = true := by
  induction m with
  | nil => rfl
  | cons e r ih =>
    obtain ⟨a, x⟩ := e
    obtain ⟨h1, h2⟩ := (kSorted_cons a x r).1 h
    simp only [kInsert]
    split
    · rename_i hlt
      refine (kSorted_cons _ _ _).2 ⟨?_, h⟩
      intro e he
      rcases List.mem_cons.1 he with rfl | he
      · exact hlt
      · exact Nat.lt_trans hlt (h1 e he)
    · split
      · subst k
        exact (kSorted_cons _ _ _).2 ⟨h1, h2⟩
      · exact (kSorted_cons _ _ _).2 ⟨kInsert_above r a k v h1 (by omega), ih h2⟩

theorem kPut_sorted [DecidableEq α] (d : α) (m : KMap α) (k : Nat) (v : α) (h : kSorted m = true) :
    kSorted (kPut d m k v) = true := by
  unfold kPut
  split
  · exact kErase_sorted m k h
  · exact kInsert_sorted m k v h

theorem setAt_length (l : List α) (i : Nat) (v : α) : (setAt l i v).length = l.length := by
  induction l generalizing i with
  | nil => rfl
  | cons x r ih => cases i <;> simp [setAt, ih]

@[simp] theorem setAt_getD (l : List α) (i j : Nat) (v d : α) :
    (setAt l i v).getD j d = if i = j ∧ i < l.length then v else l.getD j d := by
  induction l generalizing i j with
  | nil => simp [setAt]
  | cons x r ih =>
    cases i <;> cases j <;> simp [setAt]
    rename_i a b
    simpa using ih a b

@[simp] theorem toLE_length (n v : Nat) : (toLE n v).length = n := by
  induction n generalizing v with
  | zero => rfl
  | succ n ih => simp [toLE, ih]

theorem leNat_toLE (n v : Nat) : leNat (toLE n v) = v % 256 ^ n := by
  induction n generalizing v with
  | zero => simp [toLE, leNat, Nat.mod_one]
  | succ n ih =>
    simp only [toLE, leNat, ih, BitVec.toNat_ofNat]
    rw [show 256 ^ (n + 1) = 256 * 256 ^ n by omega, Nat.mod_mul]

end Sys2Proof
end

