-- ==== Sys2Proof/Laws/State.lean ====
section
/-!
SUPPORT. Laws/State.lean: what a field of the device, or of the state, holds after an update: one lemma per field per
update, true by unfolding.
-/
namespace Sys2Proof.Machine

variable (c : Chip) (s : State)

/-! ### setF -/

@[simp] theorem Chip.setF_ident (f : Fld) (i v : Nat) : (c.setF f i v).ident = c.ident := rfl
@[simp] theorem Chip.setF_avs (f : Fld) (i v : Nat) : (c.setF f i v).avs = c.avs := rfl
@[simp] theorem Chip.setF_slack (f : Fld) (i v : Nat) : (c.setF f i v).slack = c.slack := rfl
@[simp] theorem Chip.setF_time (f : Fld) (i v : Nat) : (c.setF f i v).time = c.time := rfl
@[simp] theorem Chip.setF_mbx (f : Fld) (i v : Nat) : (c.setF f i v).mbx = c.mbx := rfl
@[simp] theorem Chip.setF_flt (f : Fld) (i v : Nat) : (c.setF f i v).flt = c.flt := rfl
@[simp] theorem Chip.setF_out (f : Fld) (i v : Nat) : (c.setF f i v).out = c.out := rfl
@[simp] theorem Chip.setF_free (f : Fld) (i v : Nat) : (c.setF f i v).free = c.free := rfl
@[simp] theorem Chip.setF_host (f : Fld) (i v : Nat) : (c.setF f i v).host = c.host := rfl
@[simp] theorem Chip.setF_hostPath (f : Fld) (i v : Nat) : (c.setF f i v).hostPath = c.hostPath := rfl
@[simp] theorem Chip.setF_monPath (f : Fld) (i v : Nat) : (c.setF f i v).monPath = c.monPath := rfl
@[simp] theorem Chip.setF_spil (f : Fld) (i v : Nat) : (c.setF f i v).spil = c.spil := rfl
@[simp] theorem Chip.setF_pwr (f : Fld) (i v : Nat) : (c.setF f i v).pwr = c.pwr := rfl
@[simp] theorem Chip.setF_dbg (f : Fld) (i v : Nat) : (c.setF f i v).dbg = c.dbg := rfl
@[simp] theorem Chip.setF_bridge (f : Fld) (i v : Nat) : (c.setF f i v).bridge = c.bridge := rfl
@[simp] theorem Chip.setF_strm (f : Fld) (i v : Nat) : (c.setF f i v).strm = c.strm := rfl
@[simp] theorem Chip.setF_plane (f : Fld) (i v : Nat) : (c.setF f i v).plane = c.plane := rfl
@[simp] theorem Chip.setF_brkw (f : Fld) (i v : Nat) : (c.setF f i v).brkw = c.brkw := rfl
@[simp] theorem Chip.setF_stor (f : Fld) (i v : Nat) : (c.setF f i v).stor = c.stor := rfl
@[simp] theorem Chip.setF_dma (f : Fld) (i v : Nat) : (c.setF f i v).dma = c.dma := rfl
@[simp] theorem Chip.setF_duo (f : Fld) (i v : Nat) : (c.setF f i v).duo = c.duo := rfl

/-! ### emit -/

@[simp] theorem Chip.emit_regs (o : Output) : (c.emit o).regs = c.regs := rfl
@[simp] theorem Chip.emit_ident (o : Output) : (c.emit o).ident = c.ident := rfl
@[simp] theorem Chip.emit_avs (o : Output) : (c.emit o).avs = c.avs := rfl
@[simp] theorem Chip.emit_slack (o : Output) : (c.emit o).slack = c.slack := rfl
@[simp] theorem Chip.emit_time (o : Output) : (c.emit o).time = c.time := rfl
@[simp] theorem Chip.emit_mbx (o : Output) : (c.emit o).mbx = c.mbx := rfl
@[simp] theorem Chip.emit_flt (o : Output) : (c.emit o).flt = c.flt := rfl
@[simp] theorem Chip.emit_free (o : Output) : (c.emit o).free = c.free := rfl
@[simp] theorem Chip.emit_hostPath (o : Output) : (c.emit o).hostPath = c.hostPath := rfl
@[simp] theorem Chip.emit_monPath (o : Output) : (c.emit o).monPath = c.monPath := rfl
@[simp] theorem Chip.emit_spil (o : Output) : (c.emit o).spil = c.spil := rfl
@[simp] theorem Chip.emit_pwr (o : Output) : (c.emit o).pwr = c.pwr := rfl
@[simp] theorem Chip.emit_dbg (o : Output) : (c.emit o).dbg = c.dbg := rfl
@[simp] theorem Chip.emit_bridge (o : Output) : (c.emit o).bridge = c.bridge := rfl
@[simp] theorem Chip.emit_strm (o : Output) : (c.emit o).strm = c.strm := rfl
@[simp] theorem Chip.emit_plane (o : Output) : (c.emit o).plane = c.plane := rfl
@[simp] theorem Chip.emit_brkw (o : Output) : (c.emit o).brkw = c.brkw := rfl
@[simp] theorem Chip.emit_stor (o : Output) : (c.emit o).stor = c.stor := rfl
@[simp] theorem Chip.emit_dma (o : Output) : (c.emit o).dma = c.dma := rfl
@[simp] theorem Chip.emit_duo (o : Output) : (c.emit o).duo = c.duo := rfl
@[simp] theorem Chip.emit_fld (o : Output) (g : Fld) (j : Nat) : (c.emit o).fld g j = c.fld g j := rfl

/-! ### reportR -/

@[simp] theorem Chip.reportR_regs (r : Report) : (c.reportR r).regs = c.regs := rfl
@[simp] theorem Chip.reportR_ident (r : Report) : (c.reportR r).ident = c.ident := rfl
@[simp] theorem Chip.reportR_avs (r : Report) : (c.reportR r).avs = c.avs := rfl
@[simp] theorem Chip.reportR_slack (r : Report) : (c.reportR r).slack = c.slack := rfl
@[simp] theorem Chip.reportR_time (r : Report) : (c.reportR r).time = c.time := rfl
@[simp] theorem Chip.reportR_mbx (r : Report) : (c.reportR r).mbx = c.mbx := rfl
@[simp] theorem Chip.reportR_out (r : Report) : (c.reportR r).out = c.out := rfl
@[simp] theorem Chip.reportR_free (r : Report) : (c.reportR r).free = c.free := rfl
@[simp] theorem Chip.reportR_host (r : Report) : (c.reportR r).host = c.host := rfl
@[simp] theorem Chip.reportR_hostPath (r : Report) : (c.reportR r).hostPath = c.hostPath := rfl
@[simp] theorem Chip.reportR_monPath (r : Report) : (c.reportR r).monPath = c.monPath := rfl
@[simp] theorem Chip.reportR_spil (r : Report) : (c.reportR r).spil = c.spil := rfl
@[simp] theorem Chip.reportR_pwr (r : Report) : (c.reportR r).pwr = c.pwr := rfl
@[simp] theorem Chip.reportR_dbg (r : Report) : (c.reportR r).dbg = c.dbg := rfl
@[simp] theorem Chip.reportR_bridge (r : Report) : (c.reportR r).bridge = c.bridge := rfl
@[simp] theorem Chip.reportR_strm (r : Report) : (c.reportR r).strm = c.strm := rfl
@[simp] theorem Chip.reportR_plane (r : Report) : (c.reportR r).plane = c.plane := rfl
@[simp] theorem Chip.reportR_brkw (r : Report) : (c.reportR r).brkw = c.brkw := rfl
@[simp] theorem Chip.reportR_stor (r : Report) : (c.reportR r).stor = c.stor := rfl
@[simp] theorem Chip.reportR_dma (r : Report) : (c.reportR r).dma = c.dma := rfl
@[simp] theorem Chip.reportR_duo (r : Report) : (c.reportR r).duo = c.duo := rfl
@[simp] theorem Chip.reportR_fld (r : Report) (g : Fld) (j : Nat) : (c.reportR r).fld g j = c.fld g j := rfl

/-! ### setRaw -/

@[simp] theorem Chip.setRaw_regs (v : Nat) : (c.setRaw v).regs = c.regs := rfl
@[simp] theorem Chip.setRaw_ident (v : Nat) : (c.setRaw v).ident = c.ident := rfl
@[simp] theorem Chip.setRaw_avs (v : Nat) : (c.setRaw v).avs = c.avs := rfl
@[simp] theorem Chip.setRaw_slack (v : Nat) : (c.setRaw v).slack = c.slack := rfl
@[simp] theorem Chip.setRaw_mbx (v : Nat) : (c.setRaw v).mbx = c.mbx := rfl
@[simp] theorem Chip.setRaw_flt (v : Nat) : (c.setRaw v).flt = c.flt := rfl
@[simp] theorem Chip.setRaw_out (v : Nat) : (c.setRaw v).out = c.out := rfl
@[simp] theorem Chip.setRaw_free (v : Nat) : (c.setRaw v).free = c.free := rfl
@[simp] theorem Chip.setRaw_host (v : Nat) : (c.setRaw v).host = c.host := rfl
@[simp] theorem Chip.setRaw_hostPath (v : Nat) : (c.setRaw v).hostPath = c.hostPath := rfl
@[simp] theorem Chip.setRaw_monPath (v : Nat) : (c.setRaw v).monPath = c.monPath := rfl
@[simp] theorem Chip.setRaw_spil (v : Nat) : (c.setRaw v).spil = c.spil := rfl
@[simp] theorem Chip.setRaw_pwr (v : Nat) : (c.setRaw v).pwr = c.pwr := rfl
@[simp] theorem Chip.setRaw_dbg (v : Nat) : (c.setRaw v).dbg = c.dbg := rfl
@[simp] theorem Chip.setRaw_bridge (v : Nat) : (c.setRaw v).bridge = c.bridge := rfl
@[simp] theorem Chip.setRaw_strm (v : Nat) : (c.setRaw v).strm = c.strm := rfl
@[simp] theorem Chip.setRaw_plane (v : Nat) : (c.setRaw v).plane = c.plane := rfl
@[simp] theorem Chip.setRaw_brkw (v : Nat) : (c.setRaw v).brkw = c.brkw := rfl
@[simp] theorem Chip.setRaw_stor (v : Nat) : (c.setRaw v).stor = c.stor := rfl
@[simp] theorem Chip.setRaw_dma (v : Nat) : (c.setRaw v).dma = c.dma := rfl
@[simp] theorem Chip.setRaw_duo (v : Nat) : (c.setRaw v).duo = c.duo := rfl
@[simp] theorem Chip.setRaw_fld (v : Nat) (g : Fld) (j : Nat) : (c.setRaw v).fld g j = c.fld g j := rfl

/-! ### setTime -/

@[simp] theorem Chip.setTime_regs (x : TimeS) : (c.setTime x).regs = c.regs := rfl
@[simp] theorem Chip.setTime_ident (x : TimeS) : (c.setTime x).ident = c.ident := rfl
@[simp] theorem Chip.setTime_avs (x : TimeS) : (c.setTime x).avs = c.avs := rfl
@[simp] theorem Chip.setTime_slack (x : TimeS) : (c.setTime x).slack = c.slack := rfl
@[simp] theorem Chip.setTime_time (x : TimeS) : (c.setTime x).time = x := rfl
@[simp] theorem Chip.setTime_mbx (x : TimeS) : (c.setTime x).mbx = c.mbx := rfl
@[simp] theorem Chip.setTime_flt (x : TimeS) : (c.setTime x).flt = c.flt := rfl
@[simp] theorem Chip.setTime_out (x : TimeS) : (c.setTime x).out = c.out := rfl
@[simp] theorem Chip.setTime_free (x : TimeS) : (c.setTime x).free = c.free := rfl
@[simp] theorem Chip.setTime_host (x : TimeS) : (c.setTime x).host = c.host := rfl
@[simp] theorem Chip.setTime_hostPath (x : TimeS) : (c.setTime x).hostPath = c.hostPath := rfl
@[simp] theorem Chip.setTime_monPath (x : TimeS) : (c.setTime x).monPath = c.monPath := rfl
@[simp] theorem Chip.setTime_spil (x : TimeS) : (c.setTime x).spil = c.spil := rfl
@[simp] theorem Chip.setTime_pwr (x : TimeS) : (c.setTime x).pwr = c.pwr := rfl
@[simp] theorem Chip.setTime_dbg (x : TimeS) : (c.setTime x).dbg = c.dbg := rfl
@[simp] theorem Chip.setTime_bridge (x : TimeS) : (c.setTime x).bridge = c.bridge := rfl
@[simp] theorem Chip.setTime_strm (x : TimeS) : (c.setTime x).strm = c.strm := rfl
@[simp] theorem Chip.setTime_plane (x : TimeS) : (c.setTime x).plane = c.plane := rfl
@[simp] theorem Chip.setTime_brkw (x : TimeS) : (c.setTime x).brkw = c.brkw := rfl
@[simp] theorem Chip.setTime_stor (x : TimeS) : (c.setTime x).stor = c.stor := rfl
@[simp] theorem Chip.setTime_dma (x : TimeS) : (c.setTime x).dma = c.dma := rfl
@[simp] theorem Chip.setTime_duo (x : TimeS) : (c.setTime x).duo = c.duo := rfl
@[simp] theorem Chip.setTime_fld (x : TimeS) (g : Fld) (j : Nat) : (c.setTime x).fld g j = c.fld g j := rfl

/-! ### setMbx -/

@[simp] theorem Chip.setMbx_regs (x : MbxS) : (c.setMbx x).regs = c.regs := rfl
@[simp] theorem Chip.setMbx_ident (x : MbxS) : (c.setMbx x).ident = c.ident := rfl
@[simp] theorem Chip.setMbx_avs (x : MbxS) : (c.setMbx x).avs = c.avs := rfl
@[simp] theorem Chip.setMbx_slack (x : MbxS) : (c.setMbx x).slack = c.slack := rfl
@[simp] theorem Chip.setMbx_time (x : MbxS) : (c.setMbx x).time = c.time := rfl
@[simp] theorem Chip.setMbx_mbx (x : MbxS) : (c.setMbx x).mbx = x := rfl
@[simp] theorem Chip.setMbx_flt (x : MbxS) : (c.setMbx x).flt = c.flt := rfl
@[simp] theorem Chip.setMbx_out (x : MbxS) : (c.setMbx x).out = c.out := rfl
@[simp] theorem Chip.setMbx_free (x : MbxS) : (c.setMbx x).free = c.free := rfl
@[simp] theorem Chip.setMbx_host (x : MbxS) : (c.setMbx x).host = c.host := rfl
@[simp] theorem Chip.setMbx_hostPath (x : MbxS) : (c.setMbx x).hostPath = c.hostPath := rfl
@[simp] theorem Chip.setMbx_monPath (x : MbxS) : (c.setMbx x).monPath = c.monPath := rfl
@[simp] theorem Chip.setMbx_spil (x : MbxS) : (c.setMbx x).spil = c.spil := rfl
@[simp] theorem Chip.setMbx_pwr (x : MbxS) : (c.setMbx x).pwr = c.pwr := rfl
@[simp] theorem Chip.setMbx_dbg (x : MbxS) : (c.setMbx x).dbg = c.dbg := rfl
@[simp] theorem Chip.setMbx_bridge (x : MbxS) : (c.setMbx x).bridge = c.bridge := rfl
@[simp] theorem Chip.setMbx_strm (x : MbxS) : (c.setMbx x).strm = c.strm := rfl
@[simp] theorem Chip.setMbx_plane (x : MbxS) : (c.setMbx x).plane = c.plane := rfl
@[simp] theorem Chip.setMbx_brkw (x : MbxS) : (c.setMbx x).brkw = c.brkw := rfl
@[simp] theorem Chip.setMbx_stor (x : MbxS) : (c.setMbx x).stor = c.stor := rfl
@[simp] theorem Chip.setMbx_dma (x : MbxS) : (c.setMbx x).dma = c.dma := rfl
@[simp] theorem Chip.setMbx_duo (x : MbxS) : (c.setMbx x).duo = c.duo := rfl
@[simp] theorem Chip.setMbx_fld (x : MbxS) (g : Fld) (j : Nat) : (c.setMbx x).fld g j = c.fld g j := rfl

/-! ### setFlt -/

@[simp] theorem Chip.setFlt_regs (x : FltS) : (c.setFlt x).regs = c.regs := rfl
@[simp] theorem Chip.setFlt_ident (x : FltS) : (c.setFlt x).ident = c.ident := rfl
@[simp] theorem Chip.setFlt_avs (x : FltS) : (c.setFlt x).avs = c.avs := rfl
@[simp] theorem Chip.setFlt_slack (x : FltS) : (c.setFlt x).slack = c.slack := rfl
@[simp] theorem Chip.setFlt_time (x : FltS) : (c.setFlt x).time = c.time := rfl
@[simp] theorem Chip.setFlt_mbx (x : FltS) : (c.setFlt x).mbx = c.mbx := rfl
@[simp] theorem Chip.setFlt_flt (x : FltS) : (c.setFlt x).flt = x := rfl
@[simp] theorem Chip.setFlt_out (x : FltS) : (c.setFlt x).out = c.out := rfl
@[simp] theorem Chip.setFlt_free (x : FltS) : (c.setFlt x).free = c.free := rfl
@[simp] theorem Chip.setFlt_host (x : FltS) : (c.setFlt x).host = c.host := rfl
@[simp] theorem Chip.setFlt_hostPath (x : FltS) : (c.setFlt x).hostPath = c.hostPath := rfl
@[simp] theorem Chip.setFlt_monPath (x : FltS) : (c.setFlt x).monPath = c.monPath := rfl
@[simp] theorem Chip.setFlt_spil (x : FltS) : (c.setFlt x).spil = c.spil := rfl
@[simp] theorem Chip.setFlt_pwr (x : FltS) : (c.setFlt x).pwr = c.pwr := rfl
@[simp] theorem Chip.setFlt_dbg (x : FltS) : (c.setFlt x).dbg = c.dbg := rfl
@[simp] theorem Chip.setFlt_bridge (x : FltS) : (c.setFlt x).bridge = c.bridge := rfl
@[simp] theorem Chip.setFlt_strm (x : FltS) : (c.setFlt x).strm = c.strm := rfl
@[simp] theorem Chip.setFlt_plane (x : FltS) : (c.setFlt x).plane = c.plane := rfl
@[simp] theorem Chip.setFlt_brkw (x : FltS) : (c.setFlt x).brkw = c.brkw := rfl
@[simp] theorem Chip.setFlt_stor (x : FltS) : (c.setFlt x).stor = c.stor := rfl
@[simp] theorem Chip.setFlt_dma (x : FltS) : (c.setFlt x).dma = c.dma := rfl
@[simp] theorem Chip.setFlt_duo (x : FltS) : (c.setFlt x).duo = c.duo := rfl
@[simp] theorem Chip.setFlt_fld (x : FltS) (g : Fld) (j : Nat) : (c.setFlt x).fld g j = c.fld g j := rfl

/-! ### setHost -/

@[simp] theorem Chip.setHost_regs (x : HostS) : (c.setHost x).regs = c.regs := rfl
@[simp] theorem Chip.setHost_ident (x : HostS) : (c.setHost x).ident = c.ident := rfl
@[simp] theorem Chip.setHost_avs (x : HostS) : (c.setHost x).avs = c.avs := rfl
@[simp] theorem Chip.setHost_slack (x : HostS) : (c.setHost x).slack = c.slack := rfl
@[simp] theorem Chip.setHost_time (x : HostS) : (c.setHost x).time = c.time := rfl
@[simp] theorem Chip.setHost_mbx (x : HostS) : (c.setHost x).mbx = c.mbx := rfl
@[simp] theorem Chip.setHost_flt (x : HostS) : (c.setHost x).flt = c.flt := rfl
@[simp] theorem Chip.setHost_out (x : HostS) : (c.setHost x).out = c.out := rfl
@[simp] theorem Chip.setHost_free (x : HostS) : (c.setHost x).free = c.free := rfl
@[simp] theorem Chip.setHost_host (x : HostS) : (c.setHost x).host = x := rfl
@[simp] theorem Chip.setHost_hostPath (x : HostS) : (c.setHost x).hostPath = c.hostPath := rfl
@[simp] theorem Chip.setHost_monPath (x : HostS) : (c.setHost x).monPath = c.monPath := rfl
@[simp] theorem Chip.setHost_spil (x : HostS) : (c.setHost x).spil = c.spil := rfl
@[simp] theorem Chip.setHost_pwr (x : HostS) : (c.setHost x).pwr = c.pwr := rfl
@[simp] theorem Chip.setHost_dbg (x : HostS) : (c.setHost x).dbg = c.dbg := rfl
@[simp] theorem Chip.setHost_bridge (x : HostS) : (c.setHost x).bridge = c.bridge := rfl
@[simp] theorem Chip.setHost_strm (x : HostS) : (c.setHost x).strm = c.strm := rfl
@[simp] theorem Chip.setHost_plane (x : HostS) : (c.setHost x).plane = c.plane := rfl
@[simp] theorem Chip.setHost_brkw (x : HostS) : (c.setHost x).brkw = c.brkw := rfl
@[simp] theorem Chip.setHost_stor (x : HostS) : (c.setHost x).stor = c.stor := rfl
@[simp] theorem Chip.setHost_dma (x : HostS) : (c.setHost x).dma = c.dma := rfl
@[simp] theorem Chip.setHost_duo (x : HostS) : (c.setHost x).duo = c.duo := rfl
@[simp] theorem Chip.setHost_fld (x : HostS) (g : Fld) (j : Nat) : (c.setHost x).fld g j = c.fld g j := rfl

/-! ### setPwr -/

@[simp] theorem Chip.setPwr_regs (x : PwrS) : (c.setPwr x).regs = c.regs := rfl
@[simp] theorem Chip.setPwr_ident (x : PwrS) : (c.setPwr x).ident = c.ident := rfl
@[simp] theorem Chip.setPwr_avs (x : PwrS) : (c.setPwr x).avs = c.avs := rfl
@[simp] theorem Chip.setPwr_slack (x : PwrS) : (c.setPwr x).slack = c.slack := rfl
@[simp] theorem Chip.setPwr_time (x : PwrS) : (c.setPwr x).time = c.time := rfl
@[simp] theorem Chip.setPwr_mbx (x : PwrS) : (c.setPwr x).mbx = c.mbx := rfl
@[simp] theorem Chip.setPwr_flt (x : PwrS) : (c.setPwr x).flt = c.flt := rfl
@[simp] theorem Chip.setPwr_out (x : PwrS) : (c.setPwr x).out = c.out := rfl
@[simp] theorem Chip.setPwr_free (x : PwrS) : (c.setPwr x).free = c.free := rfl
@[simp] theorem Chip.setPwr_host (x : PwrS) : (c.setPwr x).host = c.host := rfl
@[simp] theorem Chip.setPwr_hostPath (x : PwrS) : (c.setPwr x).hostPath = c.hostPath := rfl
@[simp] theorem Chip.setPwr_monPath (x : PwrS) : (c.setPwr x).monPath = c.monPath := rfl
@[simp] theorem Chip.setPwr_spil (x : PwrS) : (c.setPwr x).spil = c.spil := rfl
@[simp] theorem Chip.setPwr_pwr (x : PwrS) : (c.setPwr x).pwr = x := rfl
@[simp] theorem Chip.setPwr_dbg (x : PwrS) : (c.setPwr x).dbg = c.dbg := rfl
@[simp] theorem Chip.setPwr_bridge (x : PwrS) : (c.setPwr x).bridge = c.bridge := rfl
@[simp] theorem Chip.setPwr_strm (x : PwrS) : (c.setPwr x).strm = c.strm := rfl
@[simp] theorem Chip.setPwr_plane (x : PwrS) : (c.setPwr x).plane = c.plane := rfl
@[simp] theorem Chip.setPwr_brkw (x : PwrS) : (c.setPwr x).brkw = c.brkw := rfl
@[simp] theorem Chip.setPwr_stor (x : PwrS) : (c.setPwr x).stor = c.stor := rfl
@[simp] theorem Chip.setPwr_dma (x : PwrS) : (c.setPwr x).dma = c.dma := rfl
@[simp] theorem Chip.setPwr_duo (x : PwrS) : (c.setPwr x).duo = c.duo := rfl
@[simp] theorem Chip.setPwr_fld (x : PwrS) (g : Fld) (j : Nat) : (c.setPwr x).fld g j = c.fld g j := rfl

/-! ### setDbg -/

@[simp] theorem Chip.setDbg_regs (x : DbgS) : (c.setDbg x).regs = c.regs := rfl
@[simp] theorem Chip.setDbg_ident (x : DbgS) : (c.setDbg x).ident = c.ident := rfl
@[simp] theorem Chip.setDbg_avs (x : DbgS) : (c.setDbg x).avs = c.avs := rfl
@[simp] theorem Chip.setDbg_slack (x : DbgS) : (c.setDbg x).slack = c.slack := rfl
@[simp] theorem Chip.setDbg_time (x : DbgS) : (c.setDbg x).time = c.time := rfl
@[simp] theorem Chip.setDbg_mbx (x : DbgS) : (c.setDbg x).mbx = c.mbx := rfl
@[simp] theorem Chip.setDbg_flt (x : DbgS) : (c.setDbg x).flt = c.flt := rfl
@[simp] theorem Chip.setDbg_out (x : DbgS) : (c.setDbg x).out = c.out := rfl
@[simp] theorem Chip.setDbg_free (x : DbgS) : (c.setDbg x).free = c.free := rfl
@[simp] theorem Chip.setDbg_host (x : DbgS) : (c.setDbg x).host = c.host := rfl
@[simp] theorem Chip.setDbg_hostPath (x : DbgS) : (c.setDbg x).hostPath = c.hostPath := rfl
@[simp] theorem Chip.setDbg_monPath (x : DbgS) : (c.setDbg x).monPath = c.monPath := rfl
@[simp] theorem Chip.setDbg_spil (x : DbgS) : (c.setDbg x).spil = c.spil := rfl
@[simp] theorem Chip.setDbg_pwr (x : DbgS) : (c.setDbg x).pwr = c.pwr := rfl
@[simp] theorem Chip.setDbg_dbg (x : DbgS) : (c.setDbg x).dbg = x := rfl
@[simp] theorem Chip.setDbg_bridge (x : DbgS) : (c.setDbg x).bridge = c.bridge := rfl
@[simp] theorem Chip.setDbg_strm (x : DbgS) : (c.setDbg x).strm = c.strm := rfl
@[simp] theorem Chip.setDbg_plane (x : DbgS) : (c.setDbg x).plane = c.plane := rfl
@[simp] theorem Chip.setDbg_brkw (x : DbgS) : (c.setDbg x).brkw = c.brkw := rfl
@[simp] theorem Chip.setDbg_stor (x : DbgS) : (c.setDbg x).stor = c.stor := rfl
@[simp] theorem Chip.setDbg_dma (x : DbgS) : (c.setDbg x).dma = c.dma := rfl
@[simp] theorem Chip.setDbg_duo (x : DbgS) : (c.setDbg x).duo = c.duo := rfl
@[simp] theorem Chip.setDbg_fld (x : DbgS) (g : Fld) (j : Nat) : (c.setDbg x).fld g j = c.fld g j := rfl

/-! ### setAvs -/

@[simp] theorem Chip.setAvs_regs (x : AvsS) : (c.setAvs x).regs = c.regs := rfl
@[simp] theorem Chip.setAvs_ident (x : AvsS) : (c.setAvs x).ident = c.ident := rfl
@[simp] theorem Chip.setAvs_avs (x : AvsS) : (c.setAvs x).avs = x := rfl
@[simp] theorem Chip.setAvs_slack (x : AvsS) : (c.setAvs x).slack = c.slack := rfl
@[simp] theorem Chip.setAvs_time (x : AvsS) : (c.setAvs x).time = c.time := rfl
@[simp] theorem Chip.setAvs_mbx (x : AvsS) : (c.setAvs x).mbx = c.mbx := rfl
@[simp] theorem Chip.setAvs_flt (x : AvsS) : (c.setAvs x).flt = c.flt := rfl
@[simp] theorem Chip.setAvs_out (x : AvsS) : (c.setAvs x).out = c.out := rfl
@[simp] theorem Chip.setAvs_free (x : AvsS) : (c.setAvs x).free = c.free := rfl
@[simp] theorem Chip.setAvs_host (x : AvsS) : (c.setAvs x).host = c.host := rfl
@[simp] theorem Chip.setAvs_hostPath (x : AvsS) : (c.setAvs x).hostPath = c.hostPath := rfl
@[simp] theorem Chip.setAvs_monPath (x : AvsS) : (c.setAvs x).monPath = c.monPath := rfl
@[simp] theorem Chip.setAvs_spil (x : AvsS) : (c.setAvs x).spil = c.spil := rfl
@[simp] theorem Chip.setAvs_pwr (x : AvsS) : (c.setAvs x).pwr = c.pwr := rfl
@[simp] theorem Chip.setAvs_dbg (x : AvsS) : (c.setAvs x).dbg = c.dbg := rfl
@[simp] theorem Chip.setAvs_bridge (x : AvsS) : (c.setAvs x).bridge = c.bridge := rfl
@[simp] theorem Chip.setAvs_strm (x : AvsS) : (c.setAvs x).strm = c.strm := rfl
@[simp] theorem Chip.setAvs_plane (x : AvsS) : (c.setAvs x).plane = c.plane := rfl
@[simp] theorem Chip.setAvs_brkw (x : AvsS) : (c.setAvs x).brkw = c.brkw := rfl
@[simp] theorem Chip.setAvs_stor (x : AvsS) : (c.setAvs x).stor = c.stor := rfl
@[simp] theorem Chip.setAvs_dma (x : AvsS) : (c.setAvs x).dma = c.dma := rfl
@[simp] theorem Chip.setAvs_duo (x : AvsS) : (c.setAvs x).duo = c.duo := rfl
@[simp] theorem Chip.setAvs_fld (x : AvsS) (g : Fld) (j : Nat) : (c.setAvs x).fld g j = c.fld g j := rfl

/-! ### setStrm -/

@[simp] theorem Chip.setStrm_regs (x : StrmS) : (c.setStrm x).regs = c.regs := rfl
@[simp] theorem Chip.setStrm_ident (x : StrmS) : (c.setStrm x).ident = c.ident := rfl
@[simp] theorem Chip.setStrm_avs (x : StrmS) : (c.setStrm x).avs = c.avs := rfl
@[simp] theorem Chip.setStrm_slack (x : StrmS) : (c.setStrm x).slack = c.slack := rfl
@[simp] theorem Chip.setStrm_time (x : StrmS) : (c.setStrm x).time = c.time := rfl
@[simp] theorem Chip.setStrm_mbx (x : StrmS) : (c.setStrm x).mbx = c.mbx := rfl
@[simp] theorem Chip.setStrm_flt (x : StrmS) : (c.setStrm x).flt = c.flt := rfl
@[simp] theorem Chip.setStrm_out (x : StrmS) : (c.setStrm x).out = c.out := rfl
@[simp] theorem Chip.setStrm_free (x : StrmS) : (c.setStrm x).free = c.free := rfl
@[simp] theorem Chip.setStrm_host (x : StrmS) : (c.setStrm x).host = c.host := rfl
@[simp] theorem Chip.setStrm_hostPath (x : StrmS) : (c.setStrm x).hostPath = c.hostPath := rfl
@[simp] theorem Chip.setStrm_monPath (x : StrmS) : (c.setStrm x).monPath = c.monPath := rfl
@[simp] theorem Chip.setStrm_spil (x : StrmS) : (c.setStrm x).spil = c.spil := rfl
@[simp] theorem Chip.setStrm_pwr (x : StrmS) : (c.setStrm x).pwr = c.pwr := rfl
@[simp] theorem Chip.setStrm_dbg (x : StrmS) : (c.setStrm x).dbg = c.dbg := rfl
@[simp] theorem Chip.setStrm_bridge (x : StrmS) : (c.setStrm x).bridge = c.bridge := rfl
@[simp] theorem Chip.setStrm_strm (x : StrmS) : (c.setStrm x).strm = x := rfl
@[simp] theorem Chip.setStrm_plane (x : StrmS) : (c.setStrm x).plane = c.plane := rfl
@[simp] theorem Chip.setStrm_brkw (x : StrmS) : (c.setStrm x).brkw = c.brkw := rfl
@[simp] theorem Chip.setStrm_stor (x : StrmS) : (c.setStrm x).stor = c.stor := rfl
@[simp] theorem Chip.setStrm_dma (x : StrmS) : (c.setStrm x).dma = c.dma := rfl
@[simp] theorem Chip.setStrm_duo (x : StrmS) : (c.setStrm x).duo = c.duo := rfl
@[simp] theorem Chip.setStrm_fld (x : StrmS) (g : Fld) (j : Nat) : (c.setStrm x).fld g j = c.fld g j := rfl

/-! ### setPlane -/

@[simp] theorem Chip.setPlane_regs (x : PlaneS) : (c.setPlane x).regs = c.regs := rfl
@[simp] theorem Chip.setPlane_ident (x : PlaneS) : (c.setPlane x).ident = c.ident := rfl
@[simp] theorem Chip.setPlane_avs (x : PlaneS) : (c.setPlane x).avs = c.avs := rfl
@[simp] theorem Chip.setPlane_slack (x : PlaneS) : (c.setPlane x).slack = c.slack := rfl
@[simp] theorem Chip.setPlane_time (x : PlaneS) : (c.setPlane x).time = c.time := rfl
@[simp] theorem Chip.setPlane_mbx (x : PlaneS) : (c.setPlane x).mbx = c.mbx := rfl
@[simp] theorem Chip.setPlane_flt (x : PlaneS) : (c.setPlane x).flt = c.flt := rfl
@[simp] theorem Chip.setPlane_out (x : PlaneS) : (c.setPlane x).out = c.out := rfl
@[simp] theorem Chip.setPlane_free (x : PlaneS) : (c.setPlane x).free = c.free := rfl
@[simp] theorem Chip.setPlane_host (x : PlaneS) : (c.setPlane x).host = c.host := rfl
@[simp] theorem Chip.setPlane_hostPath (x : PlaneS) : (c.setPlane x).hostPath = c.hostPath := rfl
@[simp] theorem Chip.setPlane_monPath (x : PlaneS) : (c.setPlane x).monPath = c.monPath := rfl
@[simp] theorem Chip.setPlane_spil (x : PlaneS) : (c.setPlane x).spil = c.spil := rfl
@[simp] theorem Chip.setPlane_pwr (x : PlaneS) : (c.setPlane x).pwr = c.pwr := rfl
@[simp] theorem Chip.setPlane_dbg (x : PlaneS) : (c.setPlane x).dbg = c.dbg := rfl
@[simp] theorem Chip.setPlane_bridge (x : PlaneS) : (c.setPlane x).bridge = c.bridge := rfl
@[simp] theorem Chip.setPlane_strm (x : PlaneS) : (c.setPlane x).strm = c.strm := rfl
@[simp] theorem Chip.setPlane_plane (x : PlaneS) : (c.setPlane x).plane = x := rfl
@[simp] theorem Chip.setPlane_brkw (x : PlaneS) : (c.setPlane x).brkw = c.brkw := rfl
@[simp] theorem Chip.setPlane_stor (x : PlaneS) : (c.setPlane x).stor = c.stor := rfl
@[simp] theorem Chip.setPlane_dma (x : PlaneS) : (c.setPlane x).dma = c.dma := rfl
@[simp] theorem Chip.setPlane_duo (x : PlaneS) : (c.setPlane x).duo = c.duo := rfl
@[simp] theorem Chip.setPlane_fld (x : PlaneS) (g : Fld) (j : Nat) : (c.setPlane x).fld g j = c.fld g j := rfl

/-! ### setBrkwS -/

@[simp] theorem Chip.setBrkwS_regs (x : BrkwS) : (c.setBrkwS x).regs = c.regs := rfl
@[simp] theorem Chip.setBrkwS_ident (x : BrkwS) : (c.setBrkwS x).ident = c.ident := rfl
@[simp] theorem Chip.setBrkwS_avs (x : BrkwS) : (c.setBrkwS x).avs = c.avs := rfl
@[simp] theorem Chip.setBrkwS_slack (x : BrkwS) : (c.setBrkwS x).slack = c.slack := rfl
@[simp] theorem Chip.setBrkwS_time (x : BrkwS) : (c.setBrkwS x).time = c.time := rfl
@[simp] theorem Chip.setBrkwS_mbx (x : BrkwS) : (c.setBrkwS x).mbx = c.mbx := rfl
@[simp] theorem Chip.setBrkwS_flt (x : BrkwS) : (c.setBrkwS x).flt = c.flt := rfl
@[simp] theorem Chip.setBrkwS_out (x : BrkwS) : (c.setBrkwS x).out = c.out := rfl
@[simp] theorem Chip.setBrkwS_free (x : BrkwS) : (c.setBrkwS x).free = c.free := rfl
@[simp] theorem Chip.setBrkwS_host (x : BrkwS) : (c.setBrkwS x).host = c.host := rfl
@[simp] theorem Chip.setBrkwS_hostPath (x : BrkwS) : (c.setBrkwS x).hostPath = c.hostPath := rfl
@[simp] theorem Chip.setBrkwS_monPath (x : BrkwS) : (c.setBrkwS x).monPath = c.monPath := rfl
@[simp] theorem Chip.setBrkwS_spil (x : BrkwS) : (c.setBrkwS x).spil = c.spil := rfl
@[simp] theorem Chip.setBrkwS_pwr (x : BrkwS) : (c.setBrkwS x).pwr = c.pwr := rfl
@[simp] theorem Chip.setBrkwS_dbg (x : BrkwS) : (c.setBrkwS x).dbg = c.dbg := rfl
@[simp] theorem Chip.setBrkwS_bridge (x : BrkwS) : (c.setBrkwS x).bridge = c.bridge := rfl
@[simp] theorem Chip.setBrkwS_strm (x : BrkwS) : (c.setBrkwS x).strm = c.strm := rfl
@[simp] theorem Chip.setBrkwS_plane (x : BrkwS) : (c.setBrkwS x).plane = c.plane := rfl
@[simp] theorem Chip.setBrkwS_brkw (x : BrkwS) : (c.setBrkwS x).brkw = x := rfl
@[simp] theorem Chip.setBrkwS_stor (x : BrkwS) : (c.setBrkwS x).stor = c.stor := rfl
@[simp] theorem Chip.setBrkwS_dma (x : BrkwS) : (c.setBrkwS x).dma = c.dma := rfl
@[simp] theorem Chip.setBrkwS_duo (x : BrkwS) : (c.setBrkwS x).duo = c.duo := rfl
@[simp] theorem Chip.setBrkwS_fld (x : BrkwS) (g : Fld) (j : Nat) : (c.setBrkwS x).fld g j = c.fld g j := rfl

/-! ### setStor -/

@[simp] theorem Chip.setStor_regs (x : StorS) : (c.setStor x).regs = c.regs := rfl
@[simp] theorem Chip.setStor_ident (x : StorS) : (c.setStor x).ident = c.ident := rfl
@[simp] theorem Chip.setStor_avs (x : StorS) : (c.setStor x).avs = c.avs := rfl
@[simp] theorem Chip.setStor_slack (x : StorS) : (c.setStor x).slack = c.slack := rfl
@[simp] theorem Chip.setStor_time (x : StorS) : (c.setStor x).time = c.time := rfl
@[simp] theorem Chip.setStor_mbx (x : StorS) : (c.setStor x).mbx = c.mbx := rfl
@[simp] theorem Chip.setStor_flt (x : StorS) : (c.setStor x).flt = c.flt := rfl
@[simp] theorem Chip.setStor_out (x : StorS) : (c.setStor x).out = c.out := rfl
@[simp] theorem Chip.setStor_free (x : StorS) : (c.setStor x).free = c.free := rfl
@[simp] theorem Chip.setStor_host (x : StorS) : (c.setStor x).host = c.host := rfl
@[simp] theorem Chip.setStor_hostPath (x : StorS) : (c.setStor x).hostPath = c.hostPath := rfl
@[simp] theorem Chip.setStor_monPath (x : StorS) : (c.setStor x).monPath = c.monPath := rfl
@[simp] theorem Chip.setStor_spil (x : StorS) : (c.setStor x).spil = c.spil := rfl
@[simp] theorem Chip.setStor_pwr (x : StorS) : (c.setStor x).pwr = c.pwr := rfl
@[simp] theorem Chip.setStor_dbg (x : StorS) : (c.setStor x).dbg = c.dbg := rfl
@[simp] theorem Chip.setStor_bridge (x : StorS) : (c.setStor x).bridge = c.bridge := rfl
@[simp] theorem Chip.setStor_strm (x : StorS) : (c.setStor x).strm = c.strm := rfl
@[simp] theorem Chip.setStor_plane (x : StorS) : (c.setStor x).plane = c.plane := rfl
@[simp] theorem Chip.setStor_brkw (x : StorS) : (c.setStor x).brkw = c.brkw := rfl
@[simp] theorem Chip.setStor_stor (x : StorS) : (c.setStor x).stor = x := rfl
@[simp] theorem Chip.setStor_dma (x : StorS) : (c.setStor x).dma = c.dma := rfl
@[simp] theorem Chip.setStor_duo (x : StorS) : (c.setStor x).duo = c.duo := rfl
@[simp] theorem Chip.setStor_fld (x : StorS) (g : Fld) (j : Nat) : (c.setStor x).fld g j = c.fld g j := rfl

/-! ### setDuo -/

@[simp] theorem Chip.setDuo_regs (x : DuoS) : (c.setDuo x).regs = c.regs := rfl
@[simp] theorem Chip.setDuo_ident (x : DuoS) : (c.setDuo x).ident = c.ident := rfl
@[simp] theorem Chip.setDuo_avs (x : DuoS) : (c.setDuo x).avs = c.avs := rfl
@[simp] theorem Chip.setDuo_slack (x : DuoS) : (c.setDuo x).slack = c.slack := rfl
@[simp] theorem Chip.setDuo_time (x : DuoS) : (c.setDuo x).time = c.time := rfl
@[simp] theorem Chip.setDuo_mbx (x : DuoS) : (c.setDuo x).mbx = c.mbx := rfl
@[simp] theorem Chip.setDuo_flt (x : DuoS) : (c.setDuo x).flt = c.flt := rfl
@[simp] theorem Chip.setDuo_out (x : DuoS) : (c.setDuo x).out = c.out := rfl
@[simp] theorem Chip.setDuo_free (x : DuoS) : (c.setDuo x).free = c.free := rfl
@[simp] theorem Chip.setDuo_host (x : DuoS) : (c.setDuo x).host = c.host := rfl
@[simp] theorem Chip.setDuo_hostPath (x : DuoS) : (c.setDuo x).hostPath = c.hostPath := rfl
@[simp] theorem Chip.setDuo_monPath (x : DuoS) : (c.setDuo x).monPath = c.monPath := rfl
@[simp] theorem Chip.setDuo_spil (x : DuoS) : (c.setDuo x).spil = c.spil := rfl
@[simp] theorem Chip.setDuo_pwr (x : DuoS) : (c.setDuo x).pwr = c.pwr := rfl
@[simp] theorem Chip.setDuo_dbg (x : DuoS) : (c.setDuo x).dbg = c.dbg := rfl
@[simp] theorem Chip.setDuo_bridge (x : DuoS) : (c.setDuo x).bridge = c.bridge := rfl
@[simp] theorem Chip.setDuo_strm (x : DuoS) : (c.setDuo x).strm = c.strm := rfl
@[simp] theorem Chip.setDuo_plane (x : DuoS) : (c.setDuo x).plane = c.plane := rfl
@[simp] theorem Chip.setDuo_brkw (x : DuoS) : (c.setDuo x).brkw = c.brkw := rfl
@[simp] theorem Chip.setDuo_stor (x : DuoS) : (c.setDuo x).stor = c.stor := rfl
@[simp] theorem Chip.setDuo_dma (x : DuoS) : (c.setDuo x).dma = c.dma := rfl
@[simp] theorem Chip.setDuo_duo (x : DuoS) : (c.setDuo x).duo = x := rfl
@[simp] theorem Chip.setDuo_fld (x : DuoS) (g : Fld) (j : Nat) : (c.setDuo x).fld g j = c.fld g j := rfl

/-! ### setSpil -/

@[simp] theorem Chip.setSpil_regs (s : Nat) (x : SpilS) : (c.setSpil s x).regs = c.regs := rfl
@[simp] theorem Chip.setSpil_ident (s : Nat) (x : SpilS) : (c.setSpil s x).ident = c.ident := rfl
@[simp] theorem Chip.setSpil_avs (s : Nat) (x : SpilS) : (c.setSpil s x).avs = c.avs := rfl
@[simp] theorem Chip.setSpil_slack (s : Nat) (x : SpilS) : (c.setSpil s x).slack = c.slack := rfl
@[simp] theorem Chip.setSpil_time (s : Nat) (x : SpilS) : (c.setSpil s x).time = c.time := rfl
@[simp] theorem Chip.setSpil_mbx (s : Nat) (x : SpilS) : (c.setSpil s x).mbx = c.mbx := rfl
@[simp] theorem Chip.setSpil_flt (s : Nat) (x : SpilS) : (c.setSpil s x).flt = c.flt := rfl
@[simp] theorem Chip.setSpil_out (s : Nat) (x : SpilS) : (c.setSpil s x).out = c.out := rfl
@[simp] theorem Chip.setSpil_free (s : Nat) (x : SpilS) : (c.setSpil s x).free = c.free := rfl
@[simp] theorem Chip.setSpil_host (s : Nat) (x : SpilS) : (c.setSpil s x).host = c.host := rfl
@[simp] theorem Chip.setSpil_hostPath (s : Nat) (x : SpilS) : (c.setSpil s x).hostPath = c.hostPath := rfl
@[simp] theorem Chip.setSpil_monPath (s : Nat) (x : SpilS) : (c.setSpil s x).monPath = c.monPath := rfl
@[simp] theorem Chip.setSpil_pwr (s : Nat) (x : SpilS) : (c.setSpil s x).pwr = c.pwr := rfl
@[simp] theorem Chip.setSpil_dbg (s : Nat) (x : SpilS) : (c.setSpil s x).dbg = c.dbg := rfl
@[simp] theorem Chip.setSpil_bridge (s : Nat) (x : SpilS) : (c.setSpil s x).bridge = c.bridge := rfl
@[simp] theorem Chip.setSpil_strm (s : Nat) (x : SpilS) : (c.setSpil s x).strm = c.strm := rfl
@[simp] theorem Chip.setSpil_plane (s : Nat) (x : SpilS) : (c.setSpil s x).plane = c.plane := rfl
@[simp] theorem Chip.setSpil_brkw (s : Nat) (x : SpilS) : (c.setSpil s x).brkw = c.brkw := rfl
@[simp] theorem Chip.setSpil_stor (s : Nat) (x : SpilS) : (c.setSpil s x).stor = c.stor := rfl
@[simp] theorem Chip.setSpil_dma (s : Nat) (x : SpilS) : (c.setSpil s x).dma = c.dma := rfl
@[simp] theorem Chip.setSpil_duo (s : Nat) (x : SpilS) : (c.setSpil s x).duo = c.duo := rfl
@[simp] theorem Chip.setSpil_fld (s : Nat) (x : SpilS) (g : Fld) (j : Nat) : (c.setSpil s x).fld g j = c.fld g j := rfl

/-! ### setDmaCh -/

@[simp] theorem Chip.setDmaCh_regs (ch : Nat) (x : DmaCh) : (c.setDmaCh ch x).regs = c.regs := rfl
@[simp] theorem Chip.setDmaCh_ident (ch : Nat) (x : DmaCh) : (c.setDmaCh ch x).ident = c.ident := rfl
@[simp] theorem Chip.setDmaCh_avs (ch : Nat) (x : DmaCh) : (c.setDmaCh ch x).avs = c.avs := rfl
@[simp] theorem Chip.setDmaCh_slack (ch : Nat) (x : DmaCh) : (c.setDmaCh ch x).slack = c.slack := rfl
@[simp] theorem Chip.setDmaCh_time (ch : Nat) (x : DmaCh) : (c.setDmaCh ch x).time = c.time := rfl
@[simp] theorem Chip.setDmaCh_mbx (ch : Nat) (x : DmaCh) : (c.setDmaCh ch x).mbx = c.mbx := rfl
@[simp] theorem Chip.setDmaCh_flt (ch : Nat) (x : DmaCh) : (c.setDmaCh ch x).flt = c.flt := rfl
@[simp] theorem Chip.setDmaCh_out (ch : Nat) (x : DmaCh) : (c.setDmaCh ch x).out = c.out := rfl
@[simp] theorem Chip.setDmaCh_free (ch : Nat) (x : DmaCh) : (c.setDmaCh ch x).free = c.free := rfl
@[simp] theorem Chip.setDmaCh_host (ch : Nat) (x : DmaCh) : (c.setDmaCh ch x).host = c.host := rfl
@[simp] theorem Chip.setDmaCh_hostPath (ch : Nat) (x : DmaCh) : (c.setDmaCh ch x).hostPath = c.hostPath := rfl
@[simp] theorem Chip.setDmaCh_monPath (ch : Nat) (x : DmaCh) : (c.setDmaCh ch x).monPath = c.monPath := rfl
@[simp] theorem Chip.setDmaCh_spil (ch : Nat) (x : DmaCh) : (c.setDmaCh ch x).spil = c.spil := rfl
@[simp] theorem Chip.setDmaCh_pwr (ch : Nat) (x : DmaCh) : (c.setDmaCh ch x).pwr = c.pwr := rfl
@[simp] theorem Chip.setDmaCh_dbg (ch : Nat) (x : DmaCh) : (c.setDmaCh ch x).dbg = c.dbg := rfl
@[simp] theorem Chip.setDmaCh_bridge (ch : Nat) (x : DmaCh) : (c.setDmaCh ch x).bridge = c.bridge := rfl
@[simp] theorem Chip.setDmaCh_strm (ch : Nat) (x : DmaCh) : (c.setDmaCh ch x).strm = c.strm := rfl
@[simp] theorem Chip.setDmaCh_plane (ch : Nat) (x : DmaCh) : (c.setDmaCh ch x).plane = c.plane := rfl
@[simp] theorem Chip.setDmaCh_brkw (ch : Nat) (x : DmaCh) : (c.setDmaCh ch x).brkw = c.brkw := rfl
@[simp] theorem Chip.setDmaCh_stor (ch : Nat) (x : DmaCh) : (c.setDmaCh ch x).stor = c.stor := rfl
@[simp] theorem Chip.setDmaCh_duo (ch : Nat) (x : DmaCh) : (c.setDmaCh ch x).duo = c.duo := rfl
@[simp] theorem Chip.setDmaCh_fld (ch : Nat) (x : DmaCh) (g : Fld) (j : Nat) : (c.setDmaCh ch x).fld g j = c.fld g j := rfl

/-! ### setCls -/

@[simp] theorem Chip.setCls_regs (k : Nat) (l : List RxItem) : (c.setCls k l).regs = c.regs := rfl
@[simp] theorem Chip.setCls_ident (k : Nat) (l : List RxItem) : (c.setCls k l).ident = c.ident := rfl
@[simp] theorem Chip.setCls_avs (k : Nat) (l : List RxItem) : (c.setCls k l).avs = c.avs := rfl
@[simp] theorem Chip.setCls_slack (k : Nat) (l : List RxItem) : (c.setCls k l).slack = c.slack := rfl
@[simp] theorem Chip.setCls_time (k : Nat) (l : List RxItem) : (c.setCls k l).time = c.time := rfl
@[simp] theorem Chip.setCls_mbx (k : Nat) (l : List RxItem) : (c.setCls k l).mbx = c.mbx := rfl
@[simp] theorem Chip.setCls_flt (k : Nat) (l : List RxItem) : (c.setCls k l).flt = c.flt := rfl
@[simp] theorem Chip.setCls_out (k : Nat) (l : List RxItem) : (c.setCls k l).out = c.out := rfl
@[simp] theorem Chip.setCls_free (k : Nat) (l : List RxItem) : (c.setCls k l).free = c.free := rfl
@[simp] theorem Chip.setCls_host (k : Nat) (l : List RxItem) : (c.setCls k l).host = c.host := rfl
@[simp] theorem Chip.setCls_hostPath (k : Nat) (l : List RxItem) : (c.setCls k l).hostPath = c.hostPath := rfl
@[simp] theorem Chip.setCls_monPath (k : Nat) (l : List RxItem) : (c.setCls k l).monPath = c.monPath := rfl
@[simp] theorem Chip.setCls_spil (k : Nat) (l : List RxItem) : (c.setCls k l).spil = c.spil := rfl
@[simp] theorem Chip.setCls_pwr (k : Nat) (l : List RxItem) : (c.setCls k l).pwr = c.pwr := rfl
@[simp] theorem Chip.setCls_dbg (k : Nat) (l : List RxItem) : (c.setCls k l).dbg = c.dbg := rfl
@[simp] theorem Chip.setCls_bridge (k : Nat) (l : List RxItem) : (c.setCls k l).bridge = c.bridge := rfl
@[simp] theorem Chip.setCls_strm (k : Nat) (l : List RxItem) : (c.setCls k l).strm = c.strm := rfl
@[simp] theorem Chip.setCls_plane (k : Nat) (l : List RxItem) : (c.setCls k l).plane = c.plane := rfl
@[simp] theorem Chip.setCls_brkw (k : Nat) (l : List RxItem) : (c.setCls k l).brkw = c.brkw := rfl
@[simp] theorem Chip.setCls_stor (k : Nat) (l : List RxItem) : (c.setCls k l).stor = c.stor := rfl
@[simp] theorem Chip.setCls_duo (k : Nat) (l : List RxItem) : (c.setCls k l).duo = c.duo := rfl
@[simp] theorem Chip.setCls_fld (k : Nat) (l : List RxItem) (g : Fld) (j : Nat) : (c.setCls k l).fld g j = c.fld g j := rfl

/-! ### Register fields -/

theorem Fld.code_inj (f g : Fld) (h : f.code = g.code) : f = g := by
  have e : ∀ x : Fld, Fld.ofNat x.ctorIdx = x := by intro x; cases x <;> rfl
  rw [← e f, ← e g]
  exact congrArg Fld.ofNat h

theorem Fld.code_lt (f : Fld) : f.code < 1024 := by cases f <;> decide

theorem Fld.key_eq (f g : Fld) (i j : Nat) : f.key i = g.key j ↔ f = g ∧ i = j := by
  unfold Fld.key
  constructor
  · intro h
    have hf := f.code_lt
    have hg := g.code_lt
    have hi : i = j := by omega
    subst hi
    exact ⟨Fld.code_inj f g (by omega), rfl⟩
  · rintro ⟨rfl, rfl⟩
    rfl

/-- A field read after a field is set. -/
@[simp] theorem Chip.setF_fld (f g : Fld) (i j v : Nat) :
    (c.setF f i v).fld g j = if f = g ∧ i = j then v else c.fld g j := by
  unfold Chip.fld Chip.setF kPut
  by_cases h : f = g ∧ i = j
  · obtain ⟨rfl, rfl⟩ := h
    simp only [and_self, ↓reduceIte]
    split <;> simp_all
  · have hk : ¬ f.key i = g.key j := fun e => h ((Fld.key_eq f g i j).1 e)
    simp only [h, ↓reduceIte]
    split <;> simp [hk]

@[simp] theorem Chip.setB_def (f : Fld) (i : Nat) (b : Bool) : c.setB f i b = c.setF f i (bit b) := rfl
@[simp] theorem Chip.resetF_def (f : Fld) (i : Nat) : c.resetF f i = c.setF f i (f.resetAt i) := rfl
@[simp] theorem Chip.countN_def (w : Nat) (f : Fld) (i n : Nat) :
    c.countN w f i n = c.setF f i (satAdd w (c.fld f i) n) := rfl
@[simp] theorem Chip.count_def (w : Nat) (f : Fld) (i : Nat) : c.count w f i = c.setF f i (satAdd w (c.fld f i) 1) := rfl
@[simp] theorem Chip.maxF_def (f : Fld) (i v : Nat) : c.maxF f i v = c.setF f i (max (c.fld f i) v) := rfl
@[simp] theorem Chip.report_def (a k x : Nat) : c.report a k x = c.reportR ⟨a, k, x, false⟩ := rfl

theorem and_pow (n k : Nat) : n &&& 2 ^ k = if n.testBit k then 2 ^ k else 0 := by
  apply Nat.eq_of_testBit_eq
  intro j
  rw [Nat.testBit_and, Nat.testBit_two_pow]
  by_cases h : k = j
  · subst j
    by_cases hb : n.testBit k = true <;> simp [hb, Nat.testBit_two_pow_self]
  · by_cases hb : n.testBit k = true <;> simp [h, hb]

/-- A bit of a bit map after one of its bits is set or cleared. -/
theorem Chip.setBitF_bitF (f : Fld) (i k : Nat) (b : Bool) : (c.setBitF f i k b).bitF f i k = b := by
  unfold Chip.setBitF Chip.bitF
  simp only [Chip.setF_fld, and_self, ↓reduceIte]
  cases b
  · have hs : ∀ n : Nat, (n - (n &&& 2 ^ k)).testBit k = false := by
      intro n
      by_cases h : n.testBit k = true
      · have : n &&& 2 ^ k = 2 ^ k := by rw [and_pow, h]; simp
        rw [this]
        have hge : 2 ^ k ≤ n := Nat.ge_two_pow_of_testBit h
        rw [Nat.testBit_eq_decide_div_mod_eq] at h ⊢
        have := of_decide_eq_true h
        have e : n / 2 ^ k = (n - 2 ^ k) / 2 ^ k + 1 := by
          rw [Nat.div_eq_sub_div (Nat.two_pow_pos k) hge]
        have : ¬ (n - 2 ^ k) / 2 ^ k % 2 = 1 := by omega
        simp [this]
      · have : n &&& 2 ^ k = 0 := by rw [and_pow]; simp [h]
        rw [this]
        simpa using h
    simpa using hs _
  · simp [Nat.testBit_or, Nat.testBit_two_pow_self]

/-! ### The state -/

@[simp] theorem State.on_chip (f : Chip → Chip) : (s.on f).chip = f s.chip := rfl
@[simp] theorem State.on_mem (f : Chip → Chip) : (s.on f).mem = s.mem := rfl
@[simp] theorem State.on_mram (f : Chip → Chip) : (s.on f).mram = s.mram := rfl
@[simp] theorem State.on_pending (f : Chip → Chip) : (s.on f).pending = s.pending := rfl
@[simp] theorem State.withChip_chip (d : Chip) : (s.withChip d).chip = d := rfl
@[simp] theorem State.withChip_mem (d : Chip) : (s.withChip d).mem = s.mem := rfl
@[simp] theorem State.withChip_mram (d : Chip) : (s.withChip d).mram = s.mram := rfl
@[simp] theorem State.withChip_pending (d : Chip) : (s.withChip d).pending = s.pending := rfl
@[simp] theorem State.withPending_chip (l : List Instr) : (s.withPending l).chip = s.chip := rfl
@[simp] theorem State.withPending_mem (l : List Instr) : (s.withPending l).mem = s.mem := rfl
@[simp] theorem State.withPending_mram (l : List Instr) : (s.withPending l).mram = s.mram := rfl
@[simp] theorem State.withPending_pending (l : List Instr) : (s.withPending l).pending = l := rfl

end Sys2Proof.Machine
end

