-- ==== Sys2Proof/Laws/Ops.lean ====
section
/-!
SUPPORT. Laws/Ops.lean: everything the shared operations change: outputs, records, interrupts, events, and the change of
the state Fened shows. What is not named stays as it was.
-/
namespace Sys2Proof.Machine

variable (c : Chip) (s : State)

/-! ### emit -/

@[simp] theorem Chip.emit_host_perst (o : Output) : (c.emit o).host.perst = c.host.perst := rfl
@[simp] theorem Chip.emit_host_ready (o : Output) : (c.emit o).host.ready = c.host.ready := rfl
@[simp] theorem Chip.emit_host_cfg (o : Output) : (c.emit o).host.cfg = c.host.cfg := rfl
@[simp] theorem Chip.emit_host_msix (o : Output) : (c.emit o).host.msix = c.host.msix := rfl
@[simp] theorem Chip.emit_host_pba (o : Output) : (c.emit o).host.pba = c.host.pba := rfl
@[simp] theorem Chip.emit_host_reads (o : Output) : (c.emit o).host.reads = c.host.reads := rfl
@[simp] theorem Chip.emit_host_quar (o : Output) : (c.emit o).host.quar = c.host.quar := rfl
@[simp] theorem Chip.emit_host_turnedOff (o : Output) : (c.emit o).host.turnedOff = c.host.turnedOff := rfl
@[simp] theorem Chip.emit_host_lost (o : Output) : (c.emit o).host.lost = c.host.lost := rfl
@[simp] theorem Chip.emit_host_d3cold (o : Output) : (c.emit o).host.d3cold = c.host.d3cold := rfl
@[simp] theorem Chip.emit_host_wake (o : Output) : (c.emit o).host.wake = c.host.wake := rfl
@[simp] theorem Chip.emit_host_pmeDue (o : Output) : (c.emit o).host.pmeDue = c.host.pmeDue := rfl

/-! ### submit -/

@[simp] theorem Chip.submit_ident (sect typ writer : Nat) (payload : Bytes) (reserved : Bool) : (c.submit sect typ writer payload reserved).ident = c.ident := by
  unfold Chip.submit
  dsimp only; repeat' split
  all_goals simp
@[simp] theorem Chip.submit_avs (sect typ writer : Nat) (payload : Bytes) (reserved : Bool) : (c.submit sect typ writer payload reserved).avs = c.avs := by
  unfold Chip.submit
  dsimp only; repeat' split
  all_goals simp
@[simp] theorem Chip.submit_slack (sect typ writer : Nat) (payload : Bytes) (reserved : Bool) : (c.submit sect typ writer payload reserved).slack = c.slack := by
  unfold Chip.submit
  dsimp only; repeat' split
  all_goals simp
@[simp] theorem Chip.submit_time (sect typ writer : Nat) (payload : Bytes) (reserved : Bool) : (c.submit sect typ writer payload reserved).time = c.time := by
  unfold Chip.submit
  dsimp only; repeat' split
  all_goals simp
@[simp] theorem Chip.submit_mbx (sect typ writer : Nat) (payload : Bytes) (reserved : Bool) : (c.submit sect typ writer payload reserved).mbx = c.mbx := by
  unfold Chip.submit
  dsimp only; repeat' split
  all_goals simp
@[simp] theorem Chip.submit_out (sect typ writer : Nat) (payload : Bytes) (reserved : Bool) : (c.submit sect typ writer payload reserved).out = c.out := by
  unfold Chip.submit
  dsimp only; repeat' split
  all_goals simp
@[simp] theorem Chip.submit_free (sect typ writer : Nat) (payload : Bytes) (reserved : Bool) : (c.submit sect typ writer payload reserved).free = c.free := by
  unfold Chip.submit
  dsimp only; repeat' split
  all_goals simp
@[simp] theorem Chip.submit_host (sect typ writer : Nat) (payload : Bytes) (reserved : Bool) : (c.submit sect typ writer payload reserved).host = c.host := by
  unfold Chip.submit
  dsimp only; repeat' split
  all_goals simp
@[simp] theorem Chip.submit_hostPath (sect typ writer : Nat) (payload : Bytes) (reserved : Bool) : (c.submit sect typ writer payload reserved).hostPath = c.hostPath := by
  unfold Chip.submit
  dsimp only; repeat' split
  all_goals simp
@[simp] theorem Chip.submit_monPath (sect typ writer : Nat) (payload : Bytes) (reserved : Bool) : (c.submit sect typ writer payload reserved).monPath = c.monPath := by
  unfold Chip.submit
  dsimp only; repeat' split
  all_goals simp
@[simp] theorem Chip.submit_spil (sect typ writer : Nat) (payload : Bytes) (reserved : Bool) : (c.submit sect typ writer payload reserved).spil = c.spil := by
  unfold Chip.submit
  dsimp only; repeat' split
  all_goals simp
@[simp] theorem Chip.submit_pwr (sect typ writer : Nat) (payload : Bytes) (reserved : Bool) : (c.submit sect typ writer payload reserved).pwr = c.pwr := by
  unfold Chip.submit
  dsimp only; repeat' split
  all_goals simp
@[simp] theorem Chip.submit_dbg (sect typ writer : Nat) (payload : Bytes) (reserved : Bool) : (c.submit sect typ writer payload reserved).dbg = c.dbg := by
  unfold Chip.submit
  dsimp only; repeat' split
  all_goals simp
@[simp] theorem Chip.submit_bridge (sect typ writer : Nat) (payload : Bytes) (reserved : Bool) : (c.submit sect typ writer payload reserved).bridge = c.bridge := by
  unfold Chip.submit
  dsimp only; repeat' split
  all_goals simp
@[simp] theorem Chip.submit_strm (sect typ writer : Nat) (payload : Bytes) (reserved : Bool) : (c.submit sect typ writer payload reserved).strm = c.strm := by
  unfold Chip.submit
  dsimp only; repeat' split
  all_goals simp
@[simp] theorem Chip.submit_plane (sect typ writer : Nat) (payload : Bytes) (reserved : Bool) : (c.submit sect typ writer payload reserved).plane = c.plane := by
  unfold Chip.submit
  dsimp only; repeat' split
  all_goals simp
@[simp] theorem Chip.submit_brkw (sect typ writer : Nat) (payload : Bytes) (reserved : Bool) : (c.submit sect typ writer payload reserved).brkw = c.brkw := by
  unfold Chip.submit
  dsimp only; repeat' split
  all_goals simp
@[simp] theorem Chip.submit_stor (sect typ writer : Nat) (payload : Bytes) (reserved : Bool) : (c.submit sect typ writer payload reserved).stor = c.stor := by
  unfold Chip.submit
  dsimp only; repeat' split
  all_goals simp
@[simp] theorem Chip.submit_dma (sect typ writer : Nat) (payload : Bytes) (reserved : Bool) : (c.submit sect typ writer payload reserved).dma = c.dma := by
  unfold Chip.submit
  dsimp only; repeat' split
  all_goals simp
@[simp] theorem Chip.submit_duo (sect typ writer : Nat) (payload : Bytes) (reserved : Bool) : (c.submit sect typ writer payload reserved).duo = c.duo := by
  unfold Chip.submit
  dsimp only; repeat' split
  all_goals simp
@[simp] theorem Chip.submit_flt_batchOpen (sect typ writer : Nat) (payload : Bytes) (reserved : Bool) : (c.submit sect typ writer payload reserved).flt.batchOpen = c.flt.batchOpen := by
  unfold Chip.submit
  dsimp only; repeat' split
  all_goals simp
@[simp] theorem Chip.submit_flt_batch (sect typ writer : Nat) (payload : Bytes) (reserved : Bool) : (c.submit sect typ writer payload reserved).flt.batch = c.flt.batch := by
  unfold Chip.submit
  dsimp only; repeat' split
  all_goals simp
@[simp] theorem Chip.submit_flt_nextBatch (sect typ writer : Nat) (payload : Bytes) (reserved : Bool) : (c.submit sect typ writer payload reserved).flt.nextBatch = c.flt.nextBatch := by
  unfold Chip.submit
  dsimp only; repeat' split
  all_goals simp
@[simp] theorem Chip.submit_flt_pairs (sect typ writer : Nat) (payload : Bytes) (reserved : Bool) : (c.submit sect typ writer payload reserved).flt.pairs = c.flt.pairs := by
  unfold Chip.submit
  dsimp only; repeat' split
  all_goals simp
@[simp] theorem Chip.submit_flt_log (sect typ writer : Nat) (payload : Bytes) (reserved : Bool) : (c.submit sect typ writer payload reserved).flt.log = c.flt.log := by
  unfold Chip.submit
  dsimp only; repeat' split
  all_goals simp
@[simp] theorem Chip.submit_flt_quiet (sect typ writer : Nat) (payload : Bytes) (reserved : Bool) : (c.submit sect typ writer payload reserved).flt.quiet = c.flt.quiet := by
  unfold Chip.submit
  dsimp only; repeat' split
  all_goals simp
@[simp] theorem Chip.submit_flt_due (sect typ writer : Nat) (payload : Bytes) (reserved : Bool) : (c.submit sect typ writer payload reserved).flt.due = c.flt.due := by
  unfold Chip.submit
  dsimp only; repeat' split
  all_goals simp
@[simp] theorem Chip.submit_flt_history (sect typ writer : Nat) (payload : Bytes) (reserved : Bool) : (c.submit sect typ writer payload reserved).flt.history = c.flt.history := by
  unfold Chip.submit
  dsimp only; repeat' split
  all_goals simp
@[simp] theorem Chip.submit_flt_aliveFatal (sect typ writer : Nat) (payload : Bytes) (reserved : Bool) : (c.submit sect typ writer payload reserved).flt.aliveFatal = c.flt.aliveFatal := by
  unfold Chip.submit
  dsimp only; repeat' split
  all_goals simp
@[simp] theorem Chip.submit_flt_aliveStall (sect typ writer : Nat) (payload : Bytes) (reserved : Bool) : (c.submit sect typ writer payload reserved).flt.aliveStall = c.flt.aliveStall := by
  unfold Chip.submit
  dsimp only; repeat' split
  all_goals simp
@[simp] theorem Chip.submit_flt_readyOnce (sect typ writer : Nat) (payload : Bytes) (reserved : Bool) : (c.submit sect typ writer payload reserved).flt.readyOnce = c.flt.readyOnce := by
  unfold Chip.submit
  dsimp only; repeat' split
  all_goals simp
@[simp] theorem Chip.submit_flt_life (sect typ writer : Nat) (payload : Bytes) (reserved : Bool) : (c.submit sect typ writer payload reserved).flt.life = c.flt.life := by
  unfold Chip.submit
  dsimp only; repeat' split
  all_goals simp
theorem Chip.submit_fld (sect typ writer : Nat) (payload : Bytes) (reserved : Bool) (g : Fld) (j : Nat) (h0 : g ≠ .SAFF_CNT_LOST) : (c.submit sect typ writer payload reserved).fld g j = c.fld g j := by
  unfold Chip.submit
  dsimp only; repeat' split
  all_goals first | rfl | simp [Ne.symm h0]

/-! ### sendVector -/

@[simp] theorem Chip.sendVector_regs (v : Nat) : (c.sendVector v).regs = c.regs := by
  unfold Chip.sendVector
  dsimp only; split <;> simp
@[simp] theorem Chip.sendVector_ident (v : Nat) : (c.sendVector v).ident = c.ident := by
  unfold Chip.sendVector
  dsimp only; split <;> simp
@[simp] theorem Chip.sendVector_avs (v : Nat) : (c.sendVector v).avs = c.avs := by
  unfold Chip.sendVector
  dsimp only; split <;> simp
@[simp] theorem Chip.sendVector_slack (v : Nat) : (c.sendVector v).slack = c.slack := by
  unfold Chip.sendVector
  dsimp only; split <;> simp
@[simp] theorem Chip.sendVector_time (v : Nat) : (c.sendVector v).time = c.time := by
  unfold Chip.sendVector
  dsimp only; split <;> simp
@[simp] theorem Chip.sendVector_mbx (v : Nat) : (c.sendVector v).mbx = c.mbx := by
  unfold Chip.sendVector
  dsimp only; split <;> simp
@[simp] theorem Chip.sendVector_flt (v : Nat) : (c.sendVector v).flt = c.flt := by
  unfold Chip.sendVector
  dsimp only; split <;> simp
@[simp] theorem Chip.sendVector_free (v : Nat) : (c.sendVector v).free = c.free := by
  unfold Chip.sendVector
  dsimp only; split <;> simp
@[simp] theorem Chip.sendVector_hostPath (v : Nat) : (c.sendVector v).hostPath = c.hostPath := by
  unfold Chip.sendVector
  dsimp only; split <;> simp
@[simp] theorem Chip.sendVector_monPath (v : Nat) : (c.sendVector v).monPath = c.monPath := by
  unfold Chip.sendVector
  dsimp only; split <;> simp
@[simp] theorem Chip.sendVector_spil (v : Nat) : (c.sendVector v).spil = c.spil := by
  unfold Chip.sendVector
  dsimp only; split <;> simp
@[simp] theorem Chip.sendVector_pwr (v : Nat) : (c.sendVector v).pwr = c.pwr := by
  unfold Chip.sendVector
  dsimp only; split <;> simp
@[simp] theorem Chip.sendVector_dbg (v : Nat) : (c.sendVector v).dbg = c.dbg := by
  unfold Chip.sendVector
  dsimp only; split <;> simp
@[simp] theorem Chip.sendVector_bridge (v : Nat) : (c.sendVector v).bridge = c.bridge := by
  unfold Chip.sendVector
  dsimp only; split <;> simp
@[simp] theorem Chip.sendVector_strm (v : Nat) : (c.sendVector v).strm = c.strm := by
  unfold Chip.sendVector
  dsimp only; split <;> simp
@[simp] theorem Chip.sendVector_plane (v : Nat) : (c.sendVector v).plane = c.plane := by
  unfold Chip.sendVector
  dsimp only; split <;> simp
@[simp] theorem Chip.sendVector_brkw (v : Nat) : (c.sendVector v).brkw = c.brkw := by
  unfold Chip.sendVector
  dsimp only; split <;> simp
@[simp] theorem Chip.sendVector_stor (v : Nat) : (c.sendVector v).stor = c.stor := by
  unfold Chip.sendVector
  dsimp only; split <;> simp
@[simp] theorem Chip.sendVector_dma (v : Nat) : (c.sendVector v).dma = c.dma := by
  unfold Chip.sendVector
  dsimp only; split <;> simp
@[simp] theorem Chip.sendVector_duo (v : Nat) : (c.sendVector v).duo = c.duo := by
  unfold Chip.sendVector
  dsimp only; split <;> simp
@[simp] theorem Chip.sendVector_host_perst (v : Nat) : (c.sendVector v).host.perst = c.host.perst := by
  unfold Chip.sendVector
  dsimp only; split <;> simp
@[simp] theorem Chip.sendVector_host_ready (v : Nat) : (c.sendVector v).host.ready = c.host.ready := by
  unfold Chip.sendVector
  dsimp only; split <;> simp
@[simp] theorem Chip.sendVector_host_cfg (v : Nat) : (c.sendVector v).host.cfg = c.host.cfg := by
  unfold Chip.sendVector
  dsimp only; split <;> simp
@[simp] theorem Chip.sendVector_host_msix (v : Nat) : (c.sendVector v).host.msix = c.host.msix := by
  unfold Chip.sendVector
  dsimp only; split <;> simp
@[simp] theorem Chip.sendVector_host_reads (v : Nat) : (c.sendVector v).host.reads = c.host.reads := by
  unfold Chip.sendVector
  dsimp only; split <;> simp
@[simp] theorem Chip.sendVector_host_quar (v : Nat) : (c.sendVector v).host.quar = c.host.quar := by
  unfold Chip.sendVector
  dsimp only; split <;> simp
@[simp] theorem Chip.sendVector_host_turnedOff (v : Nat) : (c.sendVector v).host.turnedOff = c.host.turnedOff := by
  unfold Chip.sendVector
  dsimp only; split <;> simp
@[simp] theorem Chip.sendVector_host_lost (v : Nat) : (c.sendVector v).host.lost = c.host.lost := by
  unfold Chip.sendVector
  dsimp only; split <;> simp
@[simp] theorem Chip.sendVector_host_d3cold (v : Nat) : (c.sendVector v).host.d3cold = c.host.d3cold := by
  unfold Chip.sendVector
  dsimp only; split <;> simp
@[simp] theorem Chip.sendVector_host_wake (v : Nat) : (c.sendVector v).host.wake = c.host.wake := by
  unfold Chip.sendVector
  dsimp only; split <;> simp
@[simp] theorem Chip.sendVector_host_pmeDue (v : Nat) : (c.sendVector v).host.pmeDue = c.host.pmeDue := by
  unfold Chip.sendVector
  dsimp only; split <;> simp
@[simp] theorem Chip.sendVector_fld (v : Nat) (g : Fld) (j : Nat) : (c.sendVector v).fld g j = c.fld g j := by simp [Chip.fld]

/-! ### raise -/

@[simp] theorem Chip.raise_regs (v : Nat) : (c.raise v).regs = c.regs := by
  unfold Chip.raise
  dsimp only; repeat' split
  all_goals simp
@[simp] theorem Chip.raise_ident (v : Nat) : (c.raise v).ident = c.ident := by
  unfold Chip.raise
  dsimp only; repeat' split
  all_goals simp
@[simp] theorem Chip.raise_avs (v : Nat) : (c.raise v).avs = c.avs := by
  unfold Chip.raise
  dsimp only; repeat' split
  all_goals simp
@[simp] theorem Chip.raise_slack (v : Nat) : (c.raise v).slack = c.slack := by
  unfold Chip.raise
  dsimp only; repeat' split
  all_goals simp
@[simp] theorem Chip.raise_time (v : Nat) : (c.raise v).time = c.time := by
  unfold Chip.raise
  dsimp only; repeat' split
  all_goals simp
@[simp] theorem Chip.raise_mbx (v : Nat) : (c.raise v).mbx = c.mbx := by
  unfold Chip.raise
  dsimp only; repeat' split
  all_goals simp
@[simp] theorem Chip.raise_flt (v : Nat) : (c.raise v).flt = c.flt := by
  unfold Chip.raise
  dsimp only; repeat' split
  all_goals simp
@[simp] theorem Chip.raise_free (v : Nat) : (c.raise v).free = c.free := by
  unfold Chip.raise
  dsimp only; repeat' split
  all_goals simp
@[simp] theorem Chip.raise_hostPath (v : Nat) : (c.raise v).hostPath = c.hostPath := by
  unfold Chip.raise
  dsimp only; repeat' split
  all_goals simp
@[simp] theorem Chip.raise_monPath (v : Nat) : (c.raise v).monPath = c.monPath := by
  unfold Chip.raise
  dsimp only; repeat' split
  all_goals simp
@[simp] theorem Chip.raise_spil (v : Nat) : (c.raise v).spil = c.spil := by
  unfold Chip.raise
  dsimp only; repeat' split
  all_goals simp
@[simp] theorem Chip.raise_pwr (v : Nat) : (c.raise v).pwr = c.pwr := by
  unfold Chip.raise
  dsimp only; repeat' split
  all_goals simp
@[simp] theorem Chip.raise_dbg (v : Nat) : (c.raise v).dbg = c.dbg := by
  unfold Chip.raise
  dsimp only; repeat' split
  all_goals simp
@[simp] theorem Chip.raise_bridge (v : Nat) : (c.raise v).bridge = c.bridge := by
  unfold Chip.raise
  dsimp only; repeat' split
  all_goals simp
@[simp] theorem Chip.raise_strm (v : Nat) : (c.raise v).strm = c.strm := by
  unfold Chip.raise
  dsimp only; repeat' split
  all_goals simp
@[simp] theorem Chip.raise_plane (v : Nat) : (c.raise v).plane = c.plane := by
  unfold Chip.raise
  dsimp only; repeat' split
  all_goals simp
@[simp] theorem Chip.raise_brkw (v : Nat) : (c.raise v).brkw = c.brkw := by
  unfold Chip.raise
  dsimp only; repeat' split
  all_goals simp
@[simp] theorem Chip.raise_stor (v : Nat) : (c.raise v).stor = c.stor := by
  unfold Chip.raise
  dsimp only; repeat' split
  all_goals simp
@[simp] theorem Chip.raise_dma (v : Nat) : (c.raise v).dma = c.dma := by
  unfold Chip.raise
  dsimp only; repeat' split
  all_goals simp
@[simp] theorem Chip.raise_duo (v : Nat) : (c.raise v).duo = c.duo := by
  unfold Chip.raise
  dsimp only; repeat' split
  all_goals simp
@[simp] theorem Chip.raise_host_perst (v : Nat) : (c.raise v).host.perst = c.host.perst := by
  unfold Chip.raise
  dsimp only; repeat' split
  all_goals simp
@[simp] theorem Chip.raise_host_ready (v : Nat) : (c.raise v).host.ready = c.host.ready := by
  unfold Chip.raise
  dsimp only; repeat' split
  all_goals simp
@[simp] theorem Chip.raise_host_cfg (v : Nat) : (c.raise v).host.cfg = c.host.cfg := by
  unfold Chip.raise
  dsimp only; repeat' split
  all_goals simp
@[simp] theorem Chip.raise_host_msix (v : Nat) : (c.raise v).host.msix = c.host.msix := by
  unfold Chip.raise
  dsimp only; repeat' split
  all_goals simp
@[simp] theorem Chip.raise_host_reads (v : Nat) : (c.raise v).host.reads = c.host.reads := by
  unfold Chip.raise
  dsimp only; repeat' split
  all_goals simp
@[simp] theorem Chip.raise_host_quar (v : Nat) : (c.raise v).host.quar = c.host.quar := by
  unfold Chip.raise
  dsimp only; repeat' split
  all_goals simp
@[simp] theorem Chip.raise_host_turnedOff (v : Nat) : (c.raise v).host.turnedOff = c.host.turnedOff := by
  unfold Chip.raise
  dsimp only; repeat' split
  all_goals simp
@[simp] theorem Chip.raise_host_lost (v : Nat) : (c.raise v).host.lost = c.host.lost := by
  unfold Chip.raise
  dsimp only; repeat' split
  all_goals simp
@[simp] theorem Chip.raise_host_d3cold (v : Nat) : (c.raise v).host.d3cold = c.host.d3cold := by
  unfold Chip.raise
  dsimp only; repeat' split
  all_goals simp
@[simp] theorem Chip.raise_host_wake (v : Nat) : (c.raise v).host.wake = c.host.wake := by
  unfold Chip.raise
  dsimp only; repeat' split
  all_goals simp
@[simp] theorem Chip.raise_host_pmeDue (v : Nat) : (c.raise v).host.pmeDue = c.host.pmeDue := by
  unfold Chip.raise
  dsimp only; repeat' split
  all_goals simp
@[simp] theorem Chip.raise_fld (v : Nat) (g : Fld) (j : Nat) : (c.raise v).fld g j = c.fld g j := by simp [Chip.fld]

/-! ### payPme -/

@[simp] theorem Chip.payPme_regs  : (c.payPme).regs = c.regs := by
  unfold Chip.payPme
  split <;> simp
@[simp] theorem Chip.payPme_ident  : (c.payPme).ident = c.ident := by
  unfold Chip.payPme
  split <;> simp
@[simp] theorem Chip.payPme_avs  : (c.payPme).avs = c.avs := by
  unfold Chip.payPme
  split <;> simp
@[simp] theorem Chip.payPme_slack  : (c.payPme).slack = c.slack := by
  unfold Chip.payPme
  split <;> simp
@[simp] theorem Chip.payPme_time  : (c.payPme).time = c.time := by
  unfold Chip.payPme
  split <;> simp
@[simp] theorem Chip.payPme_mbx  : (c.payPme).mbx = c.mbx := by
  unfold Chip.payPme
  split <;> simp
@[simp] theorem Chip.payPme_flt  : (c.payPme).flt = c.flt := by
  unfold Chip.payPme
  split <;> simp
@[simp] theorem Chip.payPme_free  : (c.payPme).free = c.free := by
  unfold Chip.payPme
  split <;> simp
@[simp] theorem Chip.payPme_hostPath  : (c.payPme).hostPath = c.hostPath := by
  unfold Chip.payPme
  split <;> simp
@[simp] theorem Chip.payPme_monPath  : (c.payPme).monPath = c.monPath := by
  unfold Chip.payPme
  split <;> simp
@[simp] theorem Chip.payPme_spil  : (c.payPme).spil = c.spil := by
  unfold Chip.payPme
  split <;> simp
@[simp] theorem Chip.payPme_pwr  : (c.payPme).pwr = c.pwr := by
  unfold Chip.payPme
  split <;> simp
@[simp] theorem Chip.payPme_dbg  : (c.payPme).dbg = c.dbg := by
  unfold Chip.payPme
  split <;> simp
@[simp] theorem Chip.payPme_bridge  : (c.payPme).bridge = c.bridge := by
  unfold Chip.payPme
  split <;> simp
@[simp] theorem Chip.payPme_strm  : (c.payPme).strm = c.strm := by
  unfold Chip.payPme
  split <;> simp
@[simp] theorem Chip.payPme_plane  : (c.payPme).plane = c.plane := by
  unfold Chip.payPme
  split <;> simp
@[simp] theorem Chip.payPme_brkw  : (c.payPme).brkw = c.brkw := by
  unfold Chip.payPme
  split <;> simp
@[simp] theorem Chip.payPme_stor  : (c.payPme).stor = c.stor := by
  unfold Chip.payPme
  split <;> simp
@[simp] theorem Chip.payPme_dma  : (c.payPme).dma = c.dma := by
  unfold Chip.payPme
  split <;> simp
@[simp] theorem Chip.payPme_duo  : (c.payPme).duo = c.duo := by
  unfold Chip.payPme
  split <;> simp
@[simp] theorem Chip.payPme_host_perst  : (c.payPme).host.perst = c.host.perst := by
  unfold Chip.payPme
  split <;> simp
@[simp] theorem Chip.payPme_host_ready  : (c.payPme).host.ready = c.host.ready := by
  unfold Chip.payPme
  split <;> simp
@[simp] theorem Chip.payPme_host_msix  : (c.payPme).host.msix = c.host.msix := by
  unfold Chip.payPme
  split <;> simp
@[simp] theorem Chip.payPme_host_pba  : (c.payPme).host.pba = c.host.pba := by
  unfold Chip.payPme
  split <;> simp
@[simp] theorem Chip.payPme_host_reads  : (c.payPme).host.reads = c.host.reads := by
  unfold Chip.payPme
  split <;> simp
@[simp] theorem Chip.payPme_host_quar  : (c.payPme).host.quar = c.host.quar := by
  unfold Chip.payPme
  split <;> simp
@[simp] theorem Chip.payPme_host_turnedOff  : (c.payPme).host.turnedOff = c.host.turnedOff := by
  unfold Chip.payPme
  split <;> simp
@[simp] theorem Chip.payPme_host_lost  : (c.payPme).host.lost = c.host.lost := by
  unfold Chip.payPme
  split <;> simp
@[simp] theorem Chip.payPme_host_d3cold  : (c.payPme).host.d3cold = c.host.d3cold := by
  unfold Chip.payPme
  split <;> simp
@[simp] theorem Chip.payPme_host_wake  : (c.payPme).host.wake = c.host.wake := by
  unfold Chip.payPme
  split <;> simp
@[simp] theorem Chip.payPme_host_cfg_memEn  : (c.payPme).host.cfg.memEn = c.host.cfg.memEn := by
  unfold Chip.payPme
  split <;> simp
@[simp] theorem Chip.payPme_host_cfg_busMaster  : (c.payPme).host.cfg.busMaster = c.host.cfg.busMaster := by
  unfold Chip.payPme
  split <;> simp
@[simp] theorem Chip.payPme_host_cfg_parityEn  : (c.payPme).host.cfg.parityEn = c.host.cfg.parityEn := by
  unfold Chip.payPme
  split <;> simp
@[simp] theorem Chip.payPme_host_cfg_serrEn  : (c.payPme).host.cfg.serrEn = c.host.cfg.serrEn := by
  unfold Chip.payPme
  split <;> simp
@[simp] theorem Chip.payPme_host_cfg_intDisable  : (c.payPme).host.cfg.intDisable = c.host.cfg.intDisable := by
  unfold Chip.payPme
  split <;> simp
@[simp] theorem Chip.payPme_host_cfg_intLine  : (c.payPme).host.cfg.intLine = c.host.cfg.intLine := by
  unfold Chip.payPme
  split <;> simp
@[simp] theorem Chip.payPme_host_cfg_bar0  : (c.payPme).host.cfg.bar0 = c.host.cfg.bar0 := by
  unfold Chip.payPme
  split <;> simp
@[simp] theorem Chip.payPme_host_cfg_bar2  : (c.payPme).host.cfg.bar2 = c.host.cfg.bar2 := by
  unfold Chip.payPme
  split <;> simp
@[simp] theorem Chip.payPme_host_cfg_barSize  : (c.payPme).host.cfg.barSize = c.host.cfg.barSize := by
  unfold Chip.payPme
  split <;> simp
@[simp] theorem Chip.payPme_host_cfg_dstate  : (c.payPme).host.cfg.dstate = c.host.cfg.dstate := by
  unfold Chip.payPme
  split <;> simp
@[simp] theorem Chip.payPme_host_cfg_pmeEn  : (c.payPme).host.cfg.pmeEn = c.host.cfg.pmeEn := by
  unfold Chip.payPme
  split <;> simp
@[simp] theorem Chip.payPme_host_cfg_maxPayload  : (c.payPme).host.cfg.maxPayload = c.host.cfg.maxPayload := by
  unfold Chip.payPme
  split <;> simp
@[simp] theorem Chip.payPme_host_cfg_maxReadReq  : (c.payPme).host.cfg.maxReadReq = c.host.cfg.maxReadReq := by
  unfold Chip.payPme
  split <;> simp
@[simp] theorem Chip.payPme_host_cfg_relaxed  : (c.payPme).host.cfg.relaxed = c.host.cfg.relaxed := by
  unfold Chip.payPme
  split <;> simp
@[simp] theorem Chip.payPme_host_cfg_noSnoop  : (c.payPme).host.cfg.noSnoop = c.host.cfg.noSnoop := by
  unfold Chip.payPme
  split <;> simp
@[simp] theorem Chip.payPme_host_cfg_cto  : (c.payPme).host.cfg.cto = c.host.cfg.cto := by
  unfold Chip.payPme
  split <;> simp
@[simp] theorem Chip.payPme_host_cfg_aspmL1  : (c.payPme).host.cfg.aspmL1 = c.host.cfg.aspmL1 := by
  unfold Chip.payPme
  split <;> simp
@[simp] theorem Chip.payPme_host_cfg_msixEn  : (c.payPme).host.cfg.msixEn = c.host.cfg.msixEn := by
  unfold Chip.payPme
  split <;> simp
@[simp] theorem Chip.payPme_host_cfg_msixMask  : (c.payPme).host.cfg.msixMask = c.host.cfg.msixMask := by
  unfold Chip.payPme
  split <;> simp
@[simp] theorem Chip.payPme_host_cfg_aerUncorr  : (c.payPme).host.cfg.aerUncorr = c.host.cfg.aerUncorr := by
  unfold Chip.payPme
  split <;> simp
@[simp] theorem Chip.payPme_host_cfg_aerCorr  : (c.payPme).host.cfg.aerCorr = c.host.cfg.aerCorr := by
  unfold Chip.payPme
  split <;> simp
@[simp] theorem Chip.payPme_host_cfg_aerLog  : (c.payPme).host.cfg.aerLog = c.host.cfg.aerLog := by
  unfold Chip.payPme
  split <;> simp
@[simp] theorem Chip.payPme_fld  (g : Fld) (j : Nat) : (c.payPme).fld g j = c.fld g j := by simp [Chip.fld]

/-! ### wakeCause -/

@[simp] theorem Chip.wakeCause_regs (en : Fld) : (c.wakeCause en).regs = c.regs := by
  unfold Chip.wakeCause
  repeat' split
  all_goals simp
@[simp] theorem Chip.wakeCause_ident (en : Fld) : (c.wakeCause en).ident = c.ident := by
  unfold Chip.wakeCause
  repeat' split
  all_goals simp
@[simp] theorem Chip.wakeCause_avs (en : Fld) : (c.wakeCause en).avs = c.avs := by
  unfold Chip.wakeCause
  repeat' split
  all_goals simp
@[simp] theorem Chip.wakeCause_slack (en : Fld) : (c.wakeCause en).slack = c.slack := by
  unfold Chip.wakeCause
  repeat' split
  all_goals simp
@[simp] theorem Chip.wakeCause_time (en : Fld) : (c.wakeCause en).time = c.time := by
  unfold Chip.wakeCause
  repeat' split
  all_goals simp
@[simp] theorem Chip.wakeCause_mbx (en : Fld) : (c.wakeCause en).mbx = c.mbx := by
  unfold Chip.wakeCause
  repeat' split
  all_goals simp
@[simp] theorem Chip.wakeCause_flt (en : Fld) : (c.wakeCause en).flt = c.flt := by
  unfold Chip.wakeCause
  repeat' split
  all_goals simp
@[simp] theorem Chip.wakeCause_free (en : Fld) : (c.wakeCause en).free = c.free := by
  unfold Chip.wakeCause
  repeat' split
  all_goals simp
@[simp] theorem Chip.wakeCause_hostPath (en : Fld) : (c.wakeCause en).hostPath = c.hostPath := by
  unfold Chip.wakeCause
  repeat' split
  all_goals simp
@[simp] theorem Chip.wakeCause_monPath (en : Fld) : (c.wakeCause en).monPath = c.monPath := by
  unfold Chip.wakeCause
  repeat' split
  all_goals simp
@[simp] theorem Chip.wakeCause_spil (en : Fld) : (c.wakeCause en).spil = c.spil := by
  unfold Chip.wakeCause
  repeat' split
  all_goals simp
@[simp] theorem Chip.wakeCause_pwr (en : Fld) : (c.wakeCause en).pwr = c.pwr := by
  unfold Chip.wakeCause
  repeat' split
  all_goals simp
@[simp] theorem Chip.wakeCause_dbg (en : Fld) : (c.wakeCause en).dbg = c.dbg := by
  unfold Chip.wakeCause
  repeat' split
  all_goals simp
@[simp] theorem Chip.wakeCause_bridge (en : Fld) : (c.wakeCause en).bridge = c.bridge := by
  unfold Chip.wakeCause
  repeat' split
  all_goals simp
@[simp] theorem Chip.wakeCause_strm (en : Fld) : (c.wakeCause en).strm = c.strm := by
  unfold Chip.wakeCause
  repeat' split
  all_goals simp
@[simp] theorem Chip.wakeCause_plane (en : Fld) : (c.wakeCause en).plane = c.plane := by
  unfold Chip.wakeCause
  repeat' split
  all_goals simp
@[simp] theorem Chip.wakeCause_brkw (en : Fld) : (c.wakeCause en).brkw = c.brkw := by
  unfold Chip.wakeCause
  repeat' split
  all_goals simp
@[simp] theorem Chip.wakeCause_stor (en : Fld) : (c.wakeCause en).stor = c.stor := by
  unfold Chip.wakeCause
  repeat' split
  all_goals simp
@[simp] theorem Chip.wakeCause_dma (en : Fld) : (c.wakeCause en).dma = c.dma := by
  unfold Chip.wakeCause
  repeat' split
  all_goals simp
@[simp] theorem Chip.wakeCause_duo (en : Fld) : (c.wakeCause en).duo = c.duo := by
  unfold Chip.wakeCause
  repeat' split
  all_goals simp
@[simp] theorem Chip.wakeCause_host_perst (en : Fld) : (c.wakeCause en).host.perst = c.host.perst := by
  unfold Chip.wakeCause
  repeat' split
  all_goals simp
@[simp] theorem Chip.wakeCause_host_ready (en : Fld) : (c.wakeCause en).host.ready = c.host.ready := by
  unfold Chip.wakeCause
  repeat' split
  all_goals simp
@[simp] theorem Chip.wakeCause_host_msix (en : Fld) : (c.wakeCause en).host.msix = c.host.msix := by
  unfold Chip.wakeCause
  repeat' split
  all_goals simp
@[simp] theorem Chip.wakeCause_host_pba (en : Fld) : (c.wakeCause en).host.pba = c.host.pba := by
  unfold Chip.wakeCause
  repeat' split
  all_goals simp
@[simp] theorem Chip.wakeCause_host_reads (en : Fld) : (c.wakeCause en).host.reads = c.host.reads := by
  unfold Chip.wakeCause
  repeat' split
  all_goals simp
@[simp] theorem Chip.wakeCause_host_quar (en : Fld) : (c.wakeCause en).host.quar = c.host.quar := by
  unfold Chip.wakeCause
  repeat' split
  all_goals simp
@[simp] theorem Chip.wakeCause_host_turnedOff (en : Fld) : (c.wakeCause en).host.turnedOff = c.host.turnedOff := by
  unfold Chip.wakeCause
  repeat' split
  all_goals simp
@[simp] theorem Chip.wakeCause_host_lost (en : Fld) : (c.wakeCause en).host.lost = c.host.lost := by
  unfold Chip.wakeCause
  repeat' split
  all_goals simp
@[simp] theorem Chip.wakeCause_host_d3cold (en : Fld) : (c.wakeCause en).host.d3cold = c.host.d3cold := by
  unfold Chip.wakeCause
  repeat' split
  all_goals simp
@[simp] theorem Chip.wakeCause_host_cfg_memEn (en : Fld) : (c.wakeCause en).host.cfg.memEn = c.host.cfg.memEn := by
  unfold Chip.wakeCause
  repeat' split
  all_goals simp
@[simp] theorem Chip.wakeCause_host_cfg_busMaster (en : Fld) : (c.wakeCause en).host.cfg.busMaster = c.host.cfg.busMaster := by
  unfold Chip.wakeCause
  repeat' split
  all_goals simp
@[simp] theorem Chip.wakeCause_host_cfg_parityEn (en : Fld) : (c.wakeCause en).host.cfg.parityEn = c.host.cfg.parityEn := by
  unfold Chip.wakeCause
  repeat' split
  all_goals simp
@[simp] theorem Chip.wakeCause_host_cfg_serrEn (en : Fld) : (c.wakeCause en).host.cfg.serrEn = c.host.cfg.serrEn := by
  unfold Chip.wakeCause
  repeat' split
  all_goals simp
@[simp] theorem Chip.wakeCause_host_cfg_intDisable (en : Fld) : (c.wakeCause en).host.cfg.intDisable = c.host.cfg.intDisable := by
  unfold Chip.wakeCause
  repeat' split
  all_goals simp
@[simp] theorem Chip.wakeCause_host_cfg_intLine (en : Fld) : (c.wakeCause en).host.cfg.intLine = c.host.cfg.intLine := by
  unfold Chip.wakeCause
  repeat' split
  all_goals simp
@[simp] theorem Chip.wakeCause_host_cfg_bar0 (en : Fld) : (c.wakeCause en).host.cfg.bar0 = c.host.cfg.bar0 := by
  unfold Chip.wakeCause
  repeat' split
  all_goals simp
@[simp] theorem Chip.wakeCause_host_cfg_bar2 (en : Fld) : (c.wakeCause en).host.cfg.bar2 = c.host.cfg.bar2 := by
  unfold Chip.wakeCause
  repeat' split
  all_goals simp
@[simp] theorem Chip.wakeCause_host_cfg_barSize (en : Fld) : (c.wakeCause en).host.cfg.barSize = c.host.cfg.barSize := by
  unfold Chip.wakeCause
  repeat' split
  all_goals simp
@[simp] theorem Chip.wakeCause_host_cfg_dstate (en : Fld) : (c.wakeCause en).host.cfg.dstate = c.host.cfg.dstate := by
  unfold Chip.wakeCause
  repeat' split
  all_goals simp
@[simp] theorem Chip.wakeCause_host_cfg_pmeEn (en : Fld) : (c.wakeCause en).host.cfg.pmeEn = c.host.cfg.pmeEn := by
  unfold Chip.wakeCause
  repeat' split
  all_goals simp
@[simp] theorem Chip.wakeCause_host_cfg_maxPayload (en : Fld) : (c.wakeCause en).host.cfg.maxPayload = c.host.cfg.maxPayload := by
  unfold Chip.wakeCause
  repeat' split
  all_goals simp
@[simp] theorem Chip.wakeCause_host_cfg_maxReadReq (en : Fld) : (c.wakeCause en).host.cfg.maxReadReq = c.host.cfg.maxReadReq := by
  unfold Chip.wakeCause
  repeat' split
  all_goals simp
@[simp] theorem Chip.wakeCause_host_cfg_relaxed (en : Fld) : (c.wakeCause en).host.cfg.relaxed = c.host.cfg.relaxed := by
  unfold Chip.wakeCause
  repeat' split
  all_goals simp
@[simp] theorem Chip.wakeCause_host_cfg_noSnoop (en : Fld) : (c.wakeCause en).host.cfg.noSnoop = c.host.cfg.noSnoop := by
  unfold Chip.wakeCause
  repeat' split
  all_goals simp
@[simp] theorem Chip.wakeCause_host_cfg_cto (en : Fld) : (c.wakeCause en).host.cfg.cto = c.host.cfg.cto := by
  unfold Chip.wakeCause
  repeat' split
  all_goals simp
@[simp] theorem Chip.wakeCause_host_cfg_aspmL1 (en : Fld) : (c.wakeCause en).host.cfg.aspmL1 = c.host.cfg.aspmL1 := by
  unfold Chip.wakeCause
  repeat' split
  all_goals simp
@[simp] theorem Chip.wakeCause_host_cfg_msixEn (en : Fld) : (c.wakeCause en).host.cfg.msixEn = c.host.cfg.msixEn := by
  unfold Chip.wakeCause
  repeat' split
  all_goals simp
@[simp] theorem Chip.wakeCause_host_cfg_msixMask (en : Fld) : (c.wakeCause en).host.cfg.msixMask = c.host.cfg.msixMask := by
  unfold Chip.wakeCause
  repeat' split
  all_goals simp
@[simp] theorem Chip.wakeCause_host_cfg_aerUncorr (en : Fld) : (c.wakeCause en).host.cfg.aerUncorr = c.host.cfg.aerUncorr := by
  unfold Chip.wakeCause
  repeat' split
  all_goals simp
@[simp] theorem Chip.wakeCause_host_cfg_aerCorr (en : Fld) : (c.wakeCause en).host.cfg.aerCorr = c.host.cfg.aerCorr := by
  unfold Chip.wakeCause
  repeat' split
  all_goals simp
@[simp] theorem Chip.wakeCause_host_cfg_aerLog (en : Fld) : (c.wakeCause en).host.cfg.aerLog = c.host.cfg.aerLog := by
  unfold Chip.wakeCause
  repeat' split
  all_goals simp
@[simp] theorem Chip.wakeCause_fld (en : Fld) (g : Fld) (j : Nat) : (c.wakeCause en).fld g j = c.fld g j := by simp [Chip.fld]

/-! ### pushEvt -/

@[simp] theorem Chip.pushEvt_ident (e : Evt) : (c.pushEvt e).ident = c.ident := by
  unfold Chip.pushEvt
  dsimp only; split <;> simp
@[simp] theorem Chip.pushEvt_avs (e : Evt) : (c.pushEvt e).avs = c.avs := by
  unfold Chip.pushEvt
  dsimp only; split <;> simp
@[simp] theorem Chip.pushEvt_slack (e : Evt) : (c.pushEvt e).slack = c.slack := by
  unfold Chip.pushEvt
  dsimp only; split <;> simp
@[simp] theorem Chip.pushEvt_time (e : Evt) : (c.pushEvt e).time = c.time := by
  unfold Chip.pushEvt
  dsimp only; split <;> simp
@[simp] theorem Chip.pushEvt_flt (e : Evt) : (c.pushEvt e).flt = c.flt := by
  unfold Chip.pushEvt
  dsimp only; split <;> simp
@[simp] theorem Chip.pushEvt_free (e : Evt) : (c.pushEvt e).free = c.free := by
  unfold Chip.pushEvt
  dsimp only; split <;> simp
@[simp] theorem Chip.pushEvt_hostPath (e : Evt) : (c.pushEvt e).hostPath = c.hostPath := by
  unfold Chip.pushEvt
  dsimp only; split <;> simp
@[simp] theorem Chip.pushEvt_monPath (e : Evt) : (c.pushEvt e).monPath = c.monPath := by
  unfold Chip.pushEvt
  dsimp only; split <;> simp
@[simp] theorem Chip.pushEvt_spil (e : Evt) : (c.pushEvt e).spil = c.spil := by
  unfold Chip.pushEvt
  dsimp only; split <;> simp
@[simp] theorem Chip.pushEvt_pwr (e : Evt) : (c.pushEvt e).pwr = c.pwr := by
  unfold Chip.pushEvt
  dsimp only; split <;> simp
@[simp] theorem Chip.pushEvt_dbg (e : Evt) : (c.pushEvt e).dbg = c.dbg := by
  unfold Chip.pushEvt
  dsimp only; split <;> simp
@[simp] theorem Chip.pushEvt_bridge (e : Evt) : (c.pushEvt e).bridge = c.bridge := by
  unfold Chip.pushEvt
  dsimp only; split <;> simp
@[simp] theorem Chip.pushEvt_strm (e : Evt) : (c.pushEvt e).strm = c.strm := by
  unfold Chip.pushEvt
  dsimp only; split <;> simp
@[simp] theorem Chip.pushEvt_plane (e : Evt) : (c.pushEvt e).plane = c.plane := by
  unfold Chip.pushEvt
  dsimp only; split <;> simp
@[simp] theorem Chip.pushEvt_brkw (e : Evt) : (c.pushEvt e).brkw = c.brkw := by
  unfold Chip.pushEvt
  dsimp only; split <;> simp
@[simp] theorem Chip.pushEvt_stor (e : Evt) : (c.pushEvt e).stor = c.stor := by
  unfold Chip.pushEvt
  dsimp only; split <;> simp
@[simp] theorem Chip.pushEvt_dma (e : Evt) : (c.pushEvt e).dma = c.dma := by
  unfold Chip.pushEvt
  dsimp only; split <;> simp
@[simp] theorem Chip.pushEvt_duo (e : Evt) : (c.pushEvt e).duo = c.duo := by
  unfold Chip.pushEvt
  dsimp only; split <;> simp
@[simp] theorem Chip.pushEvt_mbx_isOpen (e : Evt) : (c.pushEvt e).mbx.isOpen = c.mbx.isOpen := by
  unfold Chip.pushEvt
  dsimp only; split <;> simp
@[simp] theorem Chip.pushEvt_mbx_slots (e : Evt) : (c.pushEvt e).mbx.slots = c.mbx.slots := by
  unfold Chip.pushEvt
  dsimp only; split <;> simp
@[simp] theorem Chip.pushEvt_mbx_order (e : Evt) : (c.pushEvt e).mbx.order = c.mbx.order := by
  unfold Chip.pushEvt
  dsimp only; split <;> simp
@[simp] theorem Chip.pushEvt_mbx_timed (e : Evt) : (c.pushEvt e).mbx.timed = c.mbx.timed := by
  unfold Chip.pushEvt
  dsimp only; split <;> simp
@[simp] theorem Chip.pushEvt_mbx_heldEvts (e : Evt) : (c.pushEvt e).mbx.heldEvts = c.mbx.heldEvts := by
  unfold Chip.pushEvt
  dsimp only; split <;> simp
@[simp] theorem Chip.pushEvt_mbx_firstEvt (e : Evt) : (c.pushEvt e).mbx.firstEvt = c.mbx.firstEvt := by
  unfold Chip.pushEvt
  dsimp only; split <;> simp
@[simp] theorem Chip.pushEvt_mbx_fened (e : Evt) : (c.pushEvt e).mbx.fened = c.mbx.fened := by
  unfold Chip.pushEvt
  dsimp only; split <;> simp
@[simp] theorem Chip.pushEvt_mbx_stalled (e : Evt) : (c.pushEvt e).mbx.stalled = c.mbx.stalled := by
  unfold Chip.pushEvt
  dsimp only; split <;> simp
@[simp] theorem Chip.pushEvt_mbx_fwA (e : Evt) : (c.pushEvt e).mbx.fwA = c.mbx.fwA := by
  unfold Chip.pushEvt
  dsimp only; split <;> simp
@[simp] theorem Chip.pushEvt_mbx_fwB (e : Evt) : (c.pushEvt e).mbx.fwB = c.mbx.fwB := by
  unfold Chip.pushEvt
  dsimp only; split <;> simp
@[simp] theorem Chip.pushEvt_mbx_act (e : Evt) : (c.pushEvt e).mbx.act = c.mbx.act := by
  unfold Chip.pushEvt
  dsimp only; split <;> simp
@[simp] theorem Chip.pushEvt_mbx_image (e : Evt) : (c.pushEvt e).mbx.image = c.mbx.image := by
  unfold Chip.pushEvt
  dsimp only; split <;> simp
@[simp] theorem Chip.pushEvt_mbx_shown (e : Evt) : (c.pushEvt e).mbx.shown = c.mbx.shown := by
  unfold Chip.pushEvt
  dsimp only; split <;> simp
@[simp] theorem Chip.pushEvt_mbx_owed (e : Evt) : (c.pushEvt e).mbx.owed = c.mbx.owed := by
  unfold Chip.pushEvt
  dsimp only; split <;> simp
@[simp] theorem Chip.pushEvt_mbx_checks (e : Evt) : (c.pushEvt e).mbx.checks = c.mbx.checks := by
  unfold Chip.pushEvt
  dsimp only; split <;> simp
@[simp] theorem Chip.pushEvt_mbx_digestAt (e : Evt) : (c.pushEvt e).mbx.digestAt = c.mbx.digestAt := by
  unfold Chip.pushEvt
  dsimp only; split <;> simp
@[simp] theorem Chip.pushEvt_mbx_digestDue (e : Evt) : (c.pushEvt e).mbx.digestDue = c.mbx.digestDue := by
  unfold Chip.pushEvt
  dsimp only; split <;> simp
@[simp] theorem Chip.pushEvt_host_perst (e : Evt) : (c.pushEvt e).host.perst = c.host.perst := by
  unfold Chip.pushEvt
  dsimp only; split <;> simp
@[simp] theorem Chip.pushEvt_host_ready (e : Evt) : (c.pushEvt e).host.ready = c.host.ready := by
  unfold Chip.pushEvt
  dsimp only; split <;> simp
@[simp] theorem Chip.pushEvt_host_msix (e : Evt) : (c.pushEvt e).host.msix = c.host.msix := by
  unfold Chip.pushEvt
  dsimp only; split <;> simp
@[simp] theorem Chip.pushEvt_host_reads (e : Evt) : (c.pushEvt e).host.reads = c.host.reads := by
  unfold Chip.pushEvt
  dsimp only; split <;> simp
@[simp] theorem Chip.pushEvt_host_quar (e : Evt) : (c.pushEvt e).host.quar = c.host.quar := by
  unfold Chip.pushEvt
  dsimp only; split <;> simp
@[simp] theorem Chip.pushEvt_host_turnedOff (e : Evt) : (c.pushEvt e).host.turnedOff = c.host.turnedOff := by
  unfold Chip.pushEvt
  dsimp only; split <;> simp
@[simp] theorem Chip.pushEvt_host_lost (e : Evt) : (c.pushEvt e).host.lost = c.host.lost := by
  unfold Chip.pushEvt
  dsimp only; split <;> simp
@[simp] theorem Chip.pushEvt_host_d3cold (e : Evt) : (c.pushEvt e).host.d3cold = c.host.d3cold := by
  unfold Chip.pushEvt
  dsimp only; split <;> simp
@[simp] theorem Chip.pushEvt_host_cfg_memEn (e : Evt) : (c.pushEvt e).host.cfg.memEn = c.host.cfg.memEn := by
  unfold Chip.pushEvt
  dsimp only; split <;> simp
@[simp] theorem Chip.pushEvt_host_cfg_busMaster (e : Evt) : (c.pushEvt e).host.cfg.busMaster = c.host.cfg.busMaster := by
  unfold Chip.pushEvt
  dsimp only; split <;> simp
@[simp] theorem Chip.pushEvt_host_cfg_parityEn (e : Evt) : (c.pushEvt e).host.cfg.parityEn = c.host.cfg.parityEn := by
  unfold Chip.pushEvt
  dsimp only; split <;> simp
@[simp] theorem Chip.pushEvt_host_cfg_serrEn (e : Evt) : (c.pushEvt e).host.cfg.serrEn = c.host.cfg.serrEn := by
  unfold Chip.pushEvt
  dsimp only; split <;> simp
@[simp] theorem Chip.pushEvt_host_cfg_intDisable (e : Evt) : (c.pushEvt e).host.cfg.intDisable = c.host.cfg.intDisable := by
  unfold Chip.pushEvt
  dsimp only; split <;> simp
@[simp] theorem Chip.pushEvt_host_cfg_intLine (e : Evt) : (c.pushEvt e).host.cfg.intLine = c.host.cfg.intLine := by
  unfold Chip.pushEvt
  dsimp only; split <;> simp
@[simp] theorem Chip.pushEvt_host_cfg_bar0 (e : Evt) : (c.pushEvt e).host.cfg.bar0 = c.host.cfg.bar0 := by
  unfold Chip.pushEvt
  dsimp only; split <;> simp
@[simp] theorem Chip.pushEvt_host_cfg_bar2 (e : Evt) : (c.pushEvt e).host.cfg.bar2 = c.host.cfg.bar2 := by
  unfold Chip.pushEvt
  dsimp only; split <;> simp
@[simp] theorem Chip.pushEvt_host_cfg_barSize (e : Evt) : (c.pushEvt e).host.cfg.barSize = c.host.cfg.barSize := by
  unfold Chip.pushEvt
  dsimp only; split <;> simp
@[simp] theorem Chip.pushEvt_host_cfg_dstate (e : Evt) : (c.pushEvt e).host.cfg.dstate = c.host.cfg.dstate := by
  unfold Chip.pushEvt
  dsimp only; split <;> simp
@[simp] theorem Chip.pushEvt_host_cfg_pmeEn (e : Evt) : (c.pushEvt e).host.cfg.pmeEn = c.host.cfg.pmeEn := by
  unfold Chip.pushEvt
  dsimp only; split <;> simp
@[simp] theorem Chip.pushEvt_host_cfg_maxPayload (e : Evt) : (c.pushEvt e).host.cfg.maxPayload = c.host.cfg.maxPayload := by
  unfold Chip.pushEvt
  dsimp only; split <;> simp
@[simp] theorem Chip.pushEvt_host_cfg_maxReadReq (e : Evt) : (c.pushEvt e).host.cfg.maxReadReq = c.host.cfg.maxReadReq := by
  unfold Chip.pushEvt
  dsimp only; split <;> simp
@[simp] theorem Chip.pushEvt_host_cfg_relaxed (e : Evt) : (c.pushEvt e).host.cfg.relaxed = c.host.cfg.relaxed := by
  unfold Chip.pushEvt
  dsimp only; split <;> simp
@[simp] theorem Chip.pushEvt_host_cfg_noSnoop (e : Evt) : (c.pushEvt e).host.cfg.noSnoop = c.host.cfg.noSnoop := by
  unfold Chip.pushEvt
  dsimp only; split <;> simp
@[simp] theorem Chip.pushEvt_host_cfg_cto (e : Evt) : (c.pushEvt e).host.cfg.cto = c.host.cfg.cto := by
  unfold Chip.pushEvt
  dsimp only; split <;> simp
@[simp] theorem Chip.pushEvt_host_cfg_aspmL1 (e : Evt) : (c.pushEvt e).host.cfg.aspmL1 = c.host.cfg.aspmL1 := by
  unfold Chip.pushEvt
  dsimp only; split <;> simp
@[simp] theorem Chip.pushEvt_host_cfg_msixEn (e : Evt) : (c.pushEvt e).host.cfg.msixEn = c.host.cfg.msixEn := by
  unfold Chip.pushEvt
  dsimp only; split <;> simp
@[simp] theorem Chip.pushEvt_host_cfg_msixMask (e : Evt) : (c.pushEvt e).host.cfg.msixMask = c.host.cfg.msixMask := by
  unfold Chip.pushEvt
  dsimp only; split <;> simp
@[simp] theorem Chip.pushEvt_host_cfg_aerUncorr (e : Evt) : (c.pushEvt e).host.cfg.aerUncorr = c.host.cfg.aerUncorr := by
  unfold Chip.pushEvt
  dsimp only; split <;> simp
@[simp] theorem Chip.pushEvt_host_cfg_aerCorr (e : Evt) : (c.pushEvt e).host.cfg.aerCorr = c.host.cfg.aerCorr := by
  unfold Chip.pushEvt
  dsimp only; split <;> simp
@[simp] theorem Chip.pushEvt_host_cfg_aerLog (e : Evt) : (c.pushEvt e).host.cfg.aerLog = c.host.cfg.aerLog := by
  unfold Chip.pushEvt
  dsimp only; split <;> simp
theorem Chip.pushEvt_fld (e : Evt) (g : Fld) (j : Nat) (h0 : g ≠ .MBX_EVT_WR_WR) (h1 : g ≠ .MBX_CNT_EVT_LOST) : (c.pushEvt e).fld g j = c.fld g j := by
  unfold Chip.pushEvt
  dsimp only; split
  · simp [Ne.symm h1]
  · simp only [Chip.fld, Chip.wakeCause_regs, Chip.raise_regs]
    have := Chip.setF_fld { c with mbx := { c.mbx with ring := kInsert c.mbx.ring (c.fld .MBX_EVT_WR_WR 0) (e.bytes c.mbx.evtSeq), evtSeq := (c.mbx.evtSeq + 1) % 2 ^ 32 } } .MBX_EVT_WR_WR g 0 j ((c.fld .MBX_EVT_WR_WR 0 + 1) % 64)
    simpa [Chip.fld, Ne.symm h0] using this

/-! ### logEvt -/

@[simp] theorem Chip.logEvt_ident (e : Evt) : (c.logEvt e).ident = c.ident := by
  unfold Chip.logEvt
  simp
@[simp] theorem Chip.logEvt_avs (e : Evt) : (c.logEvt e).avs = c.avs := by
  unfold Chip.logEvt
  simp
@[simp] theorem Chip.logEvt_slack (e : Evt) : (c.logEvt e).slack = c.slack := by
  unfold Chip.logEvt
  simp
@[simp] theorem Chip.logEvt_time (e : Evt) : (c.logEvt e).time = c.time := by
  unfold Chip.logEvt
  simp
@[simp] theorem Chip.logEvt_mbx (e : Evt) : (c.logEvt e).mbx = c.mbx := by
  unfold Chip.logEvt
  simp
@[simp] theorem Chip.logEvt_out (e : Evt) : (c.logEvt e).out = c.out := by
  unfold Chip.logEvt
  simp
@[simp] theorem Chip.logEvt_free (e : Evt) : (c.logEvt e).free = c.free := by
  unfold Chip.logEvt
  simp
@[simp] theorem Chip.logEvt_host (e : Evt) : (c.logEvt e).host = c.host := by
  unfold Chip.logEvt
  simp
@[simp] theorem Chip.logEvt_hostPath (e : Evt) : (c.logEvt e).hostPath = c.hostPath := by
  unfold Chip.logEvt
  simp
@[simp] theorem Chip.logEvt_monPath (e : Evt) : (c.logEvt e).monPath = c.monPath := by
  unfold Chip.logEvt
  simp
@[simp] theorem Chip.logEvt_spil (e : Evt) : (c.logEvt e).spil = c.spil := by
  unfold Chip.logEvt
  simp
@[simp] theorem Chip.logEvt_pwr (e : Evt) : (c.logEvt e).pwr = c.pwr := by
  unfold Chip.logEvt
  simp
@[simp] theorem Chip.logEvt_dbg (e : Evt) : (c.logEvt e).dbg = c.dbg := by
  unfold Chip.logEvt
  simp
@[simp] theorem Chip.logEvt_bridge (e : Evt) : (c.logEvt e).bridge = c.bridge := by
  unfold Chip.logEvt
  simp
@[simp] theorem Chip.logEvt_strm (e : Evt) : (c.logEvt e).strm = c.strm := by
  unfold Chip.logEvt
  simp
@[simp] theorem Chip.logEvt_plane (e : Evt) : (c.logEvt e).plane = c.plane := by
  unfold Chip.logEvt
  simp
@[simp] theorem Chip.logEvt_brkw (e : Evt) : (c.logEvt e).brkw = c.brkw := by
  unfold Chip.logEvt
  simp
@[simp] theorem Chip.logEvt_stor (e : Evt) : (c.logEvt e).stor = c.stor := by
  unfold Chip.logEvt
  simp
@[simp] theorem Chip.logEvt_dma (e : Evt) : (c.logEvt e).dma = c.dma := by
  unfold Chip.logEvt
  simp
@[simp] theorem Chip.logEvt_duo (e : Evt) : (c.logEvt e).duo = c.duo := by
  unfold Chip.logEvt
  simp
@[simp] theorem Chip.logEvt_flt_batchOpen (e : Evt) : (c.logEvt e).flt.batchOpen = c.flt.batchOpen := by
  unfold Chip.logEvt
  simp
@[simp] theorem Chip.logEvt_flt_batch (e : Evt) : (c.logEvt e).flt.batch = c.flt.batch := by
  unfold Chip.logEvt
  simp
@[simp] theorem Chip.logEvt_flt_nextBatch (e : Evt) : (c.logEvt e).flt.nextBatch = c.flt.nextBatch := by
  unfold Chip.logEvt
  simp
@[simp] theorem Chip.logEvt_flt_pairs (e : Evt) : (c.logEvt e).flt.pairs = c.flt.pairs := by
  unfold Chip.logEvt
  simp
@[simp] theorem Chip.logEvt_flt_log (e : Evt) : (c.logEvt e).flt.log = c.flt.log := by
  unfold Chip.logEvt
  simp
@[simp] theorem Chip.logEvt_flt_quiet (e : Evt) : (c.logEvt e).flt.quiet = c.flt.quiet := by
  unfold Chip.logEvt
  simp
@[simp] theorem Chip.logEvt_flt_due (e : Evt) : (c.logEvt e).flt.due = c.flt.due := by
  unfold Chip.logEvt
  simp
@[simp] theorem Chip.logEvt_flt_history (e : Evt) : (c.logEvt e).flt.history = c.flt.history := by
  unfold Chip.logEvt
  simp
@[simp] theorem Chip.logEvt_flt_aliveFatal (e : Evt) : (c.logEvt e).flt.aliveFatal = c.flt.aliveFatal := by
  unfold Chip.logEvt
  simp
@[simp] theorem Chip.logEvt_flt_aliveStall (e : Evt) : (c.logEvt e).flt.aliveStall = c.flt.aliveStall := by
  unfold Chip.logEvt
  simp
@[simp] theorem Chip.logEvt_flt_readyOnce (e : Evt) : (c.logEvt e).flt.readyOnce = c.flt.readyOnce := by
  unfold Chip.logEvt
  simp
@[simp] theorem Chip.logEvt_flt_life (e : Evt) : (c.logEvt e).flt.life = c.flt.life := by
  unfold Chip.logEvt
  simp
theorem Chip.logEvt_fld (e : Evt) (g : Fld) (j : Nat) (h0 : g ≠ .SAFF_CNT_LOST) : (c.logEvt e).fld g j = c.fld g j := by
  unfold Chip.logEvt
  exact Chip.submit_fld _ _ _ _ _ _ g j h0

/-! ### evtRecord -/

@[simp] theorem Chip.evtRecord_ident (e : Evt) : (c.evtRecord e).ident = c.ident := by
  unfold Chip.evtRecord
  repeat' split
  all_goals simp
@[simp] theorem Chip.evtRecord_avs (e : Evt) : (c.evtRecord e).avs = c.avs := by
  unfold Chip.evtRecord
  repeat' split
  all_goals simp
@[simp] theorem Chip.evtRecord_slack (e : Evt) : (c.evtRecord e).slack = c.slack := by
  unfold Chip.evtRecord
  repeat' split
  all_goals simp
@[simp] theorem Chip.evtRecord_time (e : Evt) : (c.evtRecord e).time = c.time := by
  unfold Chip.evtRecord
  repeat' split
  all_goals simp
@[simp] theorem Chip.evtRecord_out (e : Evt) : (c.evtRecord e).out = c.out := by
  unfold Chip.evtRecord
  repeat' split
  all_goals simp
@[simp] theorem Chip.evtRecord_free (e : Evt) : (c.evtRecord e).free = c.free := by
  unfold Chip.evtRecord
  repeat' split
  all_goals simp
@[simp] theorem Chip.evtRecord_host (e : Evt) : (c.evtRecord e).host = c.host := by
  unfold Chip.evtRecord
  repeat' split
  all_goals simp
@[simp] theorem Chip.evtRecord_hostPath (e : Evt) : (c.evtRecord e).hostPath = c.hostPath := by
  unfold Chip.evtRecord
  repeat' split
  all_goals simp
@[simp] theorem Chip.evtRecord_monPath (e : Evt) : (c.evtRecord e).monPath = c.monPath := by
  unfold Chip.evtRecord
  repeat' split
  all_goals simp
@[simp] theorem Chip.evtRecord_spil (e : Evt) : (c.evtRecord e).spil = c.spil := by
  unfold Chip.evtRecord
  repeat' split
  all_goals simp
@[simp] theorem Chip.evtRecord_pwr (e : Evt) : (c.evtRecord e).pwr = c.pwr := by
  unfold Chip.evtRecord
  repeat' split
  all_goals simp
@[simp] theorem Chip.evtRecord_dbg (e : Evt) : (c.evtRecord e).dbg = c.dbg := by
  unfold Chip.evtRecord
  repeat' split
  all_goals simp
@[simp] theorem Chip.evtRecord_bridge (e : Evt) : (c.evtRecord e).bridge = c.bridge := by
  unfold Chip.evtRecord
  repeat' split
  all_goals simp
@[simp] theorem Chip.evtRecord_strm (e : Evt) : (c.evtRecord e).strm = c.strm := by
  unfold Chip.evtRecord
  repeat' split
  all_goals simp
@[simp] theorem Chip.evtRecord_plane (e : Evt) : (c.evtRecord e).plane = c.plane := by
  unfold Chip.evtRecord
  repeat' split
  all_goals simp
@[simp] theorem Chip.evtRecord_brkw (e : Evt) : (c.evtRecord e).brkw = c.brkw := by
  unfold Chip.evtRecord
  repeat' split
  all_goals simp
@[simp] theorem Chip.evtRecord_stor (e : Evt) : (c.evtRecord e).stor = c.stor := by
  unfold Chip.evtRecord
  repeat' split
  all_goals simp
@[simp] theorem Chip.evtRecord_dma (e : Evt) : (c.evtRecord e).dma = c.dma := by
  unfold Chip.evtRecord
  repeat' split
  all_goals simp
@[simp] theorem Chip.evtRecord_duo (e : Evt) : (c.evtRecord e).duo = c.duo := by
  unfold Chip.evtRecord
  repeat' split
  all_goals simp
@[simp] theorem Chip.evtRecord_mbx_isOpen (e : Evt) : (c.evtRecord e).mbx.isOpen = c.mbx.isOpen := by
  unfold Chip.evtRecord
  repeat' split
  all_goals simp
@[simp] theorem Chip.evtRecord_mbx_slots (e : Evt) : (c.evtRecord e).mbx.slots = c.mbx.slots := by
  unfold Chip.evtRecord
  repeat' split
  all_goals simp
@[simp] theorem Chip.evtRecord_mbx_order (e : Evt) : (c.evtRecord e).mbx.order = c.mbx.order := by
  unfold Chip.evtRecord
  repeat' split
  all_goals simp
@[simp] theorem Chip.evtRecord_mbx_timed (e : Evt) : (c.evtRecord e).mbx.timed = c.mbx.timed := by
  unfold Chip.evtRecord
  repeat' split
  all_goals simp
@[simp] theorem Chip.evtRecord_mbx_ring (e : Evt) : (c.evtRecord e).mbx.ring = c.mbx.ring := by
  unfold Chip.evtRecord
  repeat' split
  all_goals simp
@[simp] theorem Chip.evtRecord_mbx_evtSeq (e : Evt) : (c.evtRecord e).mbx.evtSeq = c.mbx.evtSeq := by
  unfold Chip.evtRecord
  repeat' split
  all_goals simp
@[simp] theorem Chip.evtRecord_mbx_heldEvts (e : Evt) : (c.evtRecord e).mbx.heldEvts = c.mbx.heldEvts := by
  unfold Chip.evtRecord
  repeat' split
  all_goals simp
@[simp] theorem Chip.evtRecord_mbx_firstEvt (e : Evt) : (c.evtRecord e).mbx.firstEvt = c.mbx.firstEvt := by
  unfold Chip.evtRecord
  repeat' split
  all_goals simp
@[simp] theorem Chip.evtRecord_mbx_fened (e : Evt) : (c.evtRecord e).mbx.fened = c.mbx.fened := by
  unfold Chip.evtRecord
  repeat' split
  all_goals simp
@[simp] theorem Chip.evtRecord_mbx_stalled (e : Evt) : (c.evtRecord e).mbx.stalled = c.mbx.stalled := by
  unfold Chip.evtRecord
  repeat' split
  all_goals simp
@[simp] theorem Chip.evtRecord_mbx_fwA (e : Evt) : (c.evtRecord e).mbx.fwA = c.mbx.fwA := by
  unfold Chip.evtRecord
  repeat' split
  all_goals simp
@[simp] theorem Chip.evtRecord_mbx_fwB (e : Evt) : (c.evtRecord e).mbx.fwB = c.mbx.fwB := by
  unfold Chip.evtRecord
  repeat' split
  all_goals simp
@[simp] theorem Chip.evtRecord_mbx_act (e : Evt) : (c.evtRecord e).mbx.act = c.mbx.act := by
  unfold Chip.evtRecord
  repeat' split
  all_goals simp
@[simp] theorem Chip.evtRecord_mbx_image (e : Evt) : (c.evtRecord e).mbx.image = c.mbx.image := by
  unfold Chip.evtRecord
  repeat' split
  all_goals simp
@[simp] theorem Chip.evtRecord_mbx_shown (e : Evt) : (c.evtRecord e).mbx.shown = c.mbx.shown := by
  unfold Chip.evtRecord
  repeat' split
  all_goals simp
@[simp] theorem Chip.evtRecord_mbx_checks (e : Evt) : (c.evtRecord e).mbx.checks = c.mbx.checks := by
  unfold Chip.evtRecord
  repeat' split
  all_goals simp
@[simp] theorem Chip.evtRecord_mbx_digestAt (e : Evt) : (c.evtRecord e).mbx.digestAt = c.mbx.digestAt := by
  unfold Chip.evtRecord
  repeat' split
  all_goals simp
@[simp] theorem Chip.evtRecord_mbx_digestDue (e : Evt) : (c.evtRecord e).mbx.digestDue = c.mbx.digestDue := by
  unfold Chip.evtRecord
  repeat' split
  all_goals simp
@[simp] theorem Chip.evtRecord_flt_batchOpen (e : Evt) : (c.evtRecord e).flt.batchOpen = c.flt.batchOpen := by
  unfold Chip.evtRecord
  repeat' split
  all_goals simp
@[simp] theorem Chip.evtRecord_flt_batch (e : Evt) : (c.evtRecord e).flt.batch = c.flt.batch := by
  unfold Chip.evtRecord
  repeat' split
  all_goals simp
@[simp] theorem Chip.evtRecord_flt_nextBatch (e : Evt) : (c.evtRecord e).flt.nextBatch = c.flt.nextBatch := by
  unfold Chip.evtRecord
  repeat' split
  all_goals simp
@[simp] theorem Chip.evtRecord_flt_pairs (e : Evt) : (c.evtRecord e).flt.pairs = c.flt.pairs := by
  unfold Chip.evtRecord
  repeat' split
  all_goals simp
@[simp] theorem Chip.evtRecord_flt_log (e : Evt) : (c.evtRecord e).flt.log = c.flt.log := by
  unfold Chip.evtRecord
  repeat' split
  all_goals simp
@[simp] theorem Chip.evtRecord_flt_quiet (e : Evt) : (c.evtRecord e).flt.quiet = c.flt.quiet := by
  unfold Chip.evtRecord
  repeat' split
  all_goals simp
@[simp] theorem Chip.evtRecord_flt_due (e : Evt) : (c.evtRecord e).flt.due = c.flt.due := by
  unfold Chip.evtRecord
  repeat' split
  all_goals simp
@[simp] theorem Chip.evtRecord_flt_history (e : Evt) : (c.evtRecord e).flt.history = c.flt.history := by
  unfold Chip.evtRecord
  repeat' split
  all_goals simp
@[simp] theorem Chip.evtRecord_flt_aliveFatal (e : Evt) : (c.evtRecord e).flt.aliveFatal = c.flt.aliveFatal := by
  unfold Chip.evtRecord
  repeat' split
  all_goals simp
@[simp] theorem Chip.evtRecord_flt_aliveStall (e : Evt) : (c.evtRecord e).flt.aliveStall = c.flt.aliveStall := by
  unfold Chip.evtRecord
  repeat' split
  all_goals simp
@[simp] theorem Chip.evtRecord_flt_readyOnce (e : Evt) : (c.evtRecord e).flt.readyOnce = c.flt.readyOnce := by
  unfold Chip.evtRecord
  repeat' split
  all_goals simp
@[simp] theorem Chip.evtRecord_flt_life (e : Evt) : (c.evtRecord e).flt.life = c.flt.life := by
  unfold Chip.evtRecord
  repeat' split
  all_goals simp
theorem Chip.evtRecord_fld (e : Evt) (g : Fld) (j : Nat) (h0 : g ≠ .SAFF_CNT_LOST) : (c.evtRecord e).fld g j = c.fld g j := by
  unfold Chip.evtRecord
  split
  · rfl
  · split
    · exact Chip.logEvt_fld c e g j h0
    · rfl

/-! ### event -/

@[simp] theorem Chip.event_ident (code : Nat) (data : Bytes) : (c.event code data).ident = c.ident := by
  unfold Chip.event
  dsimp only; repeat' split
  all_goals simp
@[simp] theorem Chip.event_avs (code : Nat) (data : Bytes) : (c.event code data).avs = c.avs := by
  unfold Chip.event
  dsimp only; repeat' split
  all_goals simp
@[simp] theorem Chip.event_slack (code : Nat) (data : Bytes) : (c.event code data).slack = c.slack := by
  unfold Chip.event
  dsimp only; repeat' split
  all_goals simp
@[simp] theorem Chip.event_time (code : Nat) (data : Bytes) : (c.event code data).time = c.time := by
  unfold Chip.event
  dsimp only; repeat' split
  all_goals simp
@[simp] theorem Chip.event_free (code : Nat) (data : Bytes) : (c.event code data).free = c.free := by
  unfold Chip.event
  dsimp only; repeat' split
  all_goals simp
@[simp] theorem Chip.event_hostPath (code : Nat) (data : Bytes) : (c.event code data).hostPath = c.hostPath := by
  unfold Chip.event
  dsimp only; repeat' split
  all_goals simp
@[simp] theorem Chip.event_monPath (code : Nat) (data : Bytes) : (c.event code data).monPath = c.monPath := by
  unfold Chip.event
  dsimp only; repeat' split
  all_goals simp
@[simp] theorem Chip.event_spil (code : Nat) (data : Bytes) : (c.event code data).spil = c.spil := by
  unfold Chip.event
  dsimp only; repeat' split
  all_goals simp
@[simp] theorem Chip.event_pwr (code : Nat) (data : Bytes) : (c.event code data).pwr = c.pwr := by
  unfold Chip.event
  dsimp only; repeat' split
  all_goals simp
@[simp] theorem Chip.event_dbg (code : Nat) (data : Bytes) : (c.event code data).dbg = c.dbg := by
  unfold Chip.event
  dsimp only; repeat' split
  all_goals simp
@[simp] theorem Chip.event_bridge (code : Nat) (data : Bytes) : (c.event code data).bridge = c.bridge := by
  unfold Chip.event
  dsimp only; repeat' split
  all_goals simp
@[simp] theorem Chip.event_strm (code : Nat) (data : Bytes) : (c.event code data).strm = c.strm := by
  unfold Chip.event
  dsimp only; repeat' split
  all_goals simp
@[simp] theorem Chip.event_plane (code : Nat) (data : Bytes) : (c.event code data).plane = c.plane := by
  unfold Chip.event
  dsimp only; repeat' split
  all_goals simp
@[simp] theorem Chip.event_brkw (code : Nat) (data : Bytes) : (c.event code data).brkw = c.brkw := by
  unfold Chip.event
  dsimp only; repeat' split
  all_goals simp
@[simp] theorem Chip.event_stor (code : Nat) (data : Bytes) : (c.event code data).stor = c.stor := by
  unfold Chip.event
  dsimp only; repeat' split
  all_goals simp
@[simp] theorem Chip.event_dma (code : Nat) (data : Bytes) : (c.event code data).dma = c.dma := by
  unfold Chip.event
  dsimp only; repeat' split
  all_goals simp
@[simp] theorem Chip.event_duo (code : Nat) (data : Bytes) : (c.event code data).duo = c.duo := by
  unfold Chip.event
  dsimp only; repeat' split
  all_goals simp
@[simp] theorem Chip.event_mbx_isOpen (code : Nat) (data : Bytes) : (c.event code data).mbx.isOpen = c.mbx.isOpen := by
  unfold Chip.event
  dsimp only; repeat' split
  all_goals simp
@[simp] theorem Chip.event_mbx_slots (code : Nat) (data : Bytes) : (c.event code data).mbx.slots = c.mbx.slots := by
  unfold Chip.event
  dsimp only; repeat' split
  all_goals simp
@[simp] theorem Chip.event_mbx_order (code : Nat) (data : Bytes) : (c.event code data).mbx.order = c.mbx.order := by
  unfold Chip.event
  dsimp only; repeat' split
  all_goals simp
@[simp] theorem Chip.event_mbx_timed (code : Nat) (data : Bytes) : (c.event code data).mbx.timed = c.mbx.timed := by
  unfold Chip.event
  dsimp only; repeat' split
  all_goals simp
@[simp] theorem Chip.event_mbx_firstEvt (code : Nat) (data : Bytes) : (c.event code data).mbx.firstEvt = c.mbx.firstEvt := by
  unfold Chip.event
  dsimp only; repeat' split
  all_goals simp
@[simp] theorem Chip.event_mbx_fened (code : Nat) (data : Bytes) : (c.event code data).mbx.fened = c.mbx.fened := by
  unfold Chip.event
  dsimp only; repeat' split
  all_goals simp
@[simp] theorem Chip.event_mbx_stalled (code : Nat) (data : Bytes) : (c.event code data).mbx.stalled = c.mbx.stalled := by
  unfold Chip.event
  dsimp only; repeat' split
  all_goals simp
@[simp] theorem Chip.event_mbx_fwA (code : Nat) (data : Bytes) : (c.event code data).mbx.fwA = c.mbx.fwA := by
  unfold Chip.event
  dsimp only; repeat' split
  all_goals simp
@[simp] theorem Chip.event_mbx_fwB (code : Nat) (data : Bytes) : (c.event code data).mbx.fwB = c.mbx.fwB := by
  unfold Chip.event
  dsimp only; repeat' split
  all_goals simp
@[simp] theorem Chip.event_mbx_act (code : Nat) (data : Bytes) : (c.event code data).mbx.act = c.mbx.act := by
  unfold Chip.event
  dsimp only; repeat' split
  all_goals simp
@[simp] theorem Chip.event_mbx_image (code : Nat) (data : Bytes) : (c.event code data).mbx.image = c.mbx.image := by
  unfold Chip.event
  dsimp only; repeat' split
  all_goals simp
@[simp] theorem Chip.event_mbx_shown (code : Nat) (data : Bytes) : (c.event code data).mbx.shown = c.mbx.shown := by
  unfold Chip.event
  dsimp only; repeat' split
  all_goals simp
@[simp] theorem Chip.event_mbx_checks (code : Nat) (data : Bytes) : (c.event code data).mbx.checks = c.mbx.checks := by
  unfold Chip.event
  dsimp only; repeat' split
  all_goals simp
@[simp] theorem Chip.event_mbx_digestAt (code : Nat) (data : Bytes) : (c.event code data).mbx.digestAt = c.mbx.digestAt := by
  unfold Chip.event
  dsimp only; repeat' split
  all_goals simp
@[simp] theorem Chip.event_mbx_digestDue (code : Nat) (data : Bytes) : (c.event code data).mbx.digestDue = c.mbx.digestDue := by
  unfold Chip.event
  dsimp only; repeat' split
  all_goals simp
@[simp] theorem Chip.event_flt_batchOpen (code : Nat) (data : Bytes) : (c.event code data).flt.batchOpen = c.flt.batchOpen := by
  unfold Chip.event
  dsimp only; repeat' split
  all_goals simp
@[simp] theorem Chip.event_flt_batch (code : Nat) (data : Bytes) : (c.event code data).flt.batch = c.flt.batch := by
  unfold Chip.event
  dsimp only; repeat' split
  all_goals simp
@[simp] theorem Chip.event_flt_nextBatch (code : Nat) (data : Bytes) : (c.event code data).flt.nextBatch = c.flt.nextBatch := by
  unfold Chip.event
  dsimp only; repeat' split
  all_goals simp
@[simp] theorem Chip.event_flt_pairs (code : Nat) (data : Bytes) : (c.event code data).flt.pairs = c.flt.pairs := by
  unfold Chip.event
  dsimp only; repeat' split
  all_goals simp
@[simp] theorem Chip.event_flt_log (code : Nat) (data : Bytes) : (c.event code data).flt.log = c.flt.log := by
  unfold Chip.event
  dsimp only; repeat' split
  all_goals simp
@[simp] theorem Chip.event_flt_quiet (code : Nat) (data : Bytes) : (c.event code data).flt.quiet = c.flt.quiet := by
  unfold Chip.event
  dsimp only; repeat' split
  all_goals simp
@[simp] theorem Chip.event_flt_due (code : Nat) (data : Bytes) : (c.event code data).flt.due = c.flt.due := by
  unfold Chip.event
  dsimp only; repeat' split
  all_goals simp
@[simp] theorem Chip.event_flt_history (code : Nat) (data : Bytes) : (c.event code data).flt.history = c.flt.history := by
  unfold Chip.event
  dsimp only; repeat' split
  all_goals simp
@[simp] theorem Chip.event_flt_aliveFatal (code : Nat) (data : Bytes) : (c.event code data).flt.aliveFatal = c.flt.aliveFatal := by
  unfold Chip.event
  dsimp only; repeat' split
  all_goals simp
@[simp] theorem Chip.event_flt_aliveStall (code : Nat) (data : Bytes) : (c.event code data).flt.aliveStall = c.flt.aliveStall := by
  unfold Chip.event
  dsimp only; repeat' split
  all_goals simp
@[simp] theorem Chip.event_flt_readyOnce (code : Nat) (data : Bytes) : (c.event code data).flt.readyOnce = c.flt.readyOnce := by
  unfold Chip.event
  dsimp only; repeat' split
  all_goals simp
@[simp] theorem Chip.event_flt_life (code : Nat) (data : Bytes) : (c.event code data).flt.life = c.flt.life := by
  unfold Chip.event
  dsimp only; repeat' split
  all_goals simp
@[simp] theorem Chip.event_host_perst (code : Nat) (data : Bytes) : (c.event code data).host.perst = c.host.perst := by
  unfold Chip.event
  dsimp only; repeat' split
  all_goals simp
@[simp] theorem Chip.event_host_ready (code : Nat) (data : Bytes) : (c.event code data).host.ready = c.host.ready := by
  unfold Chip.event
  dsimp only; repeat' split
  all_goals simp
@[simp] theorem Chip.event_host_msix (code : Nat) (data : Bytes) : (c.event code data).host.msix = c.host.msix := by
  unfold Chip.event
  dsimp only; repeat' split
  all_goals simp
@[simp] theorem Chip.event_host_reads (code : Nat) (data : Bytes) : (c.event code data).host.reads = c.host.reads := by
  unfold Chip.event
  dsimp only; repeat' split
  all_goals simp
@[simp] theorem Chip.event_host_quar (code : Nat) (data : Bytes) : (c.event code data).host.quar = c.host.quar := by
  unfold Chip.event
  dsimp only; repeat' split
  all_goals simp
@[simp] theorem Chip.event_host_turnedOff (code : Nat) (data : Bytes) : (c.event code data).host.turnedOff = c.host.turnedOff := by
  unfold Chip.event
  dsimp only; repeat' split
  all_goals simp
@[simp] theorem Chip.event_host_lost (code : Nat) (data : Bytes) : (c.event code data).host.lost = c.host.lost := by
  unfold Chip.event
  dsimp only; repeat' split
  all_goals simp
@[simp] theorem Chip.event_host_d3cold (code : Nat) (data : Bytes) : (c.event code data).host.d3cold = c.host.d3cold := by
  unfold Chip.event
  dsimp only; repeat' split
  all_goals simp
@[simp] theorem Chip.event_host_cfg_memEn (code : Nat) (data : Bytes) : (c.event code data).host.cfg.memEn = c.host.cfg.memEn := by
  unfold Chip.event
  dsimp only; repeat' split
  all_goals simp
@[simp] theorem Chip.event_host_cfg_busMaster (code : Nat) (data : Bytes) : (c.event code data).host.cfg.busMaster = c.host.cfg.busMaster := by
  unfold Chip.event
  dsimp only; repeat' split
  all_goals simp
@[simp] theorem Chip.event_host_cfg_parityEn (code : Nat) (data : Bytes) : (c.event code data).host.cfg.parityEn = c.host.cfg.parityEn := by
  unfold Chip.event
  dsimp only; repeat' split
  all_goals simp
@[simp] theorem Chip.event_host_cfg_serrEn (code : Nat) (data : Bytes) : (c.event code data).host.cfg.serrEn = c.host.cfg.serrEn := by
  unfold Chip.event
  dsimp only; repeat' split
  all_goals simp
@[simp] theorem Chip.event_host_cfg_intDisable (code : Nat) (data : Bytes) : (c.event code data).host.cfg.intDisable = c.host.cfg.intDisable := by
  unfold Chip.event
  dsimp only; repeat' split
  all_goals simp
@[simp] theorem Chip.event_host_cfg_intLine (code : Nat) (data : Bytes) : (c.event code data).host.cfg.intLine = c.host.cfg.intLine := by
  unfold Chip.event
  dsimp only; repeat' split
  all_goals simp
@[simp] theorem Chip.event_host_cfg_bar0 (code : Nat) (data : Bytes) : (c.event code data).host.cfg.bar0 = c.host.cfg.bar0 := by
  unfold Chip.event
  dsimp only; repeat' split
  all_goals simp
@[simp] theorem Chip.event_host_cfg_bar2 (code : Nat) (data : Bytes) : (c.event code data).host.cfg.bar2 = c.host.cfg.bar2 := by
  unfold Chip.event
  dsimp only; repeat' split
  all_goals simp
@[simp] theorem Chip.event_host_cfg_barSize (code : Nat) (data : Bytes) : (c.event code data).host.cfg.barSize = c.host.cfg.barSize := by
  unfold Chip.event
  dsimp only; repeat' split
  all_goals simp
@[simp] theorem Chip.event_host_cfg_dstate (code : Nat) (data : Bytes) : (c.event code data).host.cfg.dstate = c.host.cfg.dstate := by
  unfold Chip.event
  dsimp only; repeat' split
  all_goals simp
@[simp] theorem Chip.event_host_cfg_pmeEn (code : Nat) (data : Bytes) : (c.event code data).host.cfg.pmeEn = c.host.cfg.pmeEn := by
  unfold Chip.event
  dsimp only; repeat' split
  all_goals simp
@[simp] theorem Chip.event_host_cfg_maxPayload (code : Nat) (data : Bytes) : (c.event code data).host.cfg.maxPayload = c.host.cfg.maxPayload := by
  unfold Chip.event
  dsimp only; repeat' split
  all_goals simp
@[simp] theorem Chip.event_host_cfg_maxReadReq (code : Nat) (data : Bytes) : (c.event code data).host.cfg.maxReadReq = c.host.cfg.maxReadReq := by
  unfold Chip.event
  dsimp only; repeat' split
  all_goals simp
@[simp] theorem Chip.event_host_cfg_relaxed (code : Nat) (data : Bytes) : (c.event code data).host.cfg.relaxed = c.host.cfg.relaxed := by
  unfold Chip.event
  dsimp only; repeat' split
  all_goals simp
@[simp] theorem Chip.event_host_cfg_noSnoop (code : Nat) (data : Bytes) : (c.event code data).host.cfg.noSnoop = c.host.cfg.noSnoop := by
  unfold Chip.event
  dsimp only; repeat' split
  all_goals simp
@[simp] theorem Chip.event_host_cfg_cto (code : Nat) (data : Bytes) : (c.event code data).host.cfg.cto = c.host.cfg.cto := by
  unfold Chip.event
  dsimp only; repeat' split
  all_goals simp
@[simp] theorem Chip.event_host_cfg_aspmL1 (code : Nat) (data : Bytes) : (c.event code data).host.cfg.aspmL1 = c.host.cfg.aspmL1 := by
  unfold Chip.event
  dsimp only; repeat' split
  all_goals simp
@[simp] theorem Chip.event_host_cfg_msixEn (code : Nat) (data : Bytes) : (c.event code data).host.cfg.msixEn = c.host.cfg.msixEn := by
  unfold Chip.event
  dsimp only; repeat' split
  all_goals simp
@[simp] theorem Chip.event_host_cfg_msixMask (code : Nat) (data : Bytes) : (c.event code data).host.cfg.msixMask = c.host.cfg.msixMask := by
  unfold Chip.event
  dsimp only; repeat' split
  all_goals simp
@[simp] theorem Chip.event_host_cfg_aerUncorr (code : Nat) (data : Bytes) : (c.event code data).host.cfg.aerUncorr = c.host.cfg.aerUncorr := by
  unfold Chip.event
  dsimp only; repeat' split
  all_goals simp
@[simp] theorem Chip.event_host_cfg_aerCorr (code : Nat) (data : Bytes) : (c.event code data).host.cfg.aerCorr = c.host.cfg.aerCorr := by
  unfold Chip.event
  dsimp only; repeat' split
  all_goals simp
@[simp] theorem Chip.event_host_cfg_aerLog (code : Nat) (data : Bytes) : (c.event code data).host.cfg.aerLog = c.host.cfg.aerLog := by
  unfold Chip.event
  dsimp only; repeat' split
  all_goals simp
theorem Chip.event_fld (code : Nat) (data : Bytes) (g : Fld) (j : Nat) (h0 : g ≠ .MBX_EVT_WR_WR) (h1 : g ≠ .MBX_CNT_EVT_LOST) (h2 : g ≠ .SAFF_CNT_LOST) : (c.event code data).fld g j = c.fld g j := by
  unfold Chip.event
  dsimp only; split
  · rw [Chip.pushEvt_fld _ _ g j h0 h1, Chip.evtRecord_fld _ _ g j h2]
  · simp only [Chip.fld, Chip.wakeCause_regs]
    exact Chip.evtRecord_fld _ _ g j h2

/-! ### noteState -/

@[simp] theorem Chip.noteState_ident  : (c.noteState).ident = c.ident := by
  unfold Chip.noteState
  split <;> simp
@[simp] theorem Chip.noteState_avs  : (c.noteState).avs = c.avs := by
  unfold Chip.noteState
  split <;> simp
@[simp] theorem Chip.noteState_slack  : (c.noteState).slack = c.slack := by
  unfold Chip.noteState
  split <;> simp
@[simp] theorem Chip.noteState_time  : (c.noteState).time = c.time := by
  unfold Chip.noteState
  split <;> simp
@[simp] theorem Chip.noteState_free  : (c.noteState).free = c.free := by
  unfold Chip.noteState
  split <;> simp
@[simp] theorem Chip.noteState_hostPath  : (c.noteState).hostPath = c.hostPath := by
  unfold Chip.noteState
  split <;> simp
@[simp] theorem Chip.noteState_monPath  : (c.noteState).monPath = c.monPath := by
  unfold Chip.noteState
  split <;> simp
@[simp] theorem Chip.noteState_spil  : (c.noteState).spil = c.spil := by
  unfold Chip.noteState
  split <;> simp
@[simp] theorem Chip.noteState_pwr  : (c.noteState).pwr = c.pwr := by
  unfold Chip.noteState
  split <;> simp
@[simp] theorem Chip.noteState_dbg  : (c.noteState).dbg = c.dbg := by
  unfold Chip.noteState
  split <;> simp
@[simp] theorem Chip.noteState_bridge  : (c.noteState).bridge = c.bridge := by
  unfold Chip.noteState
  split <;> simp
@[simp] theorem Chip.noteState_strm  : (c.noteState).strm = c.strm := by
  unfold Chip.noteState
  split <;> simp
@[simp] theorem Chip.noteState_plane  : (c.noteState).plane = c.plane := by
  unfold Chip.noteState
  split <;> simp
@[simp] theorem Chip.noteState_brkw  : (c.noteState).brkw = c.brkw := by
  unfold Chip.noteState
  split <;> simp
@[simp] theorem Chip.noteState_stor  : (c.noteState).stor = c.stor := by
  unfold Chip.noteState
  split <;> simp
@[simp] theorem Chip.noteState_dma  : (c.noteState).dma = c.dma := by
  unfold Chip.noteState
  split <;> simp
@[simp] theorem Chip.noteState_duo  : (c.noteState).duo = c.duo := by
  unfold Chip.noteState
  split <;> simp
@[simp] theorem Chip.noteState_mbx_isOpen  : (c.noteState).mbx.isOpen = c.mbx.isOpen := by
  unfold Chip.noteState
  split <;> simp
@[simp] theorem Chip.noteState_mbx_slots  : (c.noteState).mbx.slots = c.mbx.slots := by
  unfold Chip.noteState
  split <;> simp
@[simp] theorem Chip.noteState_mbx_order  : (c.noteState).mbx.order = c.mbx.order := by
  unfold Chip.noteState
  split <;> simp
@[simp] theorem Chip.noteState_mbx_timed  : (c.noteState).mbx.timed = c.mbx.timed := by
  unfold Chip.noteState
  split <;> simp
@[simp] theorem Chip.noteState_mbx_firstEvt  : (c.noteState).mbx.firstEvt = c.mbx.firstEvt := by
  unfold Chip.noteState
  split <;> simp
@[simp] theorem Chip.noteState_mbx_fened  : (c.noteState).mbx.fened = c.mbx.fened := by
  unfold Chip.noteState
  split <;> simp
@[simp] theorem Chip.noteState_mbx_stalled  : (c.noteState).mbx.stalled = c.mbx.stalled := by
  unfold Chip.noteState
  split <;> simp
@[simp] theorem Chip.noteState_mbx_fwA  : (c.noteState).mbx.fwA = c.mbx.fwA := by
  unfold Chip.noteState
  split <;> simp
@[simp] theorem Chip.noteState_mbx_fwB  : (c.noteState).mbx.fwB = c.mbx.fwB := by
  unfold Chip.noteState
  split <;> simp
@[simp] theorem Chip.noteState_mbx_act  : (c.noteState).mbx.act = c.mbx.act := by
  unfold Chip.noteState
  split <;> simp
@[simp] theorem Chip.noteState_mbx_image  : (c.noteState).mbx.image = c.mbx.image := by
  unfold Chip.noteState
  split <;> simp
@[simp] theorem Chip.noteState_mbx_checks  : (c.noteState).mbx.checks = c.mbx.checks := by
  unfold Chip.noteState
  split <;> simp
@[simp] theorem Chip.noteState_mbx_digestAt  : (c.noteState).mbx.digestAt = c.mbx.digestAt := by
  unfold Chip.noteState
  split <;> simp
@[simp] theorem Chip.noteState_mbx_digestDue  : (c.noteState).mbx.digestDue = c.mbx.digestDue := by
  unfold Chip.noteState
  split <;> simp
@[simp] theorem Chip.noteState_flt_batchOpen  : (c.noteState).flt.batchOpen = c.flt.batchOpen := by
  unfold Chip.noteState
  split <;> simp
@[simp] theorem Chip.noteState_flt_batch  : (c.noteState).flt.batch = c.flt.batch := by
  unfold Chip.noteState
  split <;> simp
@[simp] theorem Chip.noteState_flt_nextBatch  : (c.noteState).flt.nextBatch = c.flt.nextBatch := by
  unfold Chip.noteState
  split <;> simp
@[simp] theorem Chip.noteState_flt_pairs  : (c.noteState).flt.pairs = c.flt.pairs := by
  unfold Chip.noteState
  split <;> simp
@[simp] theorem Chip.noteState_flt_log  : (c.noteState).flt.log = c.flt.log := by
  unfold Chip.noteState
  split <;> simp
@[simp] theorem Chip.noteState_flt_quiet  : (c.noteState).flt.quiet = c.flt.quiet := by
  unfold Chip.noteState
  split <;> simp
@[simp] theorem Chip.noteState_flt_due  : (c.noteState).flt.due = c.flt.due := by
  unfold Chip.noteState
  split <;> simp
@[simp] theorem Chip.noteState_flt_history  : (c.noteState).flt.history = c.flt.history := by
  unfold Chip.noteState
  split <;> simp
@[simp] theorem Chip.noteState_flt_aliveFatal  : (c.noteState).flt.aliveFatal = c.flt.aliveFatal := by
  unfold Chip.noteState
  split <;> simp
@[simp] theorem Chip.noteState_flt_aliveStall  : (c.noteState).flt.aliveStall = c.flt.aliveStall := by
  unfold Chip.noteState
  split <;> simp
@[simp] theorem Chip.noteState_flt_readyOnce  : (c.noteState).flt.readyOnce = c.flt.readyOnce := by
  unfold Chip.noteState
  split <;> simp
@[simp] theorem Chip.noteState_flt_life  : (c.noteState).flt.life = c.flt.life := by
  unfold Chip.noteState
  split <;> simp
@[simp] theorem Chip.noteState_host_perst  : (c.noteState).host.perst = c.host.perst := by
  unfold Chip.noteState
  split <;> simp
@[simp] theorem Chip.noteState_host_ready  : (c.noteState).host.ready = c.host.ready := by
  unfold Chip.noteState
  split <;> simp
@[simp] theorem Chip.noteState_host_msix  : (c.noteState).host.msix = c.host.msix := by
  unfold Chip.noteState
  split <;> simp
@[simp] theorem Chip.noteState_host_reads  : (c.noteState).host.reads = c.host.reads := by
  unfold Chip.noteState
  split <;> simp
@[simp] theorem Chip.noteState_host_quar  : (c.noteState).host.quar = c.host.quar := by
  unfold Chip.noteState
  split <;> simp
@[simp] theorem Chip.noteState_host_turnedOff  : (c.noteState).host.turnedOff = c.host.turnedOff := by
  unfold Chip.noteState
  split <;> simp
@[simp] theorem Chip.noteState_host_lost  : (c.noteState).host.lost = c.host.lost := by
  unfold Chip.noteState
  split <;> simp
@[simp] theorem Chip.noteState_host_d3cold  : (c.noteState).host.d3cold = c.host.d3cold := by
  unfold Chip.noteState
  split <;> simp
@[simp] theorem Chip.noteState_host_cfg_memEn  : (c.noteState).host.cfg.memEn = c.host.cfg.memEn := by
  unfold Chip.noteState
  split <;> simp
@[simp] theorem Chip.noteState_host_cfg_busMaster  : (c.noteState).host.cfg.busMaster = c.host.cfg.busMaster := by
  unfold Chip.noteState
  split <;> simp
@[simp] theorem Chip.noteState_host_cfg_parityEn  : (c.noteState).host.cfg.parityEn = c.host.cfg.parityEn := by
  unfold Chip.noteState
  split <;> simp
@[simp] theorem Chip.noteState_host_cfg_serrEn  : (c.noteState).host.cfg.serrEn = c.host.cfg.serrEn := by
  unfold Chip.noteState
  split <;> simp
@[simp] theorem Chip.noteState_host_cfg_intDisable  : (c.noteState).host.cfg.intDisable = c.host.cfg.intDisable := by
  unfold Chip.noteState
  split <;> simp
@[simp] theorem Chip.noteState_host_cfg_intLine  : (c.noteState).host.cfg.intLine = c.host.cfg.intLine := by
  unfold Chip.noteState
  split <;> simp
@[simp] theorem Chip.noteState_host_cfg_bar0  : (c.noteState).host.cfg.bar0 = c.host.cfg.bar0 := by
  unfold Chip.noteState
  split <;> simp
@[simp] theorem Chip.noteState_host_cfg_bar2  : (c.noteState).host.cfg.bar2 = c.host.cfg.bar2 := by
  unfold Chip.noteState
  split <;> simp
@[simp] theorem Chip.noteState_host_cfg_barSize  : (c.noteState).host.cfg.barSize = c.host.cfg.barSize := by
  unfold Chip.noteState
  split <;> simp
@[simp] theorem Chip.noteState_host_cfg_dstate  : (c.noteState).host.cfg.dstate = c.host.cfg.dstate := by
  unfold Chip.noteState
  split <;> simp
@[simp] theorem Chip.noteState_host_cfg_pmeEn  : (c.noteState).host.cfg.pmeEn = c.host.cfg.pmeEn := by
  unfold Chip.noteState
  split <;> simp
@[simp] theorem Chip.noteState_host_cfg_maxPayload  : (c.noteState).host.cfg.maxPayload = c.host.cfg.maxPayload := by
  unfold Chip.noteState
  split <;> simp
@[simp] theorem Chip.noteState_host_cfg_maxReadReq  : (c.noteState).host.cfg.maxReadReq = c.host.cfg.maxReadReq := by
  unfold Chip.noteState
  split <;> simp
@[simp] theorem Chip.noteState_host_cfg_relaxed  : (c.noteState).host.cfg.relaxed = c.host.cfg.relaxed := by
  unfold Chip.noteState
  split <;> simp
@[simp] theorem Chip.noteState_host_cfg_noSnoop  : (c.noteState).host.cfg.noSnoop = c.host.cfg.noSnoop := by
  unfold Chip.noteState
  split <;> simp
@[simp] theorem Chip.noteState_host_cfg_cto  : (c.noteState).host.cfg.cto = c.host.cfg.cto := by
  unfold Chip.noteState
  split <;> simp
@[simp] theorem Chip.noteState_host_cfg_aspmL1  : (c.noteState).host.cfg.aspmL1 = c.host.cfg.aspmL1 := by
  unfold Chip.noteState
  split <;> simp
@[simp] theorem Chip.noteState_host_cfg_msixEn  : (c.noteState).host.cfg.msixEn = c.host.cfg.msixEn := by
  unfold Chip.noteState
  split <;> simp
@[simp] theorem Chip.noteState_host_cfg_msixMask  : (c.noteState).host.cfg.msixMask = c.host.cfg.msixMask := by
  unfold Chip.noteState
  split <;> simp
@[simp] theorem Chip.noteState_host_cfg_aerUncorr  : (c.noteState).host.cfg.aerUncorr = c.host.cfg.aerUncorr := by
  unfold Chip.noteState
  split <;> simp
@[simp] theorem Chip.noteState_host_cfg_aerCorr  : (c.noteState).host.cfg.aerCorr = c.host.cfg.aerCorr := by
  unfold Chip.noteState
  split <;> simp
@[simp] theorem Chip.noteState_host_cfg_aerLog  : (c.noteState).host.cfg.aerLog = c.host.cfg.aerLog := by
  unfold Chip.noteState
  split <;> simp
theorem Chip.noteState_fld  (g : Fld) (j : Nat) (h0 : g ≠ .MBX_EVT_WR_WR) (h1 : g ≠ .MBX_CNT_EVT_LOST) (h2 : g ≠ .SAFF_CNT_LOST) : (c.noteState).fld g j = c.fld g j := by
  unfold Chip.noteState
  split
  · rfl
  · exact Chip.event_fld _ _ _ g j h0 h1 h2

/-! ### When a row acts -/

/-- A row of the core acts while the core runs. -/
theorem Chip.core_live (h : c.live = true) (f : Chip → Chip) : c.core f = f c := by simp [Chip.core, h]
theorem State.core_live (h : s.chip.live = true) (f : State → State) : s.core f = f s := by simp [State.core, h]

/-- A row of the core has no effect while the core stands still (R400, R415). -/
theorem Chip.core_still (h : c.live = false) (f : Chip → Chip) : c.core f = c := by simp [Chip.core, h]
theorem State.core_still (h : s.chip.live = false) (f : State → State) : s.core f = s := by simp [State.core, h]

theorem Chip.live_eq (h : c.live = true) : c.pwr.rstLow = false ∧ c.pwr.aonReady = true ∧ c.frozen = false := by
  simpa [Chip.live, Chip.inReset, and_assoc] using h

/-- A row of the always-on domain acts through a freeze (R358, R415). -/
theorem Chip.aon_live (h : c.pwr.rstLow = false) (h' : c.pwr.aonReady = true) (f : Chip → Chip) : c.aon f = f c := by
  simp [Chip.aon, Chip.inReset, h, h']
theorem State.aon_live (h : s.chip.pwr.rstLow = false) (h' : s.chip.pwr.aonReady = true) (f : State → State) :
    s.aon f = f s := by simp [State.aon, Chip.inReset, h, h']

/-! ### Accesses by a path -/

@[simp] theorem Chip.dropHalves_regs (src : Src) : (c.dropHalves src).regs = c.regs := by cases src <;> rfl
@[simp] theorem Chip.dropHalves_ident (src : Src) : (c.dropHalves src).ident = c.ident := by cases src <;> rfl
@[simp] theorem Chip.dropHalves_avs (src : Src) : (c.dropHalves src).avs = c.avs := by cases src <;> rfl
@[simp] theorem Chip.dropHalves_slack (src : Src) : (c.dropHalves src).slack = c.slack := by cases src <;> rfl
@[simp] theorem Chip.dropHalves_time (src : Src) : (c.dropHalves src).time = c.time := by cases src <;> rfl
@[simp] theorem Chip.dropHalves_mbx (src : Src) : (c.dropHalves src).mbx = c.mbx := by cases src <;> rfl
@[simp] theorem Chip.dropHalves_flt (src : Src) : (c.dropHalves src).flt = c.flt := by cases src <;> rfl
@[simp] theorem Chip.dropHalves_out (src : Src) : (c.dropHalves src).out = c.out := by cases src <;> rfl
@[simp] theorem Chip.dropHalves_free (src : Src) : (c.dropHalves src).free = c.free := by cases src <;> rfl
@[simp] theorem Chip.dropHalves_host (src : Src) : (c.dropHalves src).host = c.host := by cases src <;> rfl
@[simp] theorem Chip.dropHalves_spil (src : Src) : (c.dropHalves src).spil = c.spil := by cases src <;> rfl
@[simp] theorem Chip.dropHalves_pwr (src : Src) : (c.dropHalves src).pwr = c.pwr := by cases src <;> rfl
@[simp] theorem Chip.dropHalves_dbg (src : Src) : (c.dropHalves src).dbg = c.dbg := by cases src <;> rfl
@[simp] theorem Chip.dropHalves_bridge (src : Src) : (c.dropHalves src).bridge = c.bridge := by cases src <;> rfl
@[simp] theorem Chip.dropHalves_strm (src : Src) : (c.dropHalves src).strm = c.strm := by cases src <;> rfl
@[simp] theorem Chip.dropHalves_plane (src : Src) : (c.dropHalves src).plane = c.plane := by cases src <;> rfl
@[simp] theorem Chip.dropHalves_brkw (src : Src) : (c.dropHalves src).brkw = c.brkw := by cases src <;> rfl
@[simp] theorem Chip.dropHalves_stor (src : Src) : (c.dropHalves src).stor = c.stor := by cases src <;> rfl
@[simp] theorem Chip.dropHalves_dma (src : Src) : (c.dropHalves src).dma = c.dma := by cases src <;> rfl
@[simp] theorem Chip.dropHalves_duo (src : Src) : (c.dropHalves src).duo = c.duo := by cases src <;> rfl
@[simp] theorem Chip.dropHalves_fld (src : Src) (g : Fld) (j : Nat) : (c.dropHalves src).fld g j = c.fld g j := by
  cases src <;> rfl
@[simp] theorem Chip.dropHalves_reaches (a b : Src) (k : Block) : (c.dropHalves a).reaches b k = c.reaches b k := by
  cases a <;> rfl
@[simp] theorem Chip.dropHalves_mayWrite (a : Src) (k : Block) : (c.dropHalves a).mayWrite k = c.mayWrite k := by
  cases a <;> rfl

/-- A register write that reaches its block and is claimed acts (R313). -/
theorem Chip.gated_acts (src : Src) (b : Block) (off : Nat) (f : Chip → Chip) (h : c.reaches src b = true)
    (h' : c.mayWrite b = true) : c.gated src b off f = f (c.dropHalves src) := by
  simp [Chip.gated, h, h']

/-- One to a function that is not claimed is dropped, counted and reported (R313). -/
theorem Chip.gated_unclaimed (src : Src) (b : Block) (off : Nat) (f : Chip → Chip) (h : c.reaches src b = true)
    (h' : c.mayWrite b = false) : c.gated src b off f = (c.dropHalves src).unclaimedWrite off := by
  simp [Chip.gated, h, h']

theorem State.gated_acts (src : Src) (b : Block) (off : Nat) (f : State → State) (h : s.chip.reaches src b = true)
    (h' : s.chip.mayWrite b = true) : s.gated src b off f = f (s.withChip (s.chip.dropHalves src)) := by
  simp [State.gated, h, h']

end Sys2Proof.Machine
end

