-- ==== Sys2Proof/Laws/Sched.lean ====
section
/-!
SUPPORT. Laws/Sched.lean: what the scheduler's shared operations can do: a balance never passes its burst (R122), a shaper
that is off keeps its balance, costs and the order of tags (R118).
-/
namespace Sys2Proof.Machine

/-! ### Shaper credit (R122-R124) -/

theorem credit_nonneg (rate : Nat) (dt : Int) (h : 0 ≤ dt) : 0 ≤ credit rate dt :=
  Int.ediv_nonneg (Int.mul_nonneg (Int.mul_nonneg (Int.natCast_nonneg _) h) (by decide)) (by decide)

/-- Accrual changes nothing but the balance, its instant and what is kept of the earlier ones. -/
theorem BerthS.accrue_eq (b : BerthS) (t : Int) :
    b.accrue t = { b with bal := (b.accrue t).bal, tLast := max t b.tLast, trail := (b.accrue t).trail,
                          spent := (b.accrue t).spent } := by
  unfold BerthS.accrue BerthS.noteTrail
  split
  · split <;> rfl
  · rfl

theorem BerthS.accrue_off (b : BerthS) (t : Int) (h : b.shaper = false) : (b.accrue t).bal = b.bal := by
  simp [BerthS.accrue, h]

/-- With the shaper on, the balance is at most the burst after an accrual. -/
theorem BerthS.accrue_le (b : BerthS) (t : Int) (h : b.shaper = true) :
    (b.accrue t).bal ≤ (b.burst : Int) * byteBal := by
  simp only [BerthS.accrue, h, if_true]
  exact Int.min_le_left _ _

/-- An accrual takes nothing from a balance within its burst. -/
theorem BerthS.accrue_ge (b : BerthS) (t : Int) (h : b.bal ≤ (b.burst : Int) * byteBal) : b.bal ≤ (b.accrue t).bal := by
  have := credit_nonneg b.rate (max 0 (t - b.tLast)) (Int.le_max_left ..)
  unfold BerthS.accrue
  split
  · dsimp only [BerthS.accrued]
    omega
  · exact Int.le_refl _

/-- A charge takes its bytes, and nothing where the shaper is off. -/
theorem BerthS.pay_bal (b : BerthS) (n : Nat) :
    (b.pay n).bal = if b.shaper then b.bal - (n : Int) * byteBal else b.bal := by
  unfold BerthS.pay
  split <;> simp [*]

theorem BerthS.refund_le (b : BerthS) (n : Nat) (h : b.shaper = true) : (b.refund n).bal ≤ (b.burst : Int) * byteBal := by
  simp only [BerthS.refund, h, if_true]
  exact Int.min_le_left _ _

/-! ### Fair queueing (R118) -/

theorem before_irrefl (a : Nat) : before a a = false := by
  simp only [before, decide_eq_false_iff_not]
  omega

/-- Of two tags, not both lie before the other, unless they are half the circle apart. -/
theorem before_asymm (a b : Nat) (ha : a < 2 ^ 32) (hb : b < 2 ^ 32) (hd : (a + 2 ^ 32 - b) % 2 ^ 32 ≠ 2 ^ 31)
    (h : before a b = true) : before b a = false := by
  simp only [before, decide_eq_true_eq, decide_eq_false_iff_not] at h ⊢
  omega

/-- A frame costs something at every weight. -/
theorem cost_pos (charge w : Nat) (hc : 0 < charge) (hw : 0 < w) : 0 < cost charge w := by
  unfold cost ceilDiv
  exact Nat.div_pos (by omega) hw

end Sys2Proof.Machine
end

