-- ==== Sys2Proof/Laws/Store.lean ====
section
/-!
SUPPORT. Laws/Store.lean: what the operations over the store's bytes and pages can do: every write keeps the canonical form,
a byte reads as it was last written, and an allotment has the pages asked for, none of them in use.
-/
namespace Sys2Proof.Machine

/-! ### Bytes (R214) -/

theorem memory_wf (m : List Host.Cell) :
    Memory.wf m = true ↔ kSorted m = true ∧ ∀ e ∈ m, e.2 ≠ 0 ∧ e.1 < storeEnd := by
  simp [Memory.wf, List.all_eq_true]

theorem kInsert_mem {α : Type} (m : KMap α) (k : Nat) (v : α) (e : Nat × α) (h : e ∈ kInsert m k v) :
    e = (k, v) ∨ e ∈ m := by
  induction m with
  | nil => simpa [kInsert] using h
  | cons x r ih =>
    obtain ⟨a, y⟩ := x
    simp only [kInsert] at h
    split at h
    · simpa using h
    · split at h
      · rcases List.mem_cons.1 h with h | h
        · exact .inl h
        · exact .inr (List.mem_cons_of_mem _ h)
      · rcases List.mem_cons.1 h with h | h
        · exact .inr (h ▸ List.mem_cons_self ..)
        · exact (ih h).imp_right (List.mem_cons_of_mem _)

/-- A byte written within the address space keeps the canonical form. -/
theorem memPut_wf (m : List Host.Cell) (a : Nat) (b : Byte) (h : Memory.wf m = true) (ha : a < storeEnd) :
    Memory.wf (memPut m a b) = true := by
  obtain ⟨hs, he⟩ := (memory_wf m).1 h
  refine (memory_wf _).2 ⟨kPut_sorted 0 m a b hs, fun e h => ?_⟩
  unfold memPut kPut at h
  split at h
  · exact he e (List.mem_filter.1 h).1
  · rename_i hb
    rcases kInsert_mem m a b e h with rfl | h
    · exact ⟨hb, ha⟩
    · exact he e h

theorem memSet_wf (m : List Host.Cell) (a : Nat) (b : Byte) (h : Memory.wf m = true) : Memory.wf (memSet m a b) = true := by
  unfold memSet
  split
  · exact memPut_wf m a b h ‹_›
  · exact h

theorem memWrite_wf (m : List Host.Cell) (a : Nat) (l : Bytes) (h : Memory.wf m = true) :
    Memory.wf (memWrite m a l) = true := by
  induction l generalizing m a with
  | nil => exact h
  | cons b r ih => exact ih _ _ (memSet_wf m a b h)

theorem reset_memory_wf : Memory.wf State.reset.mem = true := rfl

@[simp] theorem memByte_memSet (m : List Host.Cell) (a x : Nat) (b : Byte) :
    memByte (memSet m a b) x = if a = x ∧ a < storeEnd then b else memByte m x := by
  unfold memSet memByte memPut
  split <;> simp [*]

/-- A write leaves every byte outside it alone. -/
theorem memByte_memWrite_out (m : List Host.Cell) (a x : Nat) (l : Bytes) (h : x < a ∨ a + l.length ≤ x) :
    memByte (memWrite m a l) x = memByte m x := by
  induction l generalizing m a with
  | nil => rfl
  | cons b r ih =>
    simp only [List.length_cons] at h
    rw [memWrite, ih _ _ (by omega), memByte_memSet, if_neg (by omega)]

/-- A byte written reads as it was written. -/
theorem memByte_memWrite_in (m : List Host.Cell) (a k : Nat) (l : Bytes) (h : k < l.length) (ha : a + k < storeEnd) :
    memByte (memWrite m a l) (a + k) = l.getD k 0 := by
  induction l generalizing m a k with
  | nil => simp at h
  | cons b r ih =>
    cases k with
    | zero => rw [memWrite, memByte_memWrite_out _ _ _ _ (by omega), memByte_memSet, if_pos ⟨rfl, ha⟩]; rfl
    | succ k =>
      have := ih (memSet m a b) (a + 1) k (by simpa using h) (by omega)
      rw [show a + (k + 1) = a + 1 + k by omega, memWrite, this]
      simp

/-- What is written within the address space reads back. -/
theorem memRead_memWrite (m : List Host.Cell) (a : Nat) (l : Bytes) (h : a + l.length ≤ storeEnd) :
    memRead (memWrite m a l) a l.length = l := by
  refine List.ext_getElem (by simp [memRead]) fun k hk hl => ?_
  have hk' : k < l.length := by simpa [memRead] using hk
  simp only [memRead, List.getElem_map, List.getElem_range]
  rw [memByte_memWrite_in m a k l hk' (by omega)]
  simp [List.getD, hk']

/-! ### Pages (R215) -/

theorem nthFree_still (l : List Nat) (k : Nat) (h : ∀ u ∈ l, k < u) : nthFree l k = k := by
  induction l with
  | nil => rfl
  | cons u r ih =>
    have := h u (List.mem_cons_self ..)
    rw [nthFree, List.foldl_cons, if_neg (by omega)]
    exact ih fun v hv => h v (List.mem_cons_of_mem _ hv)

/-- What nthFree answers is not in the list. -/
theorem nthFree_free (l : List Nat) (k : Nat) (h : l.Pairwise (· < ·)) : nthFree l k ∉ l ∧ k ≤ nthFree l k := by
  induction l generalizing k with
  | nil => simp [nthFree]
  | cons u r ih =>
    obtain ⟨h1, h2⟩ := List.pairwise_cons.1 h
    by_cases hu : u ≤ k
    · have e : nthFree (u :: r) k = nthFree r (k + 1) := by rw [nthFree, List.foldl_cons, if_pos hu]; rfl
      obtain ⟨ha, hb⟩ := ih (k + 1) h2
      rw [e]
      refine ⟨fun hm => ?_, by omega⟩
      rcases List.mem_cons.1 hm with hm | hm
      · omega
      · exact ha hm
    · have e : nthFree (u :: r) k = k := nthFree_still _ _ fun v hv => by
        rcases List.mem_cons.1 hv with rfl | hv
        · omega
        · have := h1 v hv
          omega
      rw [e]
      refine ⟨fun hm => ?_, Nat.le_refl _⟩
      rcases List.mem_cons.1 hm with hm | hm
      · omega
      · have := h1 _ hm
        omega

theorem putRising_mem (t u : Nat) (l : List Nat) : u ∈ putRising t l ↔ u = t ∨ u ∈ l := by
  induction l with
  | nil => simp [putRising]
  | cons v r ih =>
    simp only [putRising]
    split
    · simp
    · simp only [List.mem_cons, ih]
      exact or_left_comm

theorem putRising_rising (t : Nat) (l : List Nat) (h : l.Pairwise (· < ·)) (ht : t ∉ l) :
    (putRising t l).Pairwise (· < ·) := by
  induction l with
  | nil => simp [putRising]
  | cons v r ih =>
    obtain ⟨h1, h2⟩ := List.pairwise_cons.1 h
    have hv : t ≠ v := fun e => ht (e ▸ List.mem_cons_self ..)
    simp only [putRising]
    split
    · refine List.pairwise_cons.2 ⟨fun w hw => ?_, h⟩
      rcases List.mem_cons.1 hw with rfl | hw
      · omega
      · have := h1 w hw
        omega
    · refine List.pairwise_cons.2 ⟨fun w hw => ?_, ih h2 fun hm => ht (List.mem_cons_of_mem _ hm)⟩
      rcases (putRising_mem t w r).1 hw with rfl | hw
      · omega
      · exact h1 w hw

@[simp] theorem pickFree_length (n : Nat) (used : List Nat) (f k : Nat) : (pickFree n used f k).length = k := by
  induction k generalizing used f with
  | zero => rfl
  | succ k ih => simp [pickFree, ih]

/-- The numbers picked are different and none of them is in use. -/
theorem pickFree_fresh (n : Nat) (used : List Nat) (f k : Nat) (h : used.Pairwise (· < ·)) :
    (pickFree n used f k).Nodup ∧ ∀ t ∈ pickFree n used f k, t ∉ used := by
  induction k generalizing used f with
  | zero => simp [pickFree]
  | succ k ih =>
    simp only [pickFree]
    have ht := (nthFree_free used (Config.free f % (n - used.length)) h).1
    obtain ⟨h1, h2⟩ := ih _ (f + 1) (putRising_rising _ used h ht)
    refine ⟨List.nodup_cons.2 ⟨fun hm => h2 _ hm ((putRising_mem _ _ _).2 (.inl rfl)), h1⟩, fun t hm => ?_⟩
    rcases List.mem_cons.1 hm with rfl | hm
    · exact ht
    · exact fun hu => h2 t hm ((putRising_mem _ _ _).2 (.inr hu))

theorem freePages_length (c : Chip) (q par k f : Nat) (l : List Nat) (h : c.freePages q par k f = some l) :
    l.length = k := by
  unfold Chip.freePages at h
  dsimp only at h
  split at h
  · cases h
    exact Eq.symm ‹_›
  · split at h
    · cases h
    · cases h
      simp

/-- An allotment that succeeds has the pages asked for. -/
theorem allotAs_length (c : Chip) (q : Nat) (have_ : List Nat) (n up : Nat) (l : List Nat) (hu : up ≤ 1)
    (h : c.allotAs q have_ n up = some l) : l.length = n := by
  have hc : have_.countP (fun p => p % 2 == 0) + have_.countP (fun p => p % 2 == 1) = have_.length := by
    clear h
    induction have_ with
    | nil => rfl
    | cons p r ih =>
      simp only [List.countP_cons, List.length_cons]
      rcases Nat.mod_two_eq_zero_or_one p with e | e <;> simp [e] <;> omega
  have go (t0 : Nat) (ht : t0 ≤ have_.length + n) (l : List Nat)
      (h : (if t0 < have_.countP (fun p => p % 2 == 0) ∨ have_.length + n - t0 < have_.countP (fun p => p % 2 == 1) then none
        else match c.freePages q 0 (t0 - have_.countP fun p => p % 2 == 0) (c.free + 1),
            c.freePages q 1 (have_.length + n - t0 - have_.countP fun p => p % 2 == 1)
              (c.free + 1 + (t0 - have_.countP fun p => p % 2 == 0)) with
          | some a, some b => some (a ++ b)
          | _, _ => none) = some l) : l.length = n := by
    split at h
    · cases h
    · rename_i hlt
      split at h
      · rename_i a b ha hb
        cases h
        rw [List.length_append, freePages_length _ _ _ _ _ _ ha, freePages_length _ _ _ _ _ _ hb]
        omega
      · cases h
  unfold Chip.allotAs at h
  dsimp only at h
  split at h
  · rename_i l' hl
    cases h
    exact go _ (by omega) l hl
  · exact go _ (by omega) l h

theorem allot_length (c : Chip) (q : Nat) (have_ : List Nat) (n : Nat) (l : List Nat)
    (h : (c.allot q have_ n).1 = some l) : l.length = n :=
  allotAs_length c q have_ n _ l (by omega) h

/-- An allotment changes only the count of the free values. -/
theorem allot_chip (c : Chip) (q : Nat) (have_ : List Nat) (n : Nat) :
    (c.allot q have_ n).2 = { c with free := c.free + 1 + n } := rfl

end Sys2Proof.Machine
end

