-- ==== Sys2Proof/Tests/Slice0.lean ====
section
/-!
SUPPORT. Tests/Slice0.lean: the model's own tests, and for each statement states and operands that meet its hypotheses.
-/
namespace Sys2Proof.Tests

open Sys2Proof.Machine

set_option linter.unusedVariables false
set_option Elab.async false

/-! ### States for the tests -/

/-- The device after its start: clocked, Fened up, the host's link up, every domain on, every stack ready. -/
def ready : State := State.reset.on fun c =>
  let c := ((c.setPwr { c.pwr with rstLow := false, aonReady := true }).setTime { c.time with running := true, refOn := true })
  let c := c.setMbx { c.mbx with isOpen := true, fened := .up }
  let c := c.setHost { c.host with perst := false, ready := true, cfg := { c.host.cfg with memEn := true, busMaster := true, dstate := 0 } }
  let c := (c.setF .HOST_STATUS_LINK_UP 0 1).setF .PWR_STRAPS_MON_EN 0 1
  ((c.setF .PWR_DOMAIN_STATUS_ON 0 (2 ^ 47 - 1)).setF .PWR_DOMAIN_CTRL_REQ 0 (2 ^ 47 - 1)).setF .PWR_MEM_STATUS_STATE 0 0xAAAA

/-- The device after its start, with a change. -/
def up (f : Chip → Chip) : State := ready.on f

/-- The device after its start with every function claimed, and a change. -/
def own (f : Chip → Chip) : State := (ready.on fun c => c.setF .MBX_CLAIM_CLAIMED 0 2047).on f

/-- A request in a slot, untimed. -/
def req (slot : Nat) (params : Bytes) : Req := ⟨slot, 3, 2, false, false, 7, 0, params⟩

/-- A frame of 64 bytes, and an item of a Berth with a launch time. -/
def frame : Frame := ⟨List.replicate 60 0, some 64, false, 0, none, none, none, false, none⟩
def item (launch : Option Nat) : Item := ⟨frame, launch, false⟩

/-- Berth b assigned to port p, fair or timed, with a queue, on a port that is UP. -/
def give (c : Chip) (b p kind : Nat) (q : List Item) : Chip :=
  ((((c.setF .SCHD_BERTH_CFG_VALID b 1).setF .SCHD_BERTH_CFG_PORT b p).setF .SCHD_BERTH_CFG_KIND b kind).setF
    .PORT_STATUS_LINK_STATE p 3).setBerth b { BerthS.init with queue := q, weight := 1, inRace := true }

/-- A frame on its way to a launch at port 0. -/
def staged (launch : Nat) : Staged := ⟨item (some launch), 1, 0, 0, 84, 20, false⟩

/-- A gate list of two entries in a cycle of 2 µs. -/
def list (op : Nat) (start : Nat) : TideList := ⟨[op * 2 ^ 61 + 255 * 2 ^ 48 + 1000, 2 ^ 48 + 1000], start, nsT 2000, 0, 2000⟩

/-- A region of free pages is made whichever stack is asked first for the odd page. -/
theorem regionCreate_ok (c : Chip) (r kind h n : Nat)
    (hx : (c.handle h).valid = true ∧ (c.handle h).meterEn = true ∧ 1 ≤ n ∧ n ≤ 1048576 ∧ kind ≤ 3 ∧
      (c.regions.filter fun e => e.2.handle == h && e.2.kind == kind).length < kindMax kind ∧
      c.chargeFits (c.handle h).homeQ r { Region.init with valid := true, kind := kind, quad := (c.handle h).homeQ, handle := h }
        = true)
    (ha : ∀ up < 2, (c.allotAs (c.handle h).homeQ [] n up).isSome = true) : (c.regionCreate r kind h n).1 = rOK := by
  obtain ⟨h1, h2, h3, h4, h5, h6, h7⟩ := hx
  have hup := ha _ (Nat.mod_lt (Config.free c.free) (by decide))
  unfold Chip.regionCreate Chip.allot
  have e1 : ¬ (n < 1 ∨ 1048576 < n ∨ kind > 3) := by omega
  have e2 : ¬ kindMax kind ≤ (c.regions.filter fun e => e.2.handle == h && e.2.kind == kind).length := by omega
  obtain ⟨l, hl⟩ := Option.isSome_iff_exists.mp hup
  simp only [if_neg e1, h1, h2, e2, h7, hl, Bool.not_true, Bool.false_eq_true, if_false]

/-- A run of lines without error on stacks that work is read whole. -/
theorem eccRead_clean (c : Chip) (a n : Nat) (he : c.stor.ecc = []) (ht : c.stor.stale = [])
    (hs : ∀ l ∈ linesOf a n, c.stackBad (stackOf l) = false) : (c.eccRead a n).1 = true := by
  have go : ∀ (ls : List Nat), (∀ l ∈ ls, c.stackBad (stackOf l) = false) →
      ls.foldl (fun (acc : Bool × Chip) l => let (ok, c) := acc.2.eccLine l; (acc.1 && ok, c)) (true, c) = (true, c) := by
    intro ls
    induction ls with
    | nil => intro _; rfl
    | cons l r ih =>
      intro h
      have hl : c.eccLine l = (true, c) := by simp [Chip.eccLine, h l (by simp), he, Chip.staleLine, ht, kFind]
      simp only [List.foldl_cons, hl, Bool.and_self]
      exact ih fun x hx => h x (by simp [hx])
  unfold Chip.eccRead
  rw [go _ hs]

/-- A flag of which no instance is listed reads its reset value in every instance. -/
theorem is_unlisted (c : Chip) (f : Fld) (v : Bool) (h : c.regs.all (fun e => e.1 % 1024 != f.code) = true)
    (hf : f.code < 1024) (h0 : ∀ i, decide (f.resetAt i ≠ 0) = v) (i : Nat) : c.is f i = v := by
  have key : kFind c.regs (f.key i) = none := by
    revert h
    induction c.regs with
    | nil => intro _; rfl
    | cons e r ih =>
      intro h
      rw [List.all_cons, Bool.and_eq_true] at h
      obtain ⟨a, x⟩ := e
      have ne : a ≠ f.key i := fun e => by
        subst e
        simp [Fld.key, Nat.mod_eq_of_lt hf] at h
      simp [kFind, ne, ih h.2]
  unfold Chip.is Chip.fld
  rw [key]
  exact h0 i

/-- The second page of quadrant 0 lies on stack 1 and is read whole. -/
theorem eccRead_page (c : Chip) (he : c.stor.ecc = []) (ht : c.stor.stale = []) (hs : c.stackBad 1 = false) :
    (c.eccRead 65536 65536).1 = true :=
  eccRead_clean c _ _ he ht fun l hl => by
    rw [linesOf, if_neg (by decide)] at hl
    obtain ⟨k, hk, rfl⟩ := List.mem_map.mp hl
    have hk := List.mem_range.mp hk
    rw [show stackOf ((65536 / 64 + k) * 64) = 1 by unfold stackOf; omega]
    exact hs


/-- A list of one element has no other. -/
theorem only_one {l : List Nat} {b x : Nat} {P : Prop} (h : l = [b]) (hx : x ∈ l) (hn : x ≠ b) : P :=
  absurd (by simpa [h] using hx) hn
/-! ### Worked examples of the spec -/

/-- 05, "one class of a Harbour Arena egress port": the costs of the two Berths. -/
theorem test_cost : cost 1448 3 = 31632043 ∧ cost 9020 1 = 591134720 := by decide

/-- 05, the same example: the wrap-aware order of tags. -/
theorem test_before_wraps : before 4058163883 322699264 = true ∧ before 332573361 322699264 = false := by decide

/-- 05, step 3 of the same example: 200 ns at 6.25 bytes per ns from -4,020 bytes. -/
theorem test_accrue_old_rate :
    ({ BerthS.init with shaper := true, rate := 50000000, burst := 16384, bal := -4020 * 2 ^ 32 }.accrue (nsT 200)).bal
      = -2770 * 2 ^ 32 := by decide

/-- 05, step 6: the balance reaches 0 after 2,216 ns at 1.25 bytes per ns. -/
theorem test_accrue_new_rate :
    ({ BerthS.init with shaper := true, rate := 10000000, burst := 2048, bal := -2770 * 2 ^ 32 }.accrue (nsT 2216)).bal
      = 0 := by decide

/-- 06, "a Harbour Arena egress schedule": S of a base time that has passed. -/
theorem test_commit_start :
    packTime (commitStart (secT * 1200) (nsT 125000) (secT * 1500 + nsT 123456) (nsT 4000)) = 0x05DC0003D0900000 := by
  decide +kernel

/-- 07, "a mixed group at the Harbour Arena core": SPLIT 5 makes ports of 4, 2 and 2 lanes on group 18. -/
theorem test_split_mixed :
    let s := up fun c => c.setF .PORT_GRP_CFG_SPLIT 18 5
    ((List.range 8).map fun l => s.chip.lanes (144 + l)) = [4, 0, 0, 0, 2, 0, 2, 0] := by decide +kernel

/-- 07, the same example: f_min at ADD_FRAG 1. -/
theorem test_f_min : (up fun c => c.setF .PORT_MM_CFG_ADD_FRAG 144 1).chip.fMin 144 = 128 := by decide +kernel

/-- 07, the same example: the address of port 148's MAC merge configuration. -/
theorem test_mm_cfg_address : (regAt 0x225018).map (fun e => (e.1.reg, e.2)) = some (.PORT_MM_CFG, 148) := by
  decide +kernel

/-- 05, the same: the addresses of Berths 5,000 and 5,001. -/
theorem test_berth_address :
    (regAt 0x827100).map (fun e => (e.1.block, e.2)) = some (.SCHD, 5000) ∧
      (regAt 0x827120).map (fun e => (e.1.block, e.2)) = some (.SCHD, 5001) := by decide +kernel

/-- 08, "camera 7 over two paths": the extended number across the 16-bit boundary. -/
theorem test_extend : ({ Brkw.init with top := 0x00050010 }.extend 0xC52A none) = 312618 := by decide

/-- 08, the same example: the history of 32,768 numbers needs one page. -/
theorem test_history_pages : histPages 32768 = 1 := by decide

/-- 00: a counter stays at its largest value (R15). -/
theorem test_counter_saturates : satAdd 64 (2 ^ 64 - 1) 1 = 2 ^ 64 - 1 ∧ satAdd 32 5 1 = 6 := by decide

/-! ### The queue -/

/-- An empty queue is an edge of the reference: the counters advance by TIME_INCR, 6.4 ns at reset (R52). -/
theorem test_idle_edge :
    step ready = .next { ready with chip := ready.chip.idle } ∧ 0 < ready.chip.idle.time.ctr0 :=
  ⟨rfl, by decide +kernel⟩

/-- The queue's front runs and the rest stays. -/
theorem test_front_runs :
    step (ready.withPending [.avsSettle, .refLoss]) = exec .avsSettle (ready.withPending [.refLoss]) := rfl

/-- No row of the table gives bits. -/
theorem test_no_bits : decodeTableWord 32 0x12345678 = none ∧ ready.withFetchWord 32 7 = ready := ⟨rfl, rfl⟩

/-! ### Memory and the Saffron record -/

/-- The store is canonical at reset. -/
theorem test_reset_canonical : Memory.wf State.reset.mem := by decide

/-- The Saffron record fits at reset. -/
theorem reset_fits : State.reset.mram.fits := by
  refine ⟨by decide +kernel, fun k => ?_, fun k x h => ?_⟩
  · rcases k with _ | _ | _ | _ | _ | _ | k <;> first | decide +kernel | exact Nat.zero_lt_one
  · rcases k with _ | _ | _ | _ | _ | _ | k <;>
      (rcases h with h | h <;> first | (cases h; decide +kernel) | cases h)

/-! ### What is ill-formed is refused -/

/-- A request whose slot, version, tag, time or parameters exceed the header's fields. -/
def badReqs : List Req :=
  [⟨8, 3, 2, false, false, 0, 0, []⟩, ⟨0, 256, 2, false, false, 0, 0, []⟩, ⟨0, 3, 256, false, false, 0, 0, []⟩,
    ⟨0, 3, 2, false, false, 2 ^ 64, 0, []⟩, ⟨0, 3, 2, false, false, 0, 2 ^ 96, []⟩,
    ⟨0, 3, 2, false, false, 0, 0, List.replicate 4065 0⟩]

theorem test_wf_request : badReqs.all (fun r => !r.wf && !(Instr.identify r).wf) = true := by decide +kernel

/-- One ill-formed command for each check of `Instr.wf`. -/
theorem test_wf_refuses :
    [Instr.remoteFault 256, .laserHoldEnd 32, .shaperCreditReturn 65536, .streamGateEntry 4096, .slackWindow 4 [] 0,
      .slackWindow 0 [1] 0, .dmaStart .host 16 0, .spillCplTimeout 2, .completionTimeout 16384, .msixVectorUnmask 2048,
      .frameRxStart 0 (2 ^ 48 * secT) ⟨⟨0, false⟩, ⟨0, false⟩⟩ (List.replicate 60 0), .timeCtrReload 0 (2 ^ 48 * secT * 65536),
      .replayRead ⟨1024, ⟨0, false⟩⟩, .supplyInWindow 8, .ptpInterval 8 0 ⟨.sync, ⟨0, false⟩⟩, .syncTimeout 9, .timeCtrReload 3 0,
      .alignRelease 65536 ⟨⟨0, false⟩, ⟨0, false⟩⟩, .holdStateChange 131072, .requestBurst 64, .setValid .host (2 ^ 64),
      .registerRead .host 16777216 4, .registerRead .host 0 0, .registerRead .host 0 9, .fecWindow 0 8 0 0 0,
      .receiveAligned 0 (List.replicate 9 ⟨true, true, true, 0, 0⟩), .pairClose 65536 0, .frameRxStart 0 0 ⟨⟨0, false⟩, ⟨0, false⟩⟩ [],
      .descriptorFetched 0 [0], .apertureWrite 0 (List.replicate 4097 0) false, .monFtestResp (List.replicate 257 0),
      .mpacketRx 0 ⟨false, 4, true, true, true, [], ⟨⟨0, false⟩, ⟨0, false⟩⟩, 0⟩,
      .completionReceived 0 ⟨3, false, [], ⟨0, false⟩⟩, .stepRecordRx ⟨2 ^ 48, []⟩, .memoryTrainingDone 8 true,
      .domainReady 46, .bridgeDown 2, .monSaff 6 0 0].all (fun i => !i.wf) = true := by
  decide +kernel

/-! ### Witnesses

`witness_<Name>` meets the hypotheses of each clause of `Obligations.<Name>` that has any, clause by clause in their order, at
the ends of their ranges where they have ranges. -/

theorem witness_JtagPort :
    (∃ s : State, ∃ b : Nat, s.chip.pwr.rstLow = false) ∧
    (∃ s : State, ∃ b : Nat, s.chip.pwr.rstLow = true) ∧
    (∃ s : State, ∃ off : Nat, ∃ n : Nat, s.chip.capHeld = true ∧ off + 8 * n ≤ s.chip.capLen) ∧
    (∃ s : State, ∃ off : Nat, ∃ n : Nat, s.chip.capHeld = false) ∧
    (∃ s : State, ∃ off : Nat, off ≤ 0x1FFFFFF) ∧
    (∃ s : State, ∃ off : Nat, 0x1FFFFFF < off) :=
  ⟨⟨(up fun c => c), 0, by decide +kernel⟩,
    ⟨(up fun c => { c with pwr := { c.pwr with rstLow := true } }), 0, by decide +kernel⟩,
    ⟨(up fun c => c.setB .DBG_STATUS_CAPTURE_HELD 0 true), 0, 0, by decide +kernel⟩,
    ⟨(up fun c => c), 0, 0, by decide +kernel⟩,
    ⟨(up fun c => c), 0x10000, by decide +kernel⟩,
    ⟨(up fun c => c), 0x2000000, by decide +kernel⟩⟩

theorem witness_FreezeStarts :
    (∃ s : State, s.up ∧ s.chip.dbg.pin = false) ∧
    (∃ s : State, s.up ∧ s.chip.monWrite = true ∧ s.chip.monBusy = false) ∧
    (∃ s : State, s.up) :=
  ⟨⟨(up fun c => c), by decide +kernel⟩,
    ⟨(up fun c => c), by decide +kernel⟩,
    ⟨(up fun c => c), by decide +kernel⟩⟩

theorem witness_FreezeEnds :
    (∃ s : State, s.chip.frozen = true ∧ (s.chip.dbg.latchMon = true ∨ s.chip.dbg.latchJtag = true ∨
      s.chip.dbg.latchMbx = true ∨ s.chip.dbg.copying = true)) ∧
    (∃ s : State, s.aonUp ∧ s.chip.frozen = true ∧ s.chip.dbg.pin = true ∧ s.chip.dbg.copying = true ∧
      s.chip.ident.half = false) ∧
    (∃ s : State, s.aonUp ∧ s.chip.frozen = true ∧ (s.chip.dbg.pin = true ∨ s.chip.dbg.latchMon = true ∨
      s.chip.dbg.latchJtag = true ∨ s.chip.dbg.copying = true)) ∧
    (∃ s : State, s.aonUp ∧ s.chip.frozen = true ∧ (s.chip.dbg.pin = true ∨ s.chip.dbg.copying = true)) ∧
    (∃ s : State, s.aonUp ∧ s.chip.frozen = true ∧ (s.chip.dbg.pin = true ∨ s.chip.dbg.copying = true) ∧
      s.chip.monWrite = true ∧ s.chip.monBusy = false) ∧
    (∃ s : State, s.aonUp ∧ s.chip.frozen = true ∧ s.chip.dbg.latchMon = false ∧ s.chip.dbg.latchJtag = false ∧
      s.chip.dbg.latchMbx = false ∧ s.chip.dbg.copying = false ∧ s.chip.duoState = 0 ∧ s.chip.time.held = none) ∧
    (∃ s : State, s.aonUp ∧ s.chip.capHeld = true) ∧
    (∃ s : State, s.aonUp ∧ s.chip.capHeld = true ∧ s.chip.monWrite = true ∧ s.chip.monBusy = false) :=
  ⟨⟨(up fun c => let c := c.setB .DBG_STATUS_FREEZE_ACTIVE 0 true; c.setDbg { c.dbg with copying := true }), by
      decide +kernel⟩,
    ⟨(up fun c => let c := c.setB .DBG_STATUS_FREEZE_ACTIVE 0 true;
      let c := { c with dbg := { c.dbg with pin := true } }; { c with dbg := { c.dbg with copying := true } }), by
      decide +kernel⟩,
    ⟨(up fun c => let c := c.setB .DBG_STATUS_FREEZE_ACTIVE 0 true; c.setDbg { c.dbg with copying := true }), by
      decide +kernel⟩,
    ⟨(up fun c => let c := c.setB .DBG_STATUS_FREEZE_ACTIVE 0 true; c.setDbg { c.dbg with copying := true }), by
      decide +kernel⟩,
    ⟨(up fun c => let c := c.setB .DBG_STATUS_FREEZE_ACTIVE 0 true; c.setDbg { c.dbg with copying := true }), by
      decide +kernel⟩,
    ⟨(up fun c => c.setB .DBG_STATUS_FREEZE_ACTIVE 0 true), by decide +kernel⟩,
    ⟨(up fun c => c.setB .DBG_STATUS_CAPTURE_HELD 0 true), by decide +kernel⟩,
    ⟨(up fun c => c.setB .DBG_STATUS_CAPTURE_HELD 0 true), by decide +kernel⟩⟩

theorem witness_MonitorReads :
    (∃ s : State, s.aonUp ∧ s.chip.monBusy = false) ∧
    (∃ s : State, ∃ k : Nat, ∃ seq : Nat, ∃ n : Nat, s.aonUp ∧ s.chip.monBusy = false ∧ k ≤ 5 ∧ seq < 2 ^ 32 ∧ 1 ≤ n ∧
      n ≤ 16) ∧
    (∃ s : State, ∃ off : Nat, ∃ n : Nat, s.aonUp ∧ s.chip.monBusy = false ∧ s.chip.capHeld = true ∧ off % 32 = 0 ∧ n
      % 32 = 0 ∧ n ≤ 65536 ∧ off + n ≤ s.chip.capLen) ∧
    (∃ s : State, ∃ rate : Nat, s.aonUp ∧ s.chip.monBusy = false ∧ rate ∈ [115200, 230400, 460800, 921600, 1000000,
      2000000, 3000000]) ∧
    (∃ s : State, s.aonUp ∧ s.chip.monBusy = false ∧ s.ftestBarred = false ∧ s.mram.permanent + s.chip.ftestWaiting <
      256 ∧ s.chip.dbg.fails < 3) ∧
    (∃ s : State, ∃ off : Nat, s.aonUp ∧ s.chip.monBusy = false ∧ off % 8 = 0 ∧ off + 8 ≤ 2 ^ 24 ∧ (s.chip.frozen =
      false ∨ openInFreeze off = true) ∧ s.chip.domainOff off = false ∧ s.chip.readHeldBy off = none) ∧
    (∃ s : State, ∃ off : Nat, s.aonUp ∧ s.chip.monBusy = false ∧ off % 8 = 0 ∧ off + 8 ≤ 2 ^ 24 ∧ s.chip.frozen =
      true ∧ openInFreeze off = false) ∧
    (∃ s : State, ∃ text : Bytes, ∃ n : Nat, s.aonUp ∧ s.chip.monBusy = false) ∧
    (∃ s : State, ∃ text : Bytes, ∃ n : Nat, s.aonUp ∧ s.chip.monBusy = false ∧ 256 < text.length) ∧
    (∃ s : State, ∃ data : Nat, s.aonUp ∧ s.chip.monBusy = false) :=
  ⟨⟨(up fun c => c), by decide +kernel⟩,
    ⟨(up fun c => c), 5, 0, 16, by decide +kernel⟩,
    ⟨(up fun c => c.setB .DBG_STATUS_CAPTURE_HELD 0 true), 0, 0, by decide +kernel⟩,
    ⟨(up fun c => c), 3000000, by decide +kernel⟩,
    ⟨(up fun c => c.setF .PWR_STRAPS_FTEST 0 1), by decide +kernel⟩,
    ⟨(up fun c => c), 0xFFFFF8, by decide +kernel⟩,
    ⟨(up fun c => c.setB .DBG_STATUS_FREEZE_ACTIVE 0 true), 0, by decide +kernel⟩,
    ⟨(up fun c => c), [], 0, by decide +kernel⟩,
    ⟨(up fun c => c), (List.replicate 257 65), 0, by decide +kernel⟩,
    ⟨(up fun c => c), 0, by decide +kernel⟩⟩

theorem witness_FactoryTest :
    (∃ s : State, ∃ resp : Bytes, s.aonUp ∧ s.chip.monBusy = false ∧ s.ftestBarred = false ∧ s.mram.permanent +
      s.chip.ftestWaiting < 256 ∧ s.chip.dbg.fails < 3) ∧
    (∃ s : State, ∃ resp, s.aonUp ∧ s.chip.monBusy = false ∧ s.ftestBarred = false ∧ s.mram.permanent +
      s.chip.ftestWaiting < 256 ∧ s.chip.ftestValid resp = false) ∧
    (∃ s : State, ∃ source : Nat, ∃ kind : Nat, ∃ addr : Nat, s.aonUp ∧ s.chip.monBusy = false ∧ s.chip.monWrite =
      true ∧ s.chip.is .DBG_STATUS_FTEST 0 = true ∧ source < 2 ^ 16 ∧ kindListed kind = true ∧ addr < 2 ^ 64) ∧
    (∃ s : State, ∃ addr : Nat, ∃ n : Nat, s.aonUp ∧ s.chip.monBusy = false ∧ s.chip.monWrite = true ∧
      s.chip.is .DBG_STATUS_FTEST 0 = true ∧ addr < 2 ^ 38 ∧ 1 ≤ n ∧ n ≤ 2) ∧
    (∃ s : State, ∃ source : Nat, ∃ kind : Nat, ∃ addr : Nat, ∃ n : Nat, s.aonUp ∧ s.chip.monBusy = false ∧
      s.chip.monWrite = true ∧ s.chip.is .DBG_STATUS_FTEST 0 = false) ∧
    (∃ s : State, ∃ source : Nat, ∃ kind : Nat, ∃ addr : Nat, ∃ n : Nat, s.aonUp ∧ s.chip.monBusy = false ∧
      s.chip.monWrite = true ∧ s.chip.is .DBG_STATUS_FTEST 0 = false) :=
  ⟨⟨(up fun c => c.setF .PWR_STRAPS_FTEST 0 1), [], by decide +kernel⟩,
    ⟨(up fun c => c.setF .PWR_STRAPS_FTEST 0 1), [], by decide +kernel⟩,
    ⟨(up fun c => c.setB .DBG_STATUS_FTEST 0 true), 0, 0x104, 0, by decide +kernel⟩,
    ⟨(up fun c => c.setB .DBG_STATUS_FTEST 0 true), (2 ^ 38 - 1), 2, by decide +kernel⟩,
    ⟨(up fun c => c), 0, 0, 0, 0, by decide +kernel⟩,
    ⟨(up fun c => c), 0, 0, 0, 0, by decide +kernel⟩⟩

theorem witness_MonitorWrites :
    (∃ s : State, ∃ off : Nat, ∃ data : Nat, ∃ source : Nat, ∃ kind : Nat, ∃ addr : Nat, ∃ symbols : Nat, ∃ i : Instr,
      s.aonUp ∧ s.chip.monBusy = false ∧ s.chip.monWrite = false ∧ i ∈ [Instr.monWr (.num off)
      data, .monFreeze, .monThaw, .monCaprel, .monInject source kind addr, .monInjectEcc addr symbols]) ∧
    (∃ s : State, ∃ off : Nat, ∃ v : Nat, s.up ∧ s.chip.monBusy = false ∧ s.chip.monWrite = true ∧ s.chip.monPath =
      PathS.init ∧ off % 8 = 0 ∧ off < 0x40000 ∧ v < 2 ^ 64) ∧
    (∃ s : State, ∃ v : Nat, s.up ∧ s.chip.monBusy = false ∧ s.chip.monWrite = true ∧ s.chip.monPath = PathS.init ∧
      s.chip.claimed 1 = true ∧ v < 2 ^ 64) ∧
    (∃ s : State, ∃ v : Nat, s.up ∧ s.chip.monBusy = false ∧ s.chip.monWrite = true ∧ s.chip.monPath = PathS.init ∧
      s.chip.claimed 1 = false ∧ v < 2 ^ 64) :=
  ⟨⟨(up fun c => c.setF .PWR_STRAPS_MON_EN 0 0), 0, 0, 0, 0, 0, 0, .monFreeze, by decide +kernel, by decide +kernel,
      by decide +kernel, by simp⟩,
    ⟨(up fun c => c), 0x3FFF8, (2 ^ 64 - 1), by decide +kernel⟩,
    ⟨(own fun c => c), 0, by decide +kernel⟩,
    ⟨(up fun c => c), 0, by decide +kernel⟩⟩

theorem witness_RegisterAccess :
    (∃ s : State, ∃ v : Nat, s.chip.hostServed = true ∧ v < 2 ^ 32) ∧
    (∃ s : State, ∃ v : Nat, ∃ w : Nat, s.chip.hostServed = true ∧ w < 2 ^ 32 ∧ s.chip.hostPath.lowHeld = some
      (0x50020, v) ∧ v < 2 ^ 32 ∧ s.chip.claimed 1 = true) ∧
    (∃ s : State, ∃ v : Nat, s.chip.hostServed = true ∧ v < 2 ^ 64 ∧ s.chip.claimed 1 = true) ∧
    (∃ s : State, ∃ v : Nat, s.chip.hostServed = true ∧ s.chip.claimed 1 = false) :=
  ⟨⟨(up fun c => c), 0, by decide +kernel⟩,
    ⟨(own fun c => { c with hostPath := { c.hostPath with lowHeld := some (0x50020, 9) } }), 9, 0, by decide +kernel⟩,
    ⟨(own fun c => c), 0, by decide +kernel⟩,
    ⟨(up fun c => c), 0, by decide +kernel⟩⟩

theorem witness_ResetSequence :
    (∃ s : State, s.chip.pwr.rstLow = false) ∧
    (∃ s : State, ∃ straps : Straps, s.chip.pwr.rstLow = true) ∧
    (∃ s : State, s.chip.pwr.rstLow = false ∧ s.chip.pwr.unitReset = false ∧ s.chip.pwr.aonReady = false ∧
      s.chip.is .TIME_STATUS_VALID 0 = false) :=
  ⟨⟨(up fun c => c), by decide +kernel⟩,
    ⟨(up fun c => { c with pwr := { c.pwr with rstLow := true } }), ⟨true, false, true⟩, by decide +kernel⟩,
    ⟨(up fun c => { c with pwr := { c.pwr with aonReady := false } }), by decide +kernel⟩⟩

theorem witness_FenedBoots :
    (∃ s : State, s.up ∧ s.chip.mbx.fened = .boot ∧ s.chip.mbx.act = none ∧ s.chip.imageLoaded = false ∧
      (s.chip.slotReason s.chip.mbx.fwA) = 0) ∧
    (∃ s : State, s.up ∧ s.chip.mbx.fened = .boot ∧ s.chip.mbx.act = none ∧ s.chip.imageLoaded = false ∧
      (s.chip.slotReason s.chip.mbx.fwA) ≠ 0 ∧ (s.chip.slotReason s.chip.mbx.fwB) = 0) ∧
    (∃ s : State, s.up ∧ s.chip.mbx.fened = .boot ∧ s.chip.mbx.act = none ∧ s.chip.imageLoaded = false ∧
      (s.chip.slotReason s.chip.mbx.fwA) ≠ 0 ∧ (s.chip.slotReason s.chip.mbx.fwB) ≠ 0) ∧
    (∃ s : State, s.up ∧ s.chip.mbx.fened = .boot ∧ s.chip.mbx.act = none ∧ s.chip.imageLoaded = true) :=
  ⟨⟨(up fun c => let c := { c with mbx := { c.mbx with fened := .boot } };
      let c := c.setMbx { c.mbx with fwA := ⟨[], [0x57, 0x46, 0x4E, 0x4B, 0x00, 0x20, 0x00, 0x00, 0x02, 0x03, 0x01, 0x00, 0x04, 0x00, 0x00, 0x00], 2, 0⟩ };
      c.setF .PWR_DOMAIN_CTRL_REQ 0 0), by decide +kernel⟩,
    ⟨(up fun c => let c := { c with mbx := { c.mbx with fened := .boot } };
      let c := c.setMbx { c.mbx with fwA := ⟨[], [], 0, 0⟩ }; c.setF .PWR_DOMAIN_CTRL_REQ 0 0), by decide +kernel⟩,
    ⟨(up fun c => let c := { c with mbx := { c.mbx with fened := .boot } };
      let c := c.setMbx { c.mbx with fwA := ⟨[], [], 0, 0⟩, fwB := ⟨[], [], 0, 0⟩ }; c.setF .PWR_DOMAIN_CTRL_REQ 0 0),
      by decide +kernel⟩,
    ⟨(up fun c => let c := { c with mbx := { c.mbx with fened := .boot } }; c.setMbx { c.mbx with loaded := true }),
      by decide +kernel⟩⟩

theorem witness_StacksTrain :
    (∃ s : State, ∃ m : Nat, s.up ∧ m < 8 ∧ s.chip.memState m = 1 ∧ s.chip.duo.window = false) ∧
    (∃ s : State, ∃ m : Nat, s.up ∧ m < 8 ∧ s.chip.memState m = 1) ∧
    (∃ s : State, ∃ m : Nat, s.up ∧ m < 8 ∧ s.chip.memState m = 2) ∧
    (∃ s : State, ∃ m : Nat, s.up ∧ m < 8 ∧ s.chip.memState m = 3 ∧ s.chip.pwr.autoRetrained.testBit m = false ∧
      s.chip.requested (32 + m) = true ∧ s.chip.fenedRuns = true ∧ s.chip.claimed 10 = false) :=
  ⟨⟨(up fun c => let c := c.setMem 7 1; { c with duo := { c.duo with window := false } }), 7, by decide +kernel⟩,
    ⟨(up fun c => c.setMem 7 1), 7, by decide +kernel⟩,
    ⟨(up fun c => c), 7, by decide +kernel⟩,
    ⟨(up fun c => c.setMem 7 3), 7, by decide +kernel⟩⟩

theorem witness_DomainsAndSupplies :
    (∃ s : State, ∃ d : Nat, s.up ∧ s.chip.pwr.held = [] ∧ s.chip.requested d = true ∧ s.chip.domainOn d = false ∧ (d
      < 32 ∨ 40 ≤ d)) ∧
    (∃ s : State, ∃ src : Src, ∃ data : Nat, s.chip.reaches src .STRM = true ∧ s.chip.mayWrite .STRM = true ∧
      s.chip.replicaCopy = true) ∧
    (∃ s : State, ∃ src : Src, ∃ data : Nat, s.chip.admits src .PWR ∧ (∀ d ∈ s.chip.reqOff data, s.chip.offCode d =
      rOK)) ∧
    (∃ s : State, ∃ src : Src, ∃ data : Nat, ∃ d : Nat, s.chip.admits src .PWR ∧ (s.chip.reqOff data).find? (fun d =>
      s.chip.offCode d != rOK) = some d) ∧
    (∃ s : State, ∃ k : Nat, s.aonUp ∧ k < 8 ∧ s.chip.bitF .PWR_SUPPLY_OK 0 k = true) ∧
    (∃ s : State, ∃ k : Nat, s.aonUp ∧ k < 8) ∧
    (∃ s : State, ∃ d : Nat, s.up ∧ d < 2 ∧ s.chip.bridgeStopped d = false) ∧
    (∃ s : State, ∃ d : Nat, ∃ ok : Bool, s.up ∧ d < 2 ∧ s.chip.pwr.bridgeDown.testBit d = true ∧ (ok = true →
      s.chip.duo.window = false)) :=
  ⟨⟨(up fun c => c.setOn 31 false), 31, by decide +kernel⟩,
    ⟨(own fun c => c.setPwr { c.pwr with copying := 1 }), .host, 0, by decide +kernel⟩,
    ⟨(own fun c => c), .host, (2 ^ 47 - 2), by decide +kernel⟩,
    ⟨(own fun c => c.setF .PORT_GRP_CFG_ENGINE_EN 0 1), .host, (2 ^ 47 - 2), 0, by decide +kernel⟩,
    ⟨(up fun c => c.setBitF .PWR_SUPPLY_OK 0 7 true), 7, by decide +kernel⟩,
    ⟨(up fun c => c), 7, by decide +kernel⟩,
    ⟨(up fun c => c), 1, by decide +kernel⟩,
    ⟨(up fun c => c.setPwr { c.pwr with bridgeDown := 2 }), 1, true, by decide +kernel⟩⟩

theorem witness_TimeCommands :
    (∃ s : State, ∃ src : Src, ∃ data : Nat, s.chip.admits src .TIME ∧ data % 16 = 0 ∧ s.chip.ticking = true ∧
      s.chip.time.held = none) ∧
    (∃ s : State, ∃ src : Src, ∃ data : Nat, s.chip.admits src .TIME ∧ data % 16 = 0 ∧ s.chip.ticking = true ∧
      s.chip.time.held = none ∧ timeOk s.chip.loadValue = true) ∧
    (∃ s : State, ∃ src : Src, ∃ data : Nat, s.chip.admits src .TIME ∧ data % 16 = 0 ∧ s.chip.time.held = none ∧
      timeOk s.chip.loadValue = false) ∧
    (∃ s : State, ∃ src : Src, ∃ data : Nat, s.chip.admits src .TIME ∧ data % 16 = 0 ∧ s.chip.ticking = false ∧
      s.chip.time.held = none) ∧
    (∃ s : State, ∃ src : Src, ∃ data : Nat, s.chip.admits src .TIME ∧ data % 16 = 0 ∧ s.chip.time.held ≠ none) ∧
    (∃ s : State, ∃ src : Src, ∃ data : Nat, s.chip.admits src .TIME ∧ data % 16 = 0) ∧
    (∃ s : State, ∃ src : Src, ∃ data : Nat, s.chip.admits src .TIME ∧ data % 16 = 0) :=
  ⟨⟨(own fun c => c), .host, 0, by decide +kernel⟩,
    ⟨(own fun c => c), .host, 0, by decide +kernel⟩,
    ⟨(own fun c => c.setF .TIME_LOAD_LOAD 0 (2 ^ 48 - 1)), .host, 0, by decide +kernel⟩,
    ⟨(own fun c => c.setTime { c.time with refOn := false }), .host, 0, by decide +kernel⟩,
    ⟨(own fun c => c.setTime { c.time with held := some .load }), .host, 0, by decide +kernel⟩,
    ⟨(own fun c => c), .host, 0, by decide +kernel⟩,
    ⟨(own fun c => c), .host, 0, by decide +kernel⟩⟩

theorem witness_VoterAndReference :
    (∃ s : State, ∃ c0 : Nat, ∃ c1 : Nat, ∃ c2 : Nat, s.chip.ticking = true ∧ c0 < timeWrap ∧ c1 < timeWrap ∧ c2 <
      timeWrap ∧ c0 ≠ c1 ∧ c1 ≠ c2 ∧ c0 ≠ c2) ∧
    (∃ s : State, s.chip.time.running = true ∧ s.chip.time.refOn = true ∧ s.chip.pwr.rstLow = false) ∧
    (∃ s : State, s.chip.time.running = true ∧ s.chip.time.refOn = false ∧ s.chip.pwr.rstLow = false ∧
      s.chip.time.held = none ∧ s.chip.duo.window = false) :=
  ⟨⟨(up fun c => c), 1, 2, 3, by decide +kernel⟩,
    ⟨(up fun c => c), by decide +kernel⟩,
    ⟨(up fun c => let c := { c with time := { c.time with refOn := false } };
      { c with duo := { c.duo with window := false } }), by decide +kernel⟩⟩

theorem witness_PtpSources :
    (∃ s : State, ∃ i : Nat, ∃ p : Nat, ∃ off : Int, s.up ∧ s.chip.fenedRuns = true ∧ s.chip.slaveOf i p = true) ∧
    (∃ s : State, ∃ i : Nat, ∃ p : Nat, ∃ d : Int, s.up ∧ s.chip.fenedRuns = true ∧ s.chip.slaveOf i p = true ∧
      (s.chip.src i).filter = []) ∧
    (∃ s : State, ∃ i : Nat, ∃ p : Nat, ∃ d : Int, s.up ∧ s.chip.fenedRuns = true ∧ s.chip.slaveOf i p = true ∧
      (s.chip.src i).filter ≠ [] ∧ ((d - s.chip.srcMpd i).natAbs : Int) ≤ s.chip.nsOf .TIME_CHECK_CFG_DELAY_STEP_NS) ∧
    (∃ s : State, ∃ k : Nat, s.up ∧ s.chip.fenedRuns = true ∧ (s.chip.src k).suspected = true) ∧
    (∃ s : State, ∃ k : Nat, s.up ∧ s.chip.fenedRuns = true ∧ k < 8) ∧
    (∃ s : State, ∃ k : Nat, s.up ∧ s.chip.fenedRuns = true ∧ s.chip.claimed 1 = false ∧
      s.chip.is .TIME_SRC_CONFIRMING k = true) ∧
    (∃ s : State, ∃ k : Nat, ∃ d : Int, s.up ∧ s.chip.fenedRuns = true ∧ s.chip.claimed 1 = false ∧
      s.chip.is .TIME_SRC_EXCLUDED k = true ∧ s.chip.offMedian k = some (false, d) ∧ (∀ j,
      s.chip.is .TIME_SRC_CONFIRMING j = false)) ∧
    (∃ s : State, ∃ i : Nat, ∃ p : Nat, ∃ a : Announce, ∃ x : PtpInst, s.up ∧ s.chip.fenedRuns = true ∧ kFind
      s.chip.time.inst i = some x ∧ s.chip.fld .TIME_PORT_CFG_INST p = i) ∧
    (∃ s : State, ∃ i : Nat, ∃ p : Nat, ∃ m : PtpMsg, ∃ y : Cross, ∃ b : Nat, ∃ l : List Nat, ∃ x : PtpInst, s.up ∧
      s.chip.fenedRuns = true ∧ s.chip.sends i p m = true ∧ (s.chip.berthsOf p).filter s.chip.bTimed = b :: l ∧ kFind
      s.chip.time.inst i = some x ∧ dieOf (quadOfPort p) = 0) ∧
    (∃ s : State, ∃ i : Nat, ∃ p : Nat, ∃ m : PtpMsg, ∃ y : Cross, ∃ b : Nat, ∃ l : List Nat, ∃ x : PtpInst, s.up ∧
      s.chip.fenedRuns = true ∧ s.chip.sends i p m = true ∧ (s.chip.berthsOf p).filter s.chip.bTimed = b :: l ∧ kFind
      s.chip.time.inst i = some x ∧ dieOf (quadOfPort p) = 1 ∧ s.chip.bridgeStopped 0 = true) ∧
    (∃ x : PtpInst, ∃ m : PtpMsg, ∃ w : Bytes, x.cfg.length = 48) ∧
    (∃ x : PtpInst, ∃ m : PtpMsg, ∃ w : Bytes, x.cfg.length = 48) ∧
    (∃ x : PtpInst, ∃ m : PtpMsg, ∃ w : Bytes, x.cfg.length = 48) :=
  ⟨⟨(up fun c =>
      let c := c.setTime { c.time with inst := [(0, ⟨[0, 0, 0, 0, 0, 0, 0, 0, 0, 0, 0, 0, 0, 0, 0, 0, 1] ++ List.replicate 31 0, 0, 0, 0, 6, [(0, 2)], []⟩)] };
      c.setF .TIME_PORT_CFG_INST 0 0), 0, 0, 0, by decide +kernel⟩,
    ⟨(up fun c =>
      let c := c.setTime { c.time with inst := [(0, ⟨[0, 0, 0, 0, 0, 0, 0, 0, 0, 0, 0, 0, 0, 0, 0, 0, 1] ++ List.replicate 31 0, 0, 0, 0, 6, [(0, 2)], []⟩)] };
      c.setF .TIME_PORT_CFG_INST 0 0), 0, 0, 0, by decide +kernel⟩,
    ⟨(up fun c =>
      let c := c.setTime { c.time with inst := [(0, ⟨[0, 0, 0, 0, 0, 0, 0, 0, 0, 0, 0, 0, 0, 0, 0, 0, 1] ++ List.replicate 31 0, 0, 0, 0, 6, [(0, 2)], []⟩)] };
      let c := c.setSrc 0 { c.src 0 with filter := [1] }; c.setF .TIME_PORT_CFG_INST 0 0), 0, 0, 0, by decide +kernel⟩,
    ⟨(up fun c => c.setSrc 0 { c.src 0 with suspected := true }), 0, by decide +kernel⟩,
    ⟨(up fun c => c), 7, by decide +kernel⟩,
    ⟨(up fun c => c.setB .TIME_SRC_CONFIRMING 0 true), 0, by decide +kernel⟩,
    ⟨(up fun c => let c := c.setB .TIME_SRC_EXCLUDED 0 true; let c := c.setF .TIME_SRC_ENABLE 1 1;
      c.setF .TIME_SRC_SRC_VALID 1 1), 0, 0, by decide +kernel, by decide +kernel, by decide +kernel, by
      decide +kernel, by decide +kernel, is_unlisted _ _ _ (by decide +kernel) (by decide) fun _ => rfl⟩,
    ⟨(up fun c => let c := c.setF .TIME_PORT_CFG_INST 6 0;
      let c := c.setTime { c.time with inst := [(0, ⟨[0, 0, 0, 0, 0, 0, 0, 0, 0, 0, 0, 0, 0, 0, 0, 0, 1] ++ List.replicate 31 0, 0, 0, 0, 6, [(0, 2)], []⟩)] };
      c.setF .TIME_PORT_CFG_INST 6 0), 0, 6, ⟨37, false, false, 0, 0, 0, 1⟩, ⟨[0, 0, 0, 0, 0, 0, 0, 0, 0, 0, 0, 0, 0,
      0, 0, 0, 1] ++ List.replicate 31 0, 0, 0, 0, 6, [(0, 2)], []⟩, by decide +kernel⟩,
    ⟨(up fun c =>
      let c := c.setTime { c.time with inst := [(0, ⟨[0, 0, 0, 0, 0, 0, 0, 0, 0, 0, 0, 0, 0, 0, 0, 0, 1] ++ List.replicate 31 0, 0, 0, 0, 6, [(0, 2)], []⟩)] };
      let c := give c 4 0 1 []; c.setF .TIME_PORT_CFG_INST 0 0), 0, 0, .sync, ⟨0, false⟩, 4, [], ⟨[0, 0, 0, 0, 0, 0,
      0, 0, 0, 0, 0, 0, 0, 0, 0, 0, 1] ++ List.replicate 31 0, 0, 0, 0, 6, [(0, 2)], []⟩, by decide +kernel⟩,
    ⟨(up fun c =>
      let c := c.setTime { c.time with inst := [(0, ⟨[0, 0, 0, 0, 0, 0, 0, 0, 0, 0, 0, 0, 0, 0, 0, 0, 1] ++ List.replicate 31 0, 0, 0, 0, 6, [(128, 2)], []⟩)] };
      let c := give c 4 128 1 []; let c := c.setF .TIME_PORT_CFG_INST 128 0; c.setPwr { c.pwr with bridgeDown := 1 }),
      0, 128, .sync, ⟨0, false⟩, 4, [], ⟨[0, 0, 0, 0, 0, 0, 0, 0, 0, 0, 0, 0, 0, 0, 0, 0, 1] ++ List.replicate 31 0,
      0, 0, 0, 6, [(128, 2)], []⟩, by decide +kernel⟩,
    ⟨⟨[0, 0, 0, 0, 0, 0, 0, 0, 0, 0, 0, 0, 0, 0, 0, 0, 1] ++ List.replicate 31 0, 0, 0, 0, 6, [(0, 2)], []⟩,
      (.pdelayResp 5), [], by decide +kernel⟩,
    ⟨⟨[0, 0, 0, 0, 0, 0, 0, 0, 0, 0, 0, 0, 0, 0, 0, 0, 1] ++ List.replicate 31 0, 0, 0, 0, 6, [(0, 2)], []⟩,
      (.pdelayResp 5), [], by decide +kernel⟩,
    ⟨⟨[0, 0, 0, 0, 0, 0, 0, 0, 0, 0, 0, 0, 0, 0, 0, 0, 1] ++ List.replicate 31 0, 0, 0, 0, 6, [(0, 2)], []⟩,
      (.pdelayResp 5), [], by decide +kernel⟩⟩

theorem witness_ServoAndPps :
    (∃ s : State, s.up ∧ s.chip.steers = true ∧ s.chip.srcOrder = [] ∧ s.chip.fld .TIME_STATUS_SERVO_STATE 0 = 2) ∧
    (∃ s : State, ∃ k : Nat, ∃ l : List Nat, s.up ∧ s.chip.steers = true ∧ s.chip.srcOrder = k :: l ∧ (s.chip.src
      k).unused = false ∧ (s.chip.fld .TIME_STATUS_SERVO_STATE 0 = 0 ∨ s.chip.fld .TIME_STATUS_SERVO_STATE 0 = 3)) ∧
    (∃ s : State, s.up ∧ s.chip.fld .TIME_STATUS_SERVO_STATE 0 = 3) ∧
    (∃ s : State, ∃ rising : Bool, s.up ∧ s.chip.is .TIME_PPS_CFG_IN_POL 0 = !rising) ∧
    (∃ s : State, s.up) ∧
    (∃ s : State, s.up ∧ s.chip.ppsMay = true ∧ s.chip.time.ppsOut = false ∧ s.chip.ppsNext < s.chip.nextEdge) ∧
    (∃ s : State, s.up ∧ s.chip.time.ppsOut = true ∧ nsT (1000 * s.chip.fld .TIME_PPS_CFG_WIDTH_US 0) <
      (s.chip.nextEdge + wrapT - s.chip.time.ppsAt) % wrapT) :=
  ⟨⟨(up fun c => c.setF .TIME_STATUS_SERVO_STATE 0 2), by decide +kernel⟩,
    ⟨(up fun c => let c := c.setF .TIME_STATUS_SERVO_STATE 0 3; let c := c.setF .TIME_SRC_ENABLE 8 1;
      c.setF .TIME_SRC_SRC_VALID 8 1), 8, [], by decide +kernel⟩,
    ⟨(up fun c => c.setF .TIME_STATUS_SERVO_STATE 0 3), by decide +kernel⟩,
    ⟨(up fun c => c.setF .TIME_PPS_CFG_IN_POL 0 0), true, by decide +kernel⟩,
    ⟨(up fun c => c), by decide +kernel⟩,
    ⟨(up fun c => c.setF .TIME_PPS_CFG_OUT_MODE 0 1), by decide +kernel⟩,
    ⟨(up fun c => let c := { c with time := { c.time with ppsOut := true } }; let c := c.setRaw (nsT 5000000 * 65536);
      c.setF .TIME_PPS_CFG_WIDTH_US 0 1), by decide +kernel⟩⟩

theorem witness_SlackWindow :
    ∃ s : State, ∃ q : Nat, ∃ periods : List Nat, ∃ tj : Int, s.up ∧ s.chip.slackOn q = true :=
  ⟨(up fun c => c.setB .CORE_SLACK_CTRL_ENABLE 3 true), 3, [70000], (-0x8000), by decide +kernel⟩

theorem witness_AvsAsks :
    (∃ s : State, s.up ∧ s.chip.avs.bus = none ∧ s.chip.avs.waiting = [] ∧ s.chip.fld .CORE_AVS_CTRL_MODE 0 = 2 ∧
      s.chip.avsWrites = true ∧ s.chip.allAboveLower = true ∧ s.chip.fld .CORE_AVS_LIMITS_FLOOR_MV 0 + 20 <
      s.chip.avs.set) ∧
    (∃ s : State, ∃ step : VStep, ∃ again : Bool, ∃ l : List (VStep × Bool), s.up ∧ s.chip.avs.bus = none ∧
      s.chip.avs.waiting = [] ∧ s.chip.avs.settling = (step, again) :: l ∧ s.chip.is .CORE_AVS_STATUS_UNSUP_MODE 0 =
      false) ∧
    (∃ s : State, s.up ∧ s.chip.avs.bus = none ∧ s.chip.avs.waiting = [] ∧ (s.chip.avs.started = true ∨
      s.chip.is .CORE_AVS_STATUS_NO_RESP 0 = true) ∧ s.chip.is .CORE_AVS_STATUS_UNSUP_MODE 0 = false) ∧
    (∃ s : State, s.up ∧ s.chip.avs.bus = none ∧ s.chip.avs.waiting = [] ∧ s.chip.is .CORE_AVS_STATUS_UNSUP_MODE 0 =
      false) :=
  ⟨⟨(up fun c => let c := c.setF .CORE_AVS_CTRL_MODE 0 2; let c := c.setF .CORE_AVS_CTRL_MODE 0 2;
      let c := c.setF .CORE_AVS_STATUS_SET_MV 0 700; let c := c.setAvs { c.avs with started := true };
      let c := c.setF .CORE_AVS_LIMITS_FLOOR_MV 0 600; let c := c.setF .CORE_SLACK_STATUS_WIN_SLACK 0 32767;
      let c := c.setF .CORE_SLACK_STATUS_WIN_SLACK 1 32767; let c := c.setF .CORE_SLACK_STATUS_WIN_SLACK 2 32767;
      let c := c.setF .CORE_SLACK_STATUS_WIN_SLACK 3 32767; c.setAvs { c.avs with set := 700 }), by decide +kernel⟩,
    ⟨(up fun c => c.setAvs { c.avs with settling := [(.raise, false)] }), .raise, false, [], by decide +kernel⟩,
    ⟨(up fun c => c.setAvs { c.avs with started := true }), by decide +kernel⟩,
    ⟨(up fun c => c), by decide +kernel⟩⟩

theorem witness_PmbusEnds :
    (∃ s : State, ∃ data : Nat, ∃ pecOk : Bool, ∃ retried : Bool, s.up ∧ s.chip.avs.waiting = [] ∧ s.chip.avs.stale =
      false ∧ (pecOk = true ∨ s.chip.avs.pec = false) ∧ s.chip.avsLow ≤ s.chip.avs.target ∧ s.chip.avs.target ≤
      s.chip.avsHigh ∧ s.chip.avs.bus = some (.setVout .raise false, retried)) ∧
    (∃ s : State, ∃ data : Nat, ∃ pecOk : Bool, ∃ retried : Bool, s.up ∧ s.chip.avs.waiting = [] ∧ s.chip.avs.stale =
      false ∧ (pecOk = true ∨ s.chip.avs.pec = false) ∧ s.chip.avsLow ≤ s.chip.avs.target ∧ s.chip.avs.target ≤
      s.chip.avsHigh ∧ s.chip.avs.bus = some (.setVout .lower false, retried)) ∧
    (∃ s : State, ∃ data : Nat, ∃ pecOk : Bool, ∃ retried : Bool, s.up ∧ s.chip.avs.waiting = [] ∧ s.chip.avs.stale =
      false ∧ (pecOk = true ∨ s.chip.avs.pec = false) ∧ s.chip.avs.bus = some (.statusWord, retried) ∧
      s.chip.is .CORE_AVS_STATUS_UNSUP_MODE 0 = false) ∧
    (∃ s : State, ∃ data : Nat, ∃ pecOk : Bool, ∃ retried : Bool, ∃ p : Pm, s.up ∧ s.chip.avs.waiting = [] ∧
      s.chip.avs.stale = false ∧ p.isSet = false ∧ s.chip.avs.bus = some (p, false) ∧
      s.chip.is .CORE_AVS_STATUS_UNSUP_MODE 0 = false) ∧
    (∃ s : State, ∃ data : Nat, ∃ pecOk : Bool, ∃ retried : Bool, ∃ p : Pm, s.up ∧ s.chip.avs.waiting = [] ∧
      s.chip.avs.stale = false ∧ s.chip.avs.bus = some (p, true)) :=
  ⟨⟨(up fun c => let c := { c with avs := { c.avs with bus := some (.setVout .raise false, false) } };
      let c := c.setAvs { c.avs with bus := some (.setVout .raise false, false), target := 700 };
      let c := c.setF .CORE_AVS_LIMITS_FLOOR_MV 0 680; c.setF .CORE_AVS_LIMITS_CEIL_MV 0 720), 0, true, false, by
      decide +kernel⟩,
    ⟨(up fun c => let c := { c with avs := { c.avs with bus := some (.setVout .lower false, false) } };
      let c := c.setAvs { c.avs with bus := some (.setVout .lower false, false), target := 700 };
      let c := c.setF .CORE_AVS_LIMITS_FLOOR_MV 0 680; c.setF .CORE_AVS_LIMITS_CEIL_MV 0 720), 0, true, false, by
      decide +kernel⟩,
    ⟨(up fun c => let c := { c with avs := { c.avs with bus := some (.statusWord, false) } }; c.setAvs
      { c.avs with bus := some (.statusWord, false) }), 0, true, false, by decide +kernel⟩,
    ⟨(up fun c => let c := { c with avs := { c.avs with bus := some (.pollVout, false) } }; c.setAvs
      { c.avs with bus := some (.pollVout, false) }), 0, true, false, .pollVout, by decide +kernel⟩,
    ⟨(up fun c => let c := { c with avs := { c.avs with bus := some ((.setVout .raise true), true) } }; c.setAvs
      { c.avs with bus := some (.setVout .raise true, true) }), 0, true, false, (.setVout .raise true), by
      decide +kernel⟩⟩

theorem witness_CoreWrites :
    (∃ s : State, ∃ src : Src, ∃ data : Nat, s.chip.admits src .CORE ∧ avsCtrlOk data = true) ∧
    (∃ s : State, ∃ src : Src, ∃ data : Nat, s.chip.admits src .CORE ∧ avsCtrlOk data = false) ∧
    (∃ s : State, ∃ src : Src, ∃ data : Nat, s.chip.admits src .CORE ∧ avsLimitsOk data = true) ∧
    (∃ s : State, ∃ src : Src, ∃ data : Nat, s.chip.admits src .CORE ∧ avsLimitsOk data = false) ∧
    (∃ s : State, ∃ src : Src, ∃ data : Nat, ∃ g : Nat, s.chip.admits src .CORE ∧ g < 32 ∧ s.chip.domainOn (40 +
      quadOf g) = true ∧ leadOk data = true) ∧
    (∃ s : State, ∃ src : Src, ∃ data : Nat, ∃ g : Nat, s.chip.admits src .CORE ∧ g < 32 ∧ s.chip.domainOn (40 +
      quadOf g) = true ∧ leadOk data = false) :=
  ⟨⟨(own fun c => c), .host, 0x3232, by decide +kernel⟩,
    ⟨(own fun c => c), .host, 0, by decide +kernel⟩,
    ⟨(own fun c => c), .host, (10 * 2 ^ 48 + 50 * 2 ^ 32 + 640 * 2 ^ 16 + 600), by decide +kernel⟩,
    ⟨(own fun c => c), .host, (10 * 2 ^ 48 + 50 * 2 ^ 32 + 639 * 2 ^ 16 + 600), by decide +kernel⟩,
    ⟨(own fun c => c), .host, 10000, 31, by decide +kernel⟩,
    ⟨(own fun c => c), .host, 10001, 31, by decide +kernel⟩⟩

theorem witness_LinksChange :
    (∃ s : State, ∃ p : Nat, s.up ∧ s.chip.link 248 ≠ 3 ∧ s.chip.portValid p = true ∧ s.chip.link p = 3 ∧
      s.chip.downHold p ≠ 0) ∧
    (∃ s : State, ∃ p : Nat, ∃ ls : List LaneState, s.up ∧ s.chip.link 248 ≠ 3 ∧ s.chip.portValid p = true ∧
      s.chip.link p = 3 ∧ s.chip.downHold p = 0) ∧
    (∃ s : State, ∃ p : Nat, s.up ∧ s.chip.link 248 ≠ 3 ∧ s.chip.portValid p = true ∧ s.chip.link p = 4 ∧
      s.chip.faulty p = false) ∧
    (∃ s : State, ∃ p : Nat, s.up ∧ s.chip.link 248 ≠ 3 ∧ s.chip.portValid p = true ∧ s.chip.link p = 4 ∧
      s.chip.faulty p = true) ∧
    (∃ s : State, ∃ p : Nat, ∃ ls : List LaneState, s.up ∧ s.chip.link 248 ≠ 3 ∧ s.chip.portValid p = true ∧
      s.chip.link p = 1 ∧ s.chip.fld .PORT_CFG_UP_HOLD_MS p ≠ 0) ∧
    (∃ s : State, ∃ p : Nat, s.up ∧ s.chip.link 248 ≠ 3 ∧ s.chip.portValid p = true ∧ s.chip.link p = 2 ∧
      s.chip.faulty p = false ∧ s.chip.is .PORT_MM_CFG_MM_EN p = false) ∧
    (∃ s : State, ∃ p : Nat, ∃ src : Src, ∃ data : Nat, s.up ∧ s.chip.link 248 ≠ 3 ∧ s.chip.portValid p = true ∧
      s.chip.portDark p = false ∧ s.chip.admits src .PORT ∧ 64 ≤ bits data 45 32 ∧ bits data 45 32 ≤ 9728 ∧
      data.testBit 63 = true ∧ s.chip.engRun (p / 8) = true ∧ s.chip.link p = 0) :=
  ⟨⟨(up fun c => let c := c.setF .PORT_STATUS_LINK_STATE 8 3; c.setF .PORT_CFG_DOWN_HOLD_US 8 1), 8, by
      decide +kernel⟩,
    ⟨(up fun c => c.setF .PORT_STATUS_LINK_STATE 0 3), 0, [], by decide +kernel⟩,
    ⟨(up fun c => c.setF .PORT_STATUS_LINK_STATE 8 4), 8, by decide +kernel⟩,
    ⟨(up fun c => let c := c.setF .PORT_STATUS_LINK_STATE 8 4; c.setB .PORT_STATUS_LOCAL_FAULT 8 true), 8, by
      decide +kernel⟩,
    ⟨(up fun c => let c := c.setF .PORT_STATUS_LINK_STATE 8 1; c.setF .PORT_CFG_UP_HOLD_MS 8 5), 8, [], by
      decide +kernel⟩,
    ⟨(up fun c => c.setF .PORT_STATUS_LINK_STATE 8 2), 8, by decide +kernel⟩,
    ⟨(own fun c => c.setF .PORT_GRP_STATUS_ENGINE_STATE 31 2), 248, .host, (2 ^ 63 + 9728 * 2 ^ 32), by
      decide +kernel⟩⟩

theorem witness_EnginesRun :
    (∃ s : State, ∃ g : Nat, ∃ src : Src, ∃ data : Nat, s.up ∧ s.chip.link 248 ≠ 3 ∧ g < 32 ∧ s.chip.populated g =
      true ∧ s.chip.admits src .PORT ∧ s.chip.groupDark g = false ∧ s.chip.grpCode g data = rOK ∧ bits data 6 0 =
      s.chip.fld .PORT_GRP_CFG_SPLIT g ∧ data.testBit 31 = true ∧ s.chip.is .PORT_GRP_CFG_ENGINE_EN g = false) ∧
    (∃ s : State, ∃ g : Nat, ∃ src : Src, ∃ data : Nat, s.up ∧ s.chip.link 248 ≠ 3 ∧ g < 32 ∧ s.chip.populated g =
      true ∧ s.chip.admits src .PORT ∧ s.chip.groupDark g = false ∧ s.chip.grpCode g data = rOK ∧ data.testBit 31 =
      s.chip.is .PORT_GRP_CFG_ENGINE_EN g) ∧
    (∃ s : State, ∃ g : Nat, ∃ src : Src, ∃ data : Nat, s.up ∧ s.chip.link 248 ≠ 3 ∧ g < 32 ∧ s.chip.populated g =
      true ∧ s.chip.admits src .PORT ∧ s.chip.groupDark g = false ∧ s.chip.grpCode g data ≠ rOK) ∧
    (∃ s : State, ∃ g : Nat, ∃ laser : Nat, ∃ lo : Nat, ∃ hi : Nat, s.up ∧ s.chip.link 248 ≠ 3 ∧ g < 32 ∧
      s.chip.populated g = true ∧ s.chip.engState g = 1 ∧ (s.chip.plane.starting.take 8).contains g = true ∧ lo ≤
      s.chip.mcodeIf ∧ s.chip.mcodeIf ≤ hi ∧ asInt 16 (s.chip.fld .PORT_LASER_CFG_LOW_THR g) ≤ asInt 16 laser) ∧
    (∃ s : State, ∃ g : Nat, ∃ laser : Nat, ∃ lo : Nat, ∃ hi : Nat, s.up ∧ s.chip.link 248 ≠ 3 ∧ g < 32 ∧
      s.chip.populated g = true ∧ s.chip.engState g = 1 ∧ (s.chip.plane.starting.take 8).contains g = true ∧
      (s.chip.mcodeIf < lo ∨ hi < s.chip.mcodeIf)) ∧
    (∃ s : State, ∃ g : Nat, ∃ input : Int, s.up ∧ s.chip.link 248 ≠ 3 ∧ g < 32 ∧ s.chip.populated g = true ∧
      s.chip.domainOn g = true ∧ s.chip.engState g = 2 ∧ (s.chip.eng g).laser = false ∧ (s.chip.eng g).temp = false ∧
      input < asInt 16 (s.chip.fld .PORT_LASER_CFG_LOSS_THR g)) ∧
    (∃ s : State, ∃ g : Nat, s.up ∧ s.chip.link 248 ≠ 3 ∧ g < 32 ∧ s.chip.populated g = true ∧ (s.chip.eng g).laser =
      true ∧ (s.chip.eng g).temp = false ∧ asInt 16 (s.chip.fld .PORT_LASER_CFG_LOW_THR g) ≤ asInt 16
      (s.chip.fld .PORT_GRP_STATUS_LASER_IN g)) ∧
    (∃ s : State, ∃ g : Nat, ∃ temp : Int, s.up ∧ s.chip.link 248 ≠ 3 ∧ g < 32 ∧ s.chip.populated g = true ∧
      s.chip.domainOn g = true ∧ s.chip.engState g = 2 ∧ 600 ≤ temp) ∧
    (∃ s : State, ∃ g : Nat, s.up ∧ s.chip.link 248 ≠ 3 ∧ g < 32 ∧ s.chip.populated g = true ∧ (s.chip.eng g).temp =
      true ∧ asInt 16 (s.chip.fld .PORT_GRP_STATUS_CASE_TEMP g) < 520) :=
  ⟨⟨(own fun c => c), 31, .host, (2 ^ 31), by decide +kernel⟩,
    ⟨(own fun c => c), 31, .host, 0, by decide +kernel⟩,
    ⟨(own fun c => c.setF .DUO_CFG_ENABLE 0 1), 31, .host, 16, by decide +kernel⟩,
    ⟨(up fun c => let c := c.setF .PORT_GRP_STATUS_ENGINE_STATE 0 1; c.setPlane { c.plane with starting := [0] }), 0,
      0x7FFF, 0, 65535, by decide +kernel⟩,
    ⟨(up fun c => let c := c.setF .PORT_GRP_STATUS_ENGINE_STATE 0 1; c.setPlane { c.plane with starting := [0] }), 0,
      0, 65535, 65535, by decide +kernel⟩,
    ⟨(up fun c => c.setF .PORT_GRP_STATUS_ENGINE_STATE 0 2), 0, (-400), by decide +kernel⟩,
    ⟨(up fun c => let c := c.setEng 0 ⟨true, false⟩; c.setF .PORT_GRP_STATUS_LASER_IN 0 0x7FFF), 0, by decide +kernel⟩,
    ⟨(up fun c => c.setF .PORT_GRP_STATUS_ENGINE_STATE 0 2), 0, 600, by decide +kernel⟩,
    ⟨(up fun c => c.setEng 0 ⟨false, true⟩), 0, by decide +kernel⟩⟩

theorem witness_FecAndMerge :
    (∃ s : State, ∃ p : Nat, ∃ lane : Nat, ∃ sy : Nat, ∃ co : Nat, ∃ un : Nat, s.up ∧ lane < s.chip.lanes p ∧
      s.chip.fld .PORT_FEC_CFG_DEG_SET p ≤ sy) ∧
    (∃ s : State, ∃ p : Nat, s.up ∧ s.chip.portValid p = true ∧ s.chip.linkUp p = true ∧ s.chip.is .PORT_MM_CFG_MM_EN
      p = true) ∧
    (∃ s : State, ∃ p : Nat, ∃ i : Instr, s.up ∧ s.chip.portValid p = true ∧ s.chip.linkUp p = true ∧
      s.chip.is .PORT_MM_CFG_MM_EN p = false ∧ i ∈ [Instr.verifyMpacketRx p, .responseMpacketRx p]) ∧
    (∃ s : State, ∃ p : Nat, s.up ∧ s.chip.portValid p = true ∧ s.chip.linkUp p = true ∧ s.chip.is .PORT_MM_CFG_MM_EN
      p = true ∧ s.chip.fld .PORT_MM_STATUS_VERIFY p = 2) ∧
    (∃ s : State, ∃ p : Nat, s.up ∧ s.chip.fld .PORT_MM_STATUS_VERIFY p = 2 ∧ 3 ≤ (s.chip.port p).tries) ∧
    (∃ s : State, ∃ p : Nat, s.up ∧ s.chip.fld .PORT_MM_STATUS_VERIFY p = 2 ∧ (s.chip.port p).tries < 3) ∧
    (∃ s : State, ∃ p : Nat, ∃ src : Src, ∃ data : Nat, s.up ∧ s.chip.admits src .PORT ∧ s.chip.portDark p = false ∧
      s.chip.linkUp p = true ∧ bits data 31 30 = 3 ∧ 1 ≤ bits data 23 16 ∧ bits data 23 16 ≤ 128) :=
  ⟨⟨(up fun c => c), 0, 0, (2 ^ 32 - 1), 0, 0, by decide +kernel⟩,
    ⟨(up fun c => let c := c.setF .PORT_STATUS_LINK_STATE 0 3; c.setB .PORT_MM_CFG_MM_EN 0 true), 0, by
      decide +kernel⟩,
    ⟨(up fun c => c.setF .PORT_STATUS_LINK_STATE 0 3), 0, (.responseMpacketRx 0), by decide +kernel⟩,
    ⟨(up fun c => let c := c.setF .PORT_STATUS_LINK_STATE 0 3; let c := c.setB .PORT_MM_CFG_MM_EN 0 true;
      c.setF .PORT_MM_STATUS_VERIFY 0 2), 0, by decide +kernel⟩,
    ⟨(up fun c => let c := c.setF .PORT_MM_STATUS_VERIFY 0 2; c.setPort 0 { c.port 0 with tries := 3 }), 0, by
      decide +kernel⟩,
    ⟨(up fun c => c.setF .PORT_MM_STATUS_VERIFY 0 2), 0, by decide +kernel⟩,
    ⟨(own fun c => c.setF .PORT_STATUS_LINK_STATE 0 3), 0, .host, (0xC0800000), by decide +kernel⟩⟩

theorem witness_TideControls :
    (∃ s : State, ∃ src : Src, ∃ p : Nat, ∃ data : Nat, s.chip.admits src .TIDE ∧ s.chip.portDark p = false ∧
      (data.testBit 30) = false ∧ (data.testBit 29) = false ∧ s.chip.tideLocked p = false ∧ s.chip.tideCheck p = 0) ∧
    (∃ s : State, ∃ src : Src, ∃ p : Nat, ∃ data : Nat, s.chip.admits src .TIDE ∧ s.chip.portDark p = false ∧
      (data.testBit 30) = false ∧ (data.testBit 29) = false ∧ s.chip.tideLocked p = false ∧ s.chip.tideCheck p ≠ 0) ∧
    (∃ s : State, ∃ src : Src, ∃ p : Nat, ∃ data : Nat, s.chip.admits src .TIDE ∧ s.chip.portDark p = false ∧
      s.chip.tideLocked p = true) ∧
    (∃ s : State, ∃ src : Src, ∃ p : Nat, ∃ data : Nat, s.chip.admits src .TIDE ∧ s.chip.portDark p = false ∧
      (data.testBit 31) = false ∧ (data.testBit 29) = false ∧ (s.chip.tide p).pend = none) ∧
    (∃ s : State, ∃ src : Src, ∃ p : Nat, ∃ data : Nat, s.chip.admits src .TIDE ∧ s.chip.portDark p = false ∧
      (data.testBit 31) = false ∧ (data.testBit 29) = false ∧ (s.chip.tide p).pend.isSome = true) ∧
    (∃ s : State, ∃ src : Src, ∃ p : Nat, ∃ data : Nat, s.chip.admits src .TIDE ∧ s.chip.portDark p = false ∧
      (data.testBit 31) = false ∧ (data.testBit 30) = false) ∧
    (∃ s : State, ∃ src : Src, ∃ p : Nat, ∃ data : Nat, s.chip.admits src .TIDE ∧ s.chip.portDark p = false ∧
      ((data.testBit 30) = true ∨ (data.testBit 29) = true)) ∧
    (∃ s : State, ∃ src : Src, ∃ p : Nat, ∃ data : Nat, s.chip.admits src .TIDE ∧ s.chip.portDark p = false ∧
      ((data.testBit 31) = true ∨ (data.testBit 29) = true)) ∧
    (∃ s : State, ∃ src : Src, ∃ p : Nat, ∃ data : Nat, s.chip.admits src .TIDE ∧ s.chip.portDark p = false ∧
      ((data.testBit 31) = true ∨ (data.testBit 30) = true)) :=
  ⟨⟨(own fun c => c.setF .TIDE_ADMIN_CYCLE_CYCLE_NS 0 1000), .host, 0, 0, by decide +kernel⟩,
    ⟨(own fun c => c), .host, 248, 0, by decide +kernel⟩,
    ⟨(own fun c => c.setTide 0 { c.tide 0 with copying := true }), .host, 0, 0, by decide +kernel⟩,
    ⟨(own fun c => c), .host, 0, 0, by decide +kernel⟩,
    ⟨(own fun c => c.setTide 0 { c.tide 0 with pend := some (list 0 9) }), .host, 0, 0, by decide +kernel⟩,
    ⟨(own fun c => c), .host, 0, (2 ^ 29 + 255), by decide +kernel⟩,
    ⟨(own fun c => c), .host, 0, (2 ^ 30), by decide +kernel⟩,
    ⟨(own fun c => c), .host, 0, (2 ^ 29), by decide +kernel⟩,
    ⟨(own fun c => c), .host, 0, (2 ^ 31), by decide +kernel⟩⟩

theorem witness_TideEvents :
    (∃ s : State, ∃ p : Nat, ∃ l : TideList, s.up ∧ (s.chip.tide p).pend = some l ∧ s.chip.ticking = true ∧
      s.chip.reached l.start = true) ∧
    (∃ s : State, ∃ p : Nat, ∃ l : TideList, s.up ∧ (s.chip.tide p).copying = true ∧ (s.chip.tide p).oper = some l) ∧
    (∃ s : State, ∃ p : Nat, ∃ l : TideList, ∃ e, ∃ w : Nat, s.up ∧ s.chip.portValid p = true ∧ s.chip.ticking = true
      ∧ (s.chip.tide p).oper = some l ∧ l.entries ≠ [] ∧ (s.chip.tide p).done < (s.chip.now + s.chip.incr / 65536) ∧
      (l.startsIn (s.chip.tide p).done (s.chip.now + s.chip.incr / 65536)).getLast? = some (e, w)) ∧
    (∃ s : State, ∃ p : Nat, s.up ∧ s.chip.portValid p = true ∧ s.chip.ticking = true ∧ s.chip.now ≤ (s.chip.tide
      p).done ∧ s.chip.advanceDue p 1 = true ∧ s.chip.mmActive p = true) ∧
    (∃ s : State, ∃ p : Nat, ∃ i : Instr, s.up ∧ s.chip.mmActive p = false ∧ s.chip.now ≤ (s.chip.tide p).done ∧ i ∈
      [Instr.holdAdvanceEvent p, .releaseAdvanceEvent p]) ∧
    (∃ s : State, ∃ p : Nat, s.up ∧ s.chip.portValid p = true ∧ s.chip.ticking = true ∧ s.chip.now ≤ (s.chip.tide
      p).done ∧ s.chip.advanceDue p 2 = true ∧ s.chip.mmActive p = true) :=
  ⟨⟨(up fun c => c.setTide 0 { c.tide 0 with pend := some (list 0 0) }), 0, (list 0 0), by decide +kernel⟩,
    ⟨(up fun c => c.setTide 0 { c.tide 0 with copying := true, oper := some (list 0 0) }), 0, (list 0 0), by
      decide +kernel⟩,
    ⟨(up fun c => let c := c.setTide 0 { c.tide 0 with oper := some (list 0 0) };
      let c := c.setRaw ((nsT 2000 - c.incr / 65536) * 65536); c.setTide 0 { c.tide 0 with done := c.now }), 0, (list
      0 0), (nsT 2000), (255 * 2 ^ 48 + 1000), by decide +kernel⟩,
    ⟨(up fun c =>
      let c := ((c.setF .PORT_MM_CFG_MM_EN 0 1).setF .TIDE_PORT_CFG_HOLD_ADVANCE 0 1000).setF .PORT_STATUS_LINK_STATE 0 3;
      let c := c.setF .TIDE_CTRL_PREEMPT_MASK 0 1;
      let c := c.setTide 0 { c.tide 0 with oper := some ⟨[2 ^ 48 + 1000, 2 ^ 61 + 1000], 0, nsT 2000, 0, 2000⟩ };
      let c := c.setRaw (nsT 100 * 65536); let c := c.setF .PORT_MM_STATUS_VERIFY 0 3; c.setTide 0
      { c.tide 0 with done := c.now }), 0, by decide +kernel⟩,
    ⟨(up fun c => c), 0, (.holdAdvanceEvent 0), by decide +kernel, by decide +kernel, by decide +kernel, by simp⟩,
    ⟨(up fun c =>
      let c := ((c.setF .PORT_MM_CFG_MM_EN 0 1).setF .PORT_STATUS_LINK_STATE 0 3).setF .PORT_MM_STATUS_VERIFY 0 3;
      let c := c.setF .TIDE_CTRL_PREEMPT_MASK 0 1; let c := c.setF .TIDE_PORT_CFG_RELEASE_ADVANCE 0 1000;
      let c := c.setTide 0 { c.tide 0 with oper := some ⟨[2 ^ 48 + 1000, 2 ^ 62 + 1000], 0, nsT 2000, 0, 2000⟩ };
      let c := c.setRaw (nsT 100 * 65536); c.setTide 0 { c.tide 0 with done := c.now }), 0, by decide +kernel⟩⟩

theorem witness_QuayMoves :
    (∃ s : State, ∃ p : Nat, ∃ b : Nat, ∃ i : Item, ∃ r : List Item, ∃ l, s.up ∧ s.chip.portValid p = true ∧
      s.chip.linkUp p = true ∧ s.chip.berthsOf p = [b] ∧ s.chip.bTc b < 8 ∧ s.chip.bTimed b = true ∧ (s.chip.berth
      b).queue = i :: r ∧ i.launch = some l ∧ s.chip.now < l ∧ s.chip.timedCand p (s.chip.bTc b) b = some (l,
      b, .timed b)) ∧
    (∃ s : State, ∃ g : Nat, ∃ transit : Nat, ∃ x : Staged, ∃ rest : List Staged, s.up ∧ (s.chip.quay g).transit = x
      :: rest ∧ s.chip.fineNow ≤ s.chip.wireAt x.port (x.it.launch.getD 0)) ∧
    (∃ s : State, ∃ g : Nat, ∃ transit : Nat, ∃ x : Staged, ∃ rest : List Staged, s.up ∧ (s.chip.quay g).transit = x
      :: rest ∧ s.chip.wireAt x.port (x.it.launch.getD 0) < s.chip.fineNow ∧ s.chip.sendNow x.berth x.it.f = true) ∧
    (∃ s : State, ∃ p : Nat, ∃ x : Staged, ∃ n : Nat, s.up ∧ s.chip.nextStaged p = some x ∧ s.chip.ticking = true ∧
      s.chip.linkUp p = true ∧ s.chip.reached (s.chip.wireAt p (x.it.launch.getD 0) / 200) = true ∧ s.chip.missed
      (s.chip.wireAt p (x.it.launch.getD 0)) = false ∧ (s.chip.port p).wire = none ∧ s.chip.preClass p x.tc = false ∧
      s.chip.gateOpen p x.tc (s.chip.wireAt p (x.it.launch.getD 0)) = true ∧ x.it.f.elen = some n ∧ n ≤
      s.chip.fld .PORT_CFG_MAX_FRAME p) ∧
    (∃ s : State, ∃ p : Nat, ∃ x : Staged, s.up ∧ s.chip.nextStaged p = some x ∧ s.chip.ticking = true ∧ s.chip.linkUp
      p = true ∧ s.chip.reached (s.chip.wireAt p (x.it.launch.getD 0) / 200) = true ∧ s.chip.missed (s.chip.wireAt p
      (x.it.launch.getD 0)) = true ∧ (s.chip.port p).wire = none) :=
  ⟨⟨(up fun c => let c := c.setF .PORT_STATUS_LINK_STATE 0 3; give c 5 0 1 [item (some (nsT 1000))]), 0, 5, (item
      (some (nsT 1000))), [], (nsT 1000), by decide +kernel⟩,
    ⟨(up fun c => c.setQuay 0 ⟨[staged (nsT 1000)], []⟩), 0, 100, (staged (nsT 1000)), [], by decide +kernel⟩,
    ⟨(up fun c => let c := c.setQuay 0 ⟨[staged 0], []⟩; let c := c.setF .SCHD_BERTH_CFG_LATE_POLICY 1 1; c.setRaw
      (nsT 1000 * 65536)), 0, 0, (staged 0), [], by decide +kernel⟩,
    ⟨(up fun c => let c := c.setF .PORT_STATUS_LINK_STATE 0 3; let c := c.setQuay 0 ⟨[], [staged 0]⟩;
      c.setF .PORT_STATUS_LINK_STATE 0 3), 0, (staged 0), 64, by decide +kernel⟩,
    ⟨(up fun c => let c := c.setF .PORT_STATUS_LINK_STATE 0 3; let c := c.setQuay 0 ⟨[], [staged 0]⟩;
      let c := c.setF .PORT_STATUS_LINK_STATE 0 3; c.setRaw (nsT 1000 * 65536)), 0, (staged 0), by decide +kernel⟩⟩

theorem witness_SelectionStarts :
    (∃ s : State, ∃ p : Nat, ∃ b : Nat, ∃ i : Item, ∃ r : List Item, ∃ l, s.up ∧ s.chip.portValid p = true ∧
      s.chip.linkUp p = true ∧ (s.chip.port p).wire = none ∧ (s.chip.port p).part = none ∧ (s.chip.port p).late = [] ∧
      (s.chip.berthsOf p).foldl Chip.lateHeads s.chip = s.chip ∧ b ∈ s.chip.berthsOf p ∧ s.chip.bTc b < 8 ∧ (∀ x ∈
      s.chip.berthsOf p, s.chip.bTc b < s.chip.bTc x → if s.chip.bTimed x then (fun (x : Nat) => s.chip.timedCand p
      (s.chip.bTc x) x) x = none else (fun (x : Nat) => s.chip.fairCand p (s.chip.bTc x) s.chip.fineNow x) x = none) ∧
      (s.chip.berth b).queue = i :: r ∧ s.chip.bTimed b = true ∧ (fun (x : Nat) => s.chip.timedCand p (s.chip.bTc x)
      x) b = some (l, b, .timed b) ∧ (∀ x ∈ s.chip.berthsOf p, x ≠ b → s.chip.bTc x = s.chip.bTc b → s.chip.bTimed x =
      true → ∀ l', (fun (x : Nat) => s.chip.timedCand p (s.chip.bTc x) x) x = some (l', x, .timed x) → l < l' ∨ (l =
      l' ∧ b < x))) ∧
    (∃ s : State, ∃ p : Nat, ∃ b : Nat, ∃ i : Item, ∃ r : List Item, ∃ fit : Fit, ∃ n : Nat, s.up ∧ s.chip.portValid p
      = true ∧ s.chip.linkUp p = true ∧ (s.chip.port p).wire = none ∧ (s.chip.port p).part = none ∧ (s.chip.port
      p).late = [] ∧ (s.chip.berthsOf p).foldl Chip.lateHeads s.chip = s.chip ∧ b ∈ s.chip.berthsOf p ∧ s.chip.bTc b <
      8 ∧ (∀ x ∈ s.chip.berthsOf p, s.chip.bTc b < s.chip.bTc x → if s.chip.bTimed x then (fun (x : Nat) =>
      s.chip.timedCand p (s.chip.bTc x) x) x = none else (fun (x : Nat) => s.chip.fairCand p (s.chip.bTc x)
      s.chip.fineNow x) x = none) ∧ (s.chip.berth b).queue = i :: r ∧ s.chip.bTimed b = false ∧ (fun (x : Nat) =>
      s.chip.fairCand p (s.chip.bTc x) s.chip.fineNow x) b = some (b, .fair b fit) ∧ (∀ x ∈ s.chip.berthsOf p,
      s.chip.bTc x = s.chip.bTc b → s.chip.bTimed x = true → (fun (x : Nat) => s.chip.timedCand p (s.chip.bTc x) x) x
      = none) ∧ (∀ x ∈ s.chip.berthsOf p, x ≠ b → s.chip.bTc x = s.chip.bTc b → s.chip.bTimed x = false → (fun (x :
      Nat) => s.chip.fairCand p (s.chip.bTc x) s.chip.fineNow x) x ≠ none → let f := (s.chip.berth b).finish;
      let g := (s.chip.berth x).finish; (before f g = true ∧ before g f = false) ∨ (f = g ∧ b < x)) ∧ i.f.elen = some
      n ∧ n ≤ s.chip.fld .PORT_CFG_MAX_FRAME p) ∧
    (∃ s : State, ∃ b : Nat, s.up ∧ s.chip.bValid b = true ∧ s.chip.bTimed b = false ∧ 0 < (s.chip.berth b).weight ∧
      (s.chip.berth b).queue ≠ [] ∧ ((s.chip.berth b).accrue s.chip.now).inCredit = true) ∧
    (∃ s : State, ∃ b : Nat, s.up ∧ s.chip.bValid b = true ∧ (s.chip.bTimed b = true ∨ (s.chip.berth b).weight = 0 ∨
      (s.chip.berth b).queue = [] ∨ ((s.chip.berth b).accrue s.chip.now).inCredit = false)) ∧
    (∃ s : State, ∃ b : Nat, s.up ∧ s.chip.bValid b = false) :=
  ⟨⟨(up fun c => let c := c.setF .PORT_STATUS_LINK_STATE 0 3; give c 5 0 1 [item (some (nsT 1000))]), 0, 5, (item
      (some (nsT 1000))), [], (nsT 1000), by decide +kernel, by decide +kernel, by decide +kernel, by decide +kernel,
      by decide +kernel, by decide +kernel, by decide +kernel, by decide +kernel, by decide +kernel, by
      decide +kernel, by decide +kernel, by decide +kernel, by decide +kernel, fun x hx hne => only_one (by
      decide +kernel) hx hne⟩,
    ⟨(up fun c => let c := c.setF .PORT_STATUS_LINK_STATE 0 3; give c 5 0 0 [item none]), 0, 5, (item none),
      [], .whole, 64, by decide +kernel, by decide +kernel, by decide +kernel, by decide +kernel, by decide +kernel,
      by decide +kernel, by decide +kernel, by decide +kernel, by decide +kernel, by decide +kernel, by
      decide +kernel, by decide +kernel, by decide +kernel, by decide +kernel, fun x hx hne => only_one (by
      decide +kernel) hx hne, by decide +kernel, by decide +kernel⟩,
    ⟨(up fun c => give c 65535 0 0 [item none]), 65535, by decide +kernel⟩,
    ⟨(up fun c => give c 5 0 1 [item none]), 5, by decide +kernel⟩,
    ⟨(up fun c => c), 65535, by decide +kernel⟩⟩

theorem witness_BerthRegisters :
    (∃ s : State, ∃ src : Src, ∃ b : Nat, ∃ data : Nat, s.chip.admits src .SCHD ∧ b < 65536 ∧ s.chip.bValid b = false
      ∧ data.testBit 63 = true ∧ s.chip.portValid (bits data 55 48) = true) ∧
    (∃ s : State, ∃ src : Src, ∃ b : Nat, ∃ data : Nat, s.chip.admits src .SCHD ∧ b < 65536 ∧ s.chip.bValid b = false
      ∧ data.testBit 63 = true ∧ s.chip.portValid (bits data 55 48) = false) ∧
    (∃ s : State, ∃ src : Src, ∃ b : Nat, ∃ data : Nat, s.chip.admits src .SCHD ∧ b < 65536 ∧ s.chip.bValid b = true ∧
      s.chip.copyingOf b = none ∧ data.testBit 63 = false ∧ s.chip.referenced b = false) ∧
    (∃ s : State, ∃ src : Src, ∃ b : Nat, ∃ data : Nat, s.chip.admits src .SCHD ∧ b < 65536 ∧ s.chip.bValid b = true ∧
      s.chip.copyingOf b = none ∧ data.testBit 63 = false ∧ s.chip.referenced b = true) ∧
    (∃ s : State, ∃ src : Src, ∃ b : Nat, ∃ data : Nat, s.chip.admits src .SCHD ∧ b < 65536 ∧ s.chip.copyingOf b =
      none ∧ bits data 56 32 ≤ 16777216) ∧
    (∃ s : State, ∃ src : Src, ∃ b : Nat, ∃ data : Nat, s.chip.admits src .SCHD ∧ b < 65536 ∧ s.chip.copyingOf b =
      none ∧ 16777216 < bits data 56 32) ∧
    (∃ s : State, ∃ src : Src, ∃ b : Nat, ∃ data : Nat, s.chip.admits src .SCHD ∧ b < 65536 ∧ s.chip.bValid b = true ∧
      (s.chip.port (s.chip.bPort b)).hand = none) ∧
    (∃ s : State, ∃ src : Src, ∃ b : Nat, ∃ data : Nat, s.chip.admits src .SCHD ∧ b < 65536 ∧ s.chip.bValid b = false) ∧
    (∃ s : State, ∃ p : Nat, ∃ h : HandS, s.up ∧ (s.chip.port p).hand = some h ∧ h.held = [] ∧ h.done = []) :=
  ⟨⟨(own fun c => c), .host, 65535, (2 ^ 63), by decide +kernel⟩,
    ⟨(own fun c => c), .host, 0, (2 ^ 63 + 2 ^ 48), by decide +kernel⟩,
    ⟨(own fun c => give c 0 0 0 [item none]), .host, 0, 0, by decide +kernel⟩,
    ⟨(own fun c => (give c 0 0 0 []).setCursor 0 { c.cursor 0 with state := 1, berth := 0 }), .host, 0, 0, by
      decide +kernel⟩,
    ⟨(own fun c => c), .host, 0, (16777216 * 2 ^ 32), by decide +kernel⟩,
    ⟨(own fun c => c), .host, 0, (16777217 * 2 ^ 32), by decide +kernel⟩,
    ⟨(own fun c => give c 0 0 0 []), .host, 0, 0, by decide +kernel⟩,
    ⟨(own fun c => c), .host, 0, 0, by decide +kernel⟩,
    ⟨(up fun c => c.setPort 0 { c.port 0 with hand := some ⟨0, [], [], 20, [], [], []⟩ }), 0, ⟨0, [], [], 20, [], [],
      []⟩, by decide +kernel⟩⟩

theorem witness_KeysAndHandles :
    (∃ s : State, ∃ src : Src, ∃ data : Nat, s.chip.admits src .STRM ∧ s.chip.is .STRM_PROFILE_VALID (s.chip.normKey
      (keyOf s.chip.strmData)).profile = true ∧ s.chip.is .STRM_PROFILE_PORT_IN_KEY (s.chip.normKey (keyOf
      s.chip.strmData)).profile = false ∧ (s.chip.handle (keyHandle s.chip.strmData)).valid = true ∧ s.chip.keysOf
      (keyHandle s.chip.strmData) < 8 ∧ s.chip.strm.keys.length < 61440 ∧ s.chip.findKey (s.chip.normKey (keyOf
      s.chip.strmData)) = none) ∧
    (∃ s : State, ∃ src : Src, ∃ data : Nat, s.chip.admits src .STRM ∧ s.chip.is .STRM_PROFILE_VALID (s.chip.normKey
      (keyOf s.chip.strmData)).profile = true ∧ s.chip.is .STRM_PROFILE_PORT_IN_KEY (s.chip.normKey (keyOf
      s.chip.strmData)).profile = false ∧ (s.chip.handle (keyHandle s.chip.strmData)).valid = true ∧ (s.chip.findKey
      (s.chip.normKey (keyOf s.chip.strmData))).isSome = true) ∧
    (∃ s : State, ∃ src : Src, ∃ data : Nat, s.chip.admits src .STRM ∧ s.chip.is .STRM_PROFILE_VALID (s.chip.normKey
      (keyOf s.chip.strmData)).profile = false) ∧
    (∃ s : State, ∃ src : Src, ∃ data : Nat, s.chip.admits src .STRM ∧ s.chip.is .STRM_PROFILE_VALID (s.chip.normKey
      (keyOf s.chip.strmData)).profile = true ∧ s.chip.keyPortBad s.chip.strmData = true) ∧
    (∃ s : State, ∃ src : Src, ∃ data : Nat, s.chip.admits src .STRM ∧ s.chip.keyPortBad s.chip.strmData = true) ∧
    (∃ s : State, ∃ src : Src, ∃ data : Nat, s.chip.admits src .STRM ∧ s.chip.keyPortBad s.chip.strmData = true) ∧
    (∃ s : State, ∃ src : Src, ∃ data : Nat, s.chip.admits src .STRM ∧ s.chip.keyPortBad s.chip.strmData = false ∧
      (s.chip.findKey (s.chip.normKey (keyOf s.chip.strmData))).isSome = true) ∧
    (∃ s : State, ∃ src : Src, ∃ data : Nat, s.chip.admits src .STRM ∧ s.chip.keyPortBad s.chip.strmData = false ∧
      s.chip.findKey (s.chip.normKey (keyOf s.chip.strmData)) = none) ∧
    (∃ s : State, ∃ src : Src, ∃ data : Nat, s.chip.admits src .STRM ∧ s.chip.keyPortBad s.chip.strmData = false ∧
      s.chip.findKey (s.chip.normKey (keyOf s.chip.strmData)) = none) ∧
    (∃ s : State, ∃ src : Src, ∃ data : Nat, ∃ h : Nat, s.chip.admits src .STRM ∧ s.chip.keyPortBad s.chip.strmData =
      false ∧ s.chip.findKey (s.chip.normKey (keyOf s.chip.strmData)) = some h) ∧
    (∃ s : State, ∃ src : Src, ∃ data : Nat, s.chip.admits src .STRM ∧ (s.chip.fld .STRM_INDEX_INDEX 0) < 65536 ∧
      (handleOf s.chip.strmData).valid = true ∧ (handleOf s.chip.strmData).egrLen ≤ 256 ∧ (handleOf
      s.chip.strmData).egrBase + (handleOf s.chip.strmData).egrLen ≤ 131072 ∧ s.chip.handleCode
      (s.chip.fld .STRM_INDEX_INDEX 0) (handleOf s.chip.strmData) = rOK ∧ s.chip.listCode
      (s.chip.fld .STRM_INDEX_INDEX 0) ((List.range (handleOf s.chip.strmData).egrLen).map fun j => s.chip.poolW
      ((handleOf s.chip.strmData).egrBase + j)) = rOK) ∧
    (∃ s : State, ∃ src : Src, ∃ data : Nat, s.chip.admits src .STRM ∧ (s.chip.fld .STRM_INDEX_INDEX 0) < 65536 ∧
      (s.chip.handle (s.chip.fld .STRM_INDEX_INDEX 0)).valid = true ∧ s.chip.ownsRegion (s.chip.fld .STRM_INDEX_INDEX
      0) = false ∧ s.chip.brkwMode (s.chip.fld .STRM_INDEX_INDEX 0) = 0) ∧
    (∃ s : State, ∃ src : Src, ∃ data : Nat, s.chip.admits src .STRM ∧ (s.chip.fld .STRM_INDEX_INDEX 0) < 65536 ∧
      (s.chip.handle (s.chip.fld .STRM_INDEX_INDEX 0)).valid = true ∧ s.chip.ownsRegion (s.chip.fld .STRM_INDEX_INDEX
      0) = true) :=
  ⟨⟨(own fun c => (c.setF .STRM_PROFILE_VALID 0 1).setHandle 0 { c.handle 0 with valid := true }), .host, 0, by
      decide +kernel⟩,
    ⟨(own fun c => let c := (c.setF .STRM_PROFILE_VALID 0 1).setHandle 0 { c.handle 0 with valid := true }; c.setStrm
      { c.strm with keys := [(c.normKey (keyOf c.strmData), 0)] }), .host, 0, by decide +kernel⟩,
    ⟨(own fun c => c), .host, 0, by decide +kernel⟩,
    ⟨(own fun c => let c := (c.setF .STRM_PROFILE_VALID 0 1).setF .STRM_PROFILE_PORT_IN_KEY 0 1;
      c.setF .STRM_DATA_DATA 0 (255 * 2 ^ 32)), .host, 0, by decide +kernel⟩,
    ⟨(own fun c => let c := (c.setF .STRM_PROFILE_VALID 0 1).setF .STRM_PROFILE_PORT_IN_KEY 0 1;
      c.setF .STRM_DATA_DATA 0 (255 * 2 ^ 32)), .host, 0, by decide +kernel⟩,
    ⟨(own fun c => let c := (c.setF .STRM_PROFILE_VALID 0 1).setF .STRM_PROFILE_PORT_IN_KEY 0 1;
      c.setF .STRM_DATA_DATA 0 (255 * 2 ^ 32)), .host, 0, by decide +kernel⟩,
    ⟨(own fun c => c.setStrm { c.strm with keys := [(c.normKey (keyOf c.strmData), 0)] }), .host, 0, by
      decide +kernel⟩,
    ⟨(own fun c => c), .host, 0, by decide +kernel⟩,
    ⟨(own fun c => c.setF .STRM_PROFILE_VALID 0 1), .host, 0, by decide +kernel⟩,
    ⟨(own fun c => c.setStrm { c.strm with keys := [(c.normKey (keyOf c.strmData), 0)] }), .host, 0, 0, by
      decide +kernel⟩,
    ⟨(own fun c => let c := c.setF .STRM_DATA_DATA 0 (2 ^ 63); c.setF .STRM_INDEX_INDEX 0 65535), .host, 0, by
      decide +kernel⟩,
    ⟨(own fun c => (c.setF .STRM_PROFILE_VALID 0 1).setHandle 0 { c.handle 0 with valid := true }), .host, 0, by
      decide +kernel⟩,
    ⟨(own fun c => let c := (c.setF .STRM_PROFILE_VALID 0 1).setHandle 0 { c.handle 0 with valid := true };
      c.setRegion 3 { c.region 3 with valid := true, kind := 1, handle := 0, pages := [1] }), .host, 0, by
      decide +kernel⟩⟩

theorem witness_StreamRecords :
    (∃ s : State, ∃ src : Src, ∃ data : Nat, s.chip.admits src .STRM ∧ (s.chip.fld .STRM_INDEX_INDEX 0) % 16 = 0 ∧
      (s.chip.fld .STRM_INDEX_INDEX 0) < 131072 ∧ (∀ k ∈ List.range 16, s.chip.inForce ((s.chip.fld .STRM_INDEX_INDEX
      0) + k) = false ∨ s.chip.poolW ((s.chip.fld .STRM_INDEX_INDEX 0) + k) = (fun (k : Nat) => poolWord (bits
      s.chip.strmData (32 * k + 31) (32 * k + 24)) (bits s.chip.strmData (32 * k + 15) (32 * k))) k)) ∧
    (∃ s : State, ∃ src : Src, ∃ data : Nat, ∃ k : Nat, s.chip.admits src .STRM ∧ (s.chip.fld .STRM_INDEX_INDEX 0) %
      16 = 0 ∧ (s.chip.fld .STRM_INDEX_INDEX 0) < 131072 ∧ k ∈ List.range 16 ∧ s.chip.inForce
      ((s.chip.fld .STRM_INDEX_INDEX 0) + k) = true ∧ s.chip.poolW ((s.chip.fld .STRM_INDEX_INDEX 0) + k) ≠ (fun (k :
      Nat) => poolWord (bits s.chip.strmData (32 * k + 31) (32 * k + 24)) (bits s.chip.strmData (32 * k + 15) (32 *
      k))) k) ∧
    (∃ s : State, ∃ src : Src, ∃ data : Nat, s.chip.admits src .STRM ∧ (s.chip.fld .STRM_INDEX_INDEX 0) < 65536 ∧
      s.chip.strmData.testBit 132 = false ∧ (meterOf s.chip.strmData).peak ≤ (s.chip.meter
      (s.chip.fld .STRM_INDEX_INDEX 0)).peak) ∧
    (∃ s : State, ∃ src : Src, ∃ data : Nat, s.chip.admits src .STRM ∧ (s.chip.fld .STRM_INDEX_INDEX 0) < 4096 ∧ bits
      s.chip.strmData 202 201 = 0 ∧ bits s.chip.strmData 196 195 = 0 ∧ timeOk (bits s.chip.strmData 95 0) = true ∧
      (s.chip.gate (s.chip.fld .STRM_INDEX_INDEX 0)).pend = none) ∧
    (∃ s : State, ∃ src : Src, ∃ data : Nat, s.chip.admits src .STRM ∧ (s.chip.fld .STRM_INDEX_INDEX 0) < 4096 ∧ bits
      s.chip.strmData 196 195 = 0 ∧ timeOk (bits s.chip.strmData 95 0) = true ∧ bits s.chip.strmData 176 168 ≤ 256 ∧
      nsT 1000 ≤ cycleT (bits s.chip.strmData 159 128) (bits s.chip.strmData 167 160) ∧ cycleT (bits s.chip.strmData
      159 128) (bits s.chip.strmData 167 160) ≤ nsT 4294967295 ∧ (∀ k ∈ List.range 8, s.chip.fld .STRM_DATA_DATA k < 2
      ^ 64) ∧ (s.chip.gate (s.chip.fld .STRM_INDEX_INDEX 0)).pend = none) ∧
    (∃ s : State, ∃ src : Src, ∃ data : Nat, s.chip.admits src .STRM ∧ (s.chip.fld .STRM_INDEX_INDEX 0) < 4096 ∧ bits
      s.chip.strmData 196 195 = 0 ∧ timeOk (bits s.chip.strmData 95 0) = true ∧ (s.chip.gate
      (s.chip.fld .STRM_INDEX_INDEX 0)).base = bits s.chip.strmData 95 0 ∧ (s.chip.gate (s.chip.fld .STRM_INDEX_INDEX
      0)).cycleNs = bits s.chip.strmData 159 128 ∧ (s.chip.gate (s.chip.fld .STRM_INDEX_INDEX 0)).cycleFrac = bits
      s.chip.strmData 167 160 ∧ (s.chip.gate (s.chip.fld .STRM_INDEX_INDEX 0)).count = bits s.chip.strmData 176 168 ∧
      (s.chip.gate (s.chip.fld .STRM_INDEX_INDEX 0)).initOpen = s.chip.strmData.testBit 192 ∧ (∀ k ∈ List.range 8,
      s.chip.fld .STRM_DATA_DATA k < 2 ^ 64) ∧ (s.chip.gate (s.chip.fld .STRM_INDEX_INDEX 0)).pend.isSome = true) ∧
    (∃ s : State, ∃ src : Src, ∃ data : Nat, s.chip.admits src .STRM ∧ (s.chip.fld .STRM_INDEX_INDEX 0) % 4 = 0 ∧
      (s.chip.fld .STRM_INDEX_INDEX 0) < 1048576 ∧ (s.chip.gate ((s.chip.fld .STRM_INDEX_INDEX 0) / 256)).pend = none) ∧
    (∃ s : State, ∃ src : Src, ∃ data : Nat, s.chip.admits src .STRM ∧ (s.chip.fld .STRM_INDEX_INDEX 0) % 4 = 0 ∧
      (s.chip.fld .STRM_INDEX_INDEX 0) < 1048576 ∧ (s.chip.gate ((s.chip.fld .STRM_INDEX_INDEX 0) / 256)).pend.isSome
      = true) ∧
    (∃ s : State, ∃ src : Src, ∃ data : Nat, s.chip.admits src .STRM ∧ (s.chip.fld .STRM_INDEX_INDEX 0) < 65536) ∧
    (∃ s : State, ∃ src : Src, ∃ data : Nat, s.chip.admits src .STRM ∧ (s.chip.fld .STRM_INDEX_INDEX 0) < 65536 ∧ bits
      data 27 24 = 1) ∧
    (∃ s : State, ∃ src : Src, ∃ data : Nat, s.chip.admits src .STRM ∧ (s.chip.fld .STRM_INDEX_INDEX 0) < 65536 ∧ bits
      data 27 24 = 6 ∧ data.testBit 18 = true ∧ bits data 17 16 = 2) :=
  ⟨⟨(own fun c => c.setF .STRM_INDEX_INDEX 0 131056), .host, 0, by decide +kernel⟩,
    ⟨(own fun c => let c := c.setHandle 0 { c.handle 0 with valid := true, egrLen := 1 }; c.setF .STRM_DATA_DATA 0
      1), .host, 0, 0, by decide +kernel⟩,
    ⟨(own fun c => c), .host, 0, by decide +kernel⟩,
    ⟨(own fun c => c), .host, 0, by decide +kernel⟩,
    ⟨(own fun c => c.setF .STRM_DATA_DATA 2 1000), .host, 0, by decide +kernel⟩,
    ⟨(own fun c => c.setGate 0 { c.gate 0 with pend := some 5, cycleNs := 0, initOpen := false }), .host, 0, by
      decide +kernel⟩,
    ⟨(own fun c => c), .host, 0, by decide +kernel⟩,
    ⟨(own fun c => c.setGate 0 { c.gate 0 with cycleNs := 1000, pend := some 5 }), .host, 0, by decide +kernel⟩,
    ⟨(own fun c => c), .host, 0, by decide +kernel⟩,
    ⟨(own fun c => c), .host, (2 ^ 24), by decide +kernel⟩,
    ⟨(own fun c => c), .host, (6 * 2 ^ 24 + 2 ^ 18 + 2 ^ 17), by decide +kernel⟩⟩

theorem witness_StreamGatesRun :
    (∃ s : State, ∃ g : Nat, ∃ x : Nat, s.up ∧ s.chip.ticking = true ∧ (s.chip.gate g).pend = some x ∧ x ≤ s.chip.now) ∧
    (∃ s : State, ∃ g : Nat, ∃ x : Nat, s.up ∧ (s.chip.gate g).pend = some x ∧ (s.chip.now < x ∨ s.chip.ticking =
      false)) ∧
    (∃ s : State, ∃ g : Nat, ∃ o : GateOper, s.up ∧ s.chip.ticking = true ∧ (s.chip.gate g).oper = some o ∧ o.base ≤
      s.chip.now) ∧
    (∃ s : State, ∃ g : Nat, s.up ∧ (s.chip.ticking = false ∨ (s.chip.gate g).oper = none)) ∧
    (∃ s : State, s.up) :=
  ⟨⟨(up fun c => c.setGate 0 { c.gate 0 with pend := some 0 }), 0, 0, by decide +kernel⟩,
    ⟨(up fun c => c.setGate 0 { c.gate 0 with pend := some 1000000000 }), 0, 1000000000, by decide +kernel⟩,
    ⟨(up fun c => c.setGate 0 { c.gate 0 with oper := some ⟨[⟨true, false, 0, 0, 1000, 0⟩], 0, nsT 1000, true⟩ }), 0,
      ⟨[⟨true, false, 0, 0, 1000, 0⟩], 0, nsT 1000, true⟩, by decide +kernel⟩,
    ⟨(up fun c => c), 4095, by decide +kernel⟩,
    ⟨(up fun c => c), by decide +kernel⟩⟩

theorem witness_FramesStart :
    (∃ s : State, ∃ p : Nat, ∃ ts : Nat, ∃ path : Path, ∃ b : Bytes, s.up ∧ s.chip.portValid p = true ∧ s.chip.linkUp
      p = true ∧ (s.chip.port p).rx = none ∧ s.chip.duoPort p = false ∧ 60 ≤ b.length ∧ rd b 12 2 = 0x8808) ∧
    (∃ s : State, ∃ p : Nat, ∃ ts : Nat, ∃ path : Path, ∃ b : Bytes, s.up ∧ s.chip.portValid p = true ∧ s.chip.linkUp
      p = true ∧ (s.chip.port p).rx = none ∧ s.chip.duoPort p = false ∧ 60 ≤ b.length ∧ rd b 12 2 ≠ 0x8808 ∧
      s.chip.shareFull (quadOfPort p) ((⟨b, declLen b, false, (if s.chip.ticking then ts else s.chip.now), some p,
      some s.chip.plane.nextRx, none, (ptpPlace b [319]).isSome, none⟩ : Frame)).size = false ∧ s.chip.trapped p b =
      false ∧ s.chip.identify p b = none ∧ s.chip.fld .STRM_PORT_CFG_DEF_RULE p = 0) ∧
    (∃ s : State, ∃ p : Nat, ∃ ts : Nat, ∃ path : Path, ∃ b : Bytes, s.up ∧ s.chip.portValid p = true ∧ s.chip.linkUp
      p = true ∧ (s.chip.port p).rx = none ∧ s.chip.duoPort p = false ∧ 60 ≤ b.length ∧ rd b 12 2 ≠ 0x8808 ∧
      s.chip.shareFull (quadOfPort p) ((⟨b, declLen b, false, (if s.chip.ticking then ts else s.chip.now), some p,
      some s.chip.plane.nextRx, none, (ptpPlace b [319]).isSome, none⟩ : Frame)).size = true) ∧
    (∃ s : State, ∃ p : Nat, ∃ ts : Nat, ∃ path : Path, ∃ b : Bytes, ∃ h : Nat, ∃ w, s.up ∧ s.chip.portValid p = true
      ∧ s.chip.linkUp p = true ∧ (s.chip.port p).rx = none ∧ s.chip.duoPort p = false ∧ 60 ≤ b.length ∧ rd b 12 2 ≠
      0x8808 ∧ s.chip.shareFull (quadOfPort p) ((⟨b, declLen b, false, (if s.chip.ticking then ts else s.chip.now),
      some p, some s.chip.plane.nextRx, none, (ptpPlace b [319]).isSome, none⟩ : Frame)).size = false ∧ s.chip.trapped
      p b = false ∧ s.chip.identify p b = some h ∧ (s.chip.handle h).maxSdu = 0 ∧ (s.chip.handle h).blocked = false ∧
      (s.chip.handle h).gateEn = false ∧ (s.chip.handle h).meterEn = false ∧ (s.chip.handle h).hostCopy = false ∧
      (s.chip.handle h).activeTx = false ∧ (s.chip.handle h).homeQ = quadOfPort p ∧ s.chip.brkwMode h = 0 ∧
      (s.chip.inst h).cfg.gen = 0 ∧ (s.chip.inst h).cfg.rtagPop = false ∧ s.chip.sole = true ∧ s.chip.duoState = 0 ∧
      s.chip.recordOf h = none ∧ s.chip.egress h = [w] ∧ dieOf (quadOfPort (poolPort w)) = dieOf (quadOfPort p) ∧
      s.chip.holdOf h (poolPort w) = none ∧ s.chip.bValid (poolBerth w) = true ∧ s.chip.bTimed (poolBerth w) = false ∧
      0 < (s.chip.berth (poolBerth w)).weight ∧ s.chip.fld .SCHD_BERTH_CFG_MAX_KIB (poolBerth w) = 0) :=
  ⟨⟨(up fun c => let c := c.setF .PORT_STATUS_LINK_STATE 0 3; c.setF .PORT_STATUS_LINK_STATE 0 3), 0, 0, ⟨⟨0, false⟩,
      ⟨0, false⟩⟩, (List.replicate 12 0 ++ [0x88, 8] ++ List.replicate 46 0), by decide +kernel⟩,
    ⟨(up fun c => let c := c.setF .PORT_STATUS_LINK_STATE 0 3; c.setF .PORT_STATUS_LINK_STATE 0 3), 0, 0, ⟨⟨0, false⟩,
      ⟨0, false⟩⟩, frame.bytes, by decide +kernel⟩,
    ⟨(up fun c => let c := c.setF .PORT_STATUS_LINK_STATE 0 3; let c := c.setF .PORT_STATUS_LINK_STATE 0 3; c.setBerth
      5 { c.berth 5 with queue := [⟨{ frame with elen := some 67108864 }, none, false⟩] }), 0, 0, ⟨⟨0, false⟩, ⟨0,
      false⟩⟩, frame.bytes, by decide +kernel⟩,
    ⟨(up fun c => let c := c.setF .PORT_STATUS_LINK_STATE 0 3; let c := c.setF .PORT_STATUS_LINK_STATE 0 3;
      let c := ((c.setF .STRM_PROFILE_VALID 0 1).setF .STRM_PORT_CFG_PROFILES 0 16).setF .STRM_PROFILE_TAGGED 0 2;
      let c := c.setStrm { c.strm with keys := [(c.normKey ⟨0, 0, 0, 0, 0, 0, 0, 0, 0, 0, 0, 0⟩, 1)], pool := [(0, poolWord 0 5)] };
      let c := c.setHandle 1 { c.handle 1 with valid := true, egrLen := 1 }; give c 5 0 0 []), 0, 0, ⟨⟨0, false⟩, ⟨0,
      false⟩⟩, frame.bytes, 1, (poolWord 0 5), by decide +kernel⟩⟩

theorem witness_FramesEnd :
    (∃ s : State, ∃ p : Nat, ∃ len : Nat, ∃ r : RxS, ∃ ok : Bool, s.up ∧ (s.chip.port p).rx = some r ∧ len < 64) ∧
    (∃ s : State, ∃ p : Nat, ∃ len : Nat, ∃ r : RxS, s.up ∧ (s.chip.port p).rx = some r ∧ 64 ≤ len) ∧
    (∃ s : State, ∃ p : Nat, ∃ len : Nat, ∃ r : RxS, s.up ∧ (s.chip.port p).rx = some r ∧ 64 ≤ len ∧
      s.chip.fld .PORT_CFG_MAX_FRAME p < len) ∧
    (∃ s : State, ∃ p : Nat, ∃ len : Nat, ∃ r : RxS, s.up ∧ (s.chip.port p).rx = some r ∧ 64 ≤ len ∧ len ≤
      s.chip.fld .PORT_CFG_MAX_FRAME p ∧ r.ctrl = true) ∧
    (∃ s : State, ∃ p : Nat, ∃ len : Nat, ∃ r : RxS, s.up ∧ (s.chip.port p).rx = some r ∧ 64 ≤ len ∧ len ≤
      s.chip.fld .PORT_CFG_MAX_FRAME p ∧ r.ctrl = false ∧ r.count = 3 ∧ r.wait = none ∧ (r.decl = none ∨ r.decl = some
      len)) ∧
    (∃ s : State, ∃ p : Nat, ∃ len : Nat, ∃ r : RxS, ∃ d : Nat, s.up ∧ (s.chip.port p).rx = some r ∧ r.decl = some d ∧
      64 ≤ len ∧ len ≤ s.chip.fld .PORT_CFG_MAX_FRAME p ∧ r.ctrl = false ∧ d ≠ len) :=
  ⟨⟨(up fun c => c.setPort 0
      { c.port 0 with rx := some ⟨4, frame, none, false, 1, [], none, ⟨⟨0, false⟩, ⟨0, false⟩⟩⟩ }), 0, 63, ⟨4, frame,
      none, false, 1, [], none, ⟨⟨0, false⟩, ⟨0, false⟩⟩⟩, true, by decide +kernel⟩,
    ⟨(up fun c => c.setPort 0
      { c.port 0 with rx := some ⟨4, frame, none, false, 1, [], none, ⟨⟨0, false⟩, ⟨0, false⟩⟩⟩ }), 0, 64, ⟨4, frame,
      none, false, 1, [], none, ⟨⟨0, false⟩, ⟨0, false⟩⟩⟩, by decide +kernel⟩,
    ⟨(up fun c => c.setPort 0
      { c.port 0 with rx := some ⟨4, frame, none, false, 1, [], none, ⟨⟨0, false⟩, ⟨0, false⟩⟩⟩ }), 0, 9729, ⟨4,
      frame, none, false, 1, [], none, ⟨⟨0, false⟩, ⟨0, false⟩⟩⟩, by decide +kernel⟩,
    ⟨(up fun c => c.setPort 0
      { c.port 0 with rx := some ⟨4, frame, none, true, 1, [], none, ⟨⟨0, false⟩, ⟨0, false⟩⟩⟩ }), 0, 64, ⟨4, frame,
      none, true, 1, [], none, ⟨⟨0, false⟩, ⟨0, false⟩⟩⟩, by decide +kernel⟩,
    ⟨(up fun c => c.setPort 0
      { c.port 0 with rx := some ⟨4, frame, none, false, 3, [], none, ⟨⟨0, false⟩, ⟨0, false⟩⟩⟩ }), 0, 1518, ⟨4,
      frame, none, false, 3, [], none, ⟨⟨0, false⟩, ⟨0, false⟩⟩⟩, by decide +kernel⟩,
    ⟨(up fun c => c.setPort 0
      { c.port 0 with rx := some ⟨4, frame, (some 64), false, 1, [], none, ⟨⟨0, false⟩, ⟨0, false⟩⟩⟩ }), 0, 1518, ⟨4,
      frame, (some 64), false, 1, [], none, ⟨⟨0, false⟩, ⟨0, false⟩⟩⟩, 64, by decide +kernel⟩⟩

theorem witness_FragmentsAssemble :
    (∃ s : State, ∃ p : Nat, ∃ m : MPacket, s.up ∧ s.chip.portValid p = true ∧ s.chip.linkUp p = true ∧
      (s.chip.is .PORT_MM_CFG_MM_EN p = false ∨ m.smdOk = false)) ∧
    (∃ s : State, ∃ p : Nat, ∃ m : MPacket, s.up ∧ s.chip.portValid p = true ∧ s.chip.linkUp p = true ∧
      s.chip.is .PORT_MM_CFG_MM_EN p = true ∧ m.smdOk = true ∧ m.cont = false ∧ (s.chip.port p).asm = none ∧ m.last =
      false ∧ m.crcOk = true) ∧
    (∃ s : State, ∃ p : Nat, ∃ m : MPacket, s.up ∧ s.chip.portValid p = true ∧ s.chip.linkUp p = true ∧
      s.chip.is .PORT_MM_CFG_MM_EN p = true ∧ m.smdOk = true ∧ m.cont = true ∧ (s.chip.port p).asm = none) ∧
    (∃ s : State, ∃ p : Nat, ∃ m : MPacket, ∃ a : AsmS, s.up ∧ s.chip.portValid p = true ∧ s.chip.linkUp p = true ∧
      s.chip.is .PORT_MM_CFG_MM_EN p = true ∧ m.smdOk = true ∧ m.cont = true ∧ (s.chip.port p).asm = some a ∧
      m.frameCount ≠ a.frameCount) ∧
    (∃ s : State, ∃ p : Nat, ∃ m : MPacket, ∃ a : AsmS, s.up ∧ s.chip.portValid p = true ∧ s.chip.linkUp p = true ∧
      s.chip.is .PORT_MM_CFG_MM_EN p = true ∧ m.smdOk = true ∧ m.cont = true ∧ (s.chip.port p).asm = some a ∧
      m.frameCount = a.frameCount ∧ m.last = false ∧ m.crcOk = true) ∧
    (∃ s : State, ∃ p : Nat, ∃ m : MPacket, ∃ a : AsmS, s.up ∧ s.chip.portValid p = true ∧ s.chip.linkUp p = true ∧
      s.chip.is .PORT_MM_CFG_MM_EN p = true ∧ m.smdOk = true ∧ m.cont = true ∧ (s.chip.port p).asm = some a ∧
      m.frameCount = a.frameCount ∧ m.last = true) :=
  ⟨⟨(up fun c => let c := c.setF .PORT_STATUS_LINK_STATE 0 3; c.setF .PORT_STATUS_LINK_STATE 0 3), 0, ⟨false, 0,
      true, false, true, List.replicate 64 1, ⟨⟨0, false⟩, ⟨0, false⟩⟩, 0⟩, by decide +kernel⟩,
    ⟨(up fun c => let c := c.setF .PORT_STATUS_LINK_STATE 0 3; let c := c.setB .PORT_MM_CFG_MM_EN 0 true;
      c.setF .PORT_STATUS_LINK_STATE 0 3), 0, ⟨false, 3, true, false, true, List.replicate 64 1, ⟨⟨0, false⟩, ⟨0,
      false⟩⟩, 0⟩, by decide +kernel⟩,
    ⟨(up fun c => let c := c.setF .PORT_STATUS_LINK_STATE 0 3; let c := c.setB .PORT_MM_CFG_MM_EN 0 true;
      c.setF .PORT_STATUS_LINK_STATE 0 3), 0, ⟨true, 3, true, false, true, List.replicate 64 1, ⟨⟨0, false⟩, ⟨0,
      false⟩⟩, 0⟩, by decide +kernel⟩,
    ⟨(up fun c => let c := c.setF .PORT_STATUS_LINK_STATE 0 3; let c := c.setB .PORT_MM_CFG_MM_EN 0 true;
      let c := c.setF .PORT_STATUS_LINK_STATE 0 3; c.setPort 0 { c.port 0 with asm := some ⟨1, frame.bytes, 0⟩ }), 0,
      ⟨true, 3, true, false, true, List.replicate 64 1, ⟨⟨0, false⟩, ⟨0, false⟩⟩, 0⟩, ⟨1, frame.bytes, 0⟩, by
      decide +kernel⟩,
    ⟨(up fun c => let c := c.setF .PORT_STATUS_LINK_STATE 0 3; let c := c.setB .PORT_MM_CFG_MM_EN 0 true;
      let c := c.setF .PORT_STATUS_LINK_STATE 0 3; c.setPort 0 { c.port 0 with asm := some ⟨1, frame.bytes, 0⟩ }), 0,
      ⟨true, 1, true, false, true, List.replicate 64 1, ⟨⟨0, false⟩, ⟨0, false⟩⟩, 0⟩, ⟨1, frame.bytes, 0⟩, by
      decide +kernel⟩,
    ⟨(up fun c => let c := c.setF .PORT_STATUS_LINK_STATE 0 3; let c := c.setB .PORT_MM_CFG_MM_EN 0 true;
      let c := c.setF .PORT_STATUS_LINK_STATE 0 3; c.setPort 0 { c.port 0 with asm := some ⟨1, frame.bytes, 0⟩ }), 0,
      ⟨true, 1, true, true, true, List.replicate 64 1, ⟨⟨0, false⟩, ⟨0, false⟩⟩, 0⟩, ⟨1, frame.bytes, 0⟩, by
      decide +kernel⟩⟩

theorem witness_BreakwaterCommands :
    (∃ s : State, ∃ src : Src, ∃ data : Nat, s.chip.admits src .BRKW ∧ s.chip.cfgCode (s.chip.fld .BRKW_INDEX_INSTANCE
      0) (cfgOf (s.chip.window .BRKW_DATA_DATA)) (s.chip.inst (s.chip.fld .BRKW_INDEX_INSTANCE 0)).paths = rOK) ∧
    (∃ s : State, ∃ src : Src, ∃ data : Nat, s.chip.admits src .BRKW ∧ s.chip.cfgCode (s.chip.fld .BRKW_INDEX_INSTANCE
      0) (cfgOf (s.chip.window .BRKW_DATA_DATA)) (s.chip.inst (s.chip.fld .BRKW_INDEX_INSTANCE 0)).paths ≠ rOK) ∧
    (∃ s : State, ∃ src : Src, ∃ data : Nat, s.chip.admits src .BRKW ∧ s.chip.pathsCode
      (s.chip.fld .BRKW_INDEX_INSTANCE 0) (s.chip.window .BRKW_DATA_DATA) = rOK) ∧
    (∃ s : State, ∃ src : Src, ∃ data : Nat, s.chip.admits src .BRKW ∧ bits data 23 20 = 3) ∧
    (∃ s : State, ∃ src : Src, ∃ data : Nat, s.chip.admits src .BRKW) ∧
    (∃ s : State, ∃ src : Src, ∃ data : Nat, s.chip.admits src .BRKW) ∧
    (∃ s : State, ∃ src : Src, ∃ data : Nat, s.chip.admits src .BRKW) :=
  ⟨⟨(own fun c => let c := c.setHandle 0 { c.handle 0 with valid := true };
      let c := c.setF .BRKW_DATA_DATA 0 (1 + 2 ^ 6 + 4096 * 2 ^ 32);
      let c := c.setF .BRKW_DATA_DATA 2 (0xFFFFFFFF * 2 ^ 32); c.setF .BRKW_DATA_DATA 3 (2 * 2 ^ 32)), .host, 0, by
      decide +kernel⟩,
    ⟨(own fun c => c), .host, 0, by decide +kernel⟩,
    ⟨(own fun c => c), .host, 0, by decide +kernel⟩,
    ⟨(own fun c => c), .host, (3 * 2 ^ 20), by decide +kernel⟩,
    ⟨(own fun c => c), .host, 0, by decide +kernel⟩,
    ⟨(own fun c => c), .host, 0, by decide +kernel⟩,
    ⟨(own fun c => c), .host, 0, by decide +kernel⟩⟩

theorem witness_BreakwaterInTime :
    (∃ s : State, ∃ n : Nat, s.up ∧ (s.chip.inst n).cfg.resetMs ≠ 0 ∧ (s.chip.inst n).cfg.mode ≠ modeOff ∧
      (s.chip.inst n).silent = false) ∧
    (∃ s : State, ∃ n : Nat, s.up ∧ (s.chip.inst n).silent = true) ∧
    (∃ s : State, ∃ n : Nat, s.up ∧ (s.chip.inst n).cfg.latentEn = true ∧ ((s.chip.inst n).cfg.latentDiff : Int) <
      ((s.chip.inst n).passedP : Int) * ((s.chip.inst n).cfg.latentPaths - 1) - (s.chip.inst n).discardedP) ∧
    (∃ s : State, ∃ n : Nat, s.up ∧ (s.chip.inst n).cfg.latentEn = true ∧ ((s.chip.inst n).passedP : Int) *
      ((s.chip.inst n).cfg.latentPaths - 1) - (s.chip.inst n).discardedP ≤ ((s.chip.inst n).cfg.latentDiff : Int)) ∧
    (∃ s : State, ∃ n : Nat, s.up ∧ (s.chip.inst n).cfg.latentEn = true) ∧
    (∃ s : State, ∃ n : Nat, ∃ kr : Nat × Rec, ∃ path : Path, s.up ∧ (s.chip.inst n).cfg.mode = modeAlign ∧
      s.chip.ticking = true ∧ (s.chip.region (s.chip.inst n).cfg.dlRegion).nextRelease = some kr ∧ s.chip.now +
      releaseLead + s.chip.incr / 65536 < kr.2.time) ∧
    (∃ s : State, ∃ n : Nat, ∃ kr : Nat × Rec, ∃ path : Path, s.up ∧ (s.chip.inst n).cfg.mode = modeAlign ∧
      s.chip.ticking = true ∧ (s.chip.region (s.chip.inst n).cfg.dlRegion).nextRelease = some kr ∧ kr.2.time ≤
      s.chip.now + releaseLead + s.chip.incr / 65536 ∧ kr.2.f.rx = none) ∧
    (∃ s : State, ∃ n : Nat, ∃ kr : Nat × Rec, ∃ f : Frame, ∃ w, ∃ l : List Rec, ∃ path : Path, s.up ∧ (s.chip.inst
      n).cfg.mode = modeAlign ∧ s.chip.ticking = true ∧ (s.chip.region (s.chip.inst n).cfg.dlRegion).nextRelease =
      some kr ∧ kr.2.time ≤ s.chip.now + releaseLead + s.chip.incr / 65536 ∧ s.chip.now < kr.2.time ∧ s.reads
      (s.chip.inst n).cfg.dlRegion kr.1 kr.2 f ∧ s.chip.egress n = [w] ∧ s.chip.holdOf n (poolPort w) = none ∧ dieOf
      (quadOfPort (poolPort w)) = dieOf (s.chip.handle n).homeQ ∧ (s.chip.handle n).notDup = false ∧ (s.chip.inst
      n).cfg.gen = 0 ∧ (s.chip.inst n).cfg.rtagPop = false ∧ (s.chip.handle n).hostCopy = false ∧ s.chip.recordOf n =
      none ∧ (s.chip.handle n).activeTx = false ∧ s.chip.takesIn (poolBerth w) f.size ∧ s.chip.bTimed (poolBerth w) =
      true ∧ ((s.chip.region (s.chip.inst n).cfg.dlRegion).ringOf kr.1).recs = kr.2 :: l) :=
  ⟨⟨(up fun c => c.setInst 65535
      { c.inst 65535 with cfg := { (c.inst 65535).cfg with mode := modePass, resetMs := 1 } }), 65535, by
      decide +kernel⟩,
    ⟨(up fun c => c.setInst 0 { c.inst 0 with cfg := { (c.inst 0).cfg with mode := modePass }, silent := true }), 0,
      by decide +kernel⟩,
    ⟨(up fun c => c.setInst 0
      { c.inst 0 with cfg := { (c.inst 0).cfg with latentEn := true, latentDiff := 1, latentPaths := 2 }, passedP := 2, discardedP := 0 }),
      0, by decide +kernel⟩,
    ⟨(up fun c => c.setInst 0
      { c.inst 0 with cfg := { (c.inst 0).cfg with latentEn := true, latentDiff := 1, latentPaths := 2 }, passedP := 1, discardedP := 0 }),
      0, by decide +kernel⟩,
    ⟨(up fun c => c.setInst 0 { c.inst 0 with cfg := { (c.inst 0).cfg with latentEn := true } }), 0, by
      decide +kernel⟩,
    ⟨(up fun c =>
      let c := c.setRegion 7 { c.region 7 with valid := true, rings := [(0, ⟨[], [⟨0, nsT 1000000, 0, false, 64, frame, 0, false⟩], 0, 64⟩)] };
      c.setInst 9 { c.inst 9 with cfg := { (c.inst 9).cfg with mode := modeAlign, dlRegion := 7 } }), 9, (0, ⟨0, (nsT
      1000000), 0, false, 64, frame, 0, false⟩), ⟨⟨0, false⟩, ⟨0, false⟩⟩, by decide +kernel⟩,
    ⟨(up fun c =>
      let c := c.setRegion 7 { c.region 7 with valid := true, rings := [(0, ⟨[], [⟨0, 0, 0, false, 64, frame, 0, false⟩], 0, 64⟩)] };
      c.setInst 9 { c.inst 9 with cfg := { (c.inst 9).cfg with mode := modeAlign, dlRegion := 7 } }), 9, (0, ⟨0, 0, 0,
      false, 64, frame, 0, false⟩), ⟨⟨0, false⟩, ⟨0, false⟩⟩, by decide +kernel⟩,
    ⟨(up fun c => let c := c.setHandle 9 { c.handle 9 with valid := true, egrLen := 1 };
      let c := c.setStrm { c.strm with pool := [(0, poolWord 0 5)] }; let c := give c 5 0 1 [];
      let c := c.setRegion 7 { c.region 7 with valid := true, rings := [(0, ⟨[⟨1, 0, 0, none, true⟩], [⟨0, (nsT 1000), 0, false, 60, frame, 0, false⟩], 0, 68⟩)] };
      c.setInst 9 { c.inst 9 with cfg := { (c.inst 9).cfg with mode := modeAlign, dlRegion := 7 } }), 9, (0, ⟨0, (nsT
      1000), 0, false, 60, frame, 0, false⟩), frame, (poolWord 0 5), [], ⟨⟨0, false⟩, ⟨0, false⟩⟩, by decide +kernel,
      by decide +kernel, by decide +kernel, by decide +kernel, by decide +kernel, by decide +kernel,
      by unfold State.reads; decide +kernel, by decide +kernel, by decide +kernel, by decide +kernel, by
      decide +kernel, by decide +kernel, by decide +kernel, by decide +kernel, by decide +kernel, by decide +kernel,
      by unfold Chip.takesIn; decide +kernel, by decide +kernel, by decide +kernel⟩⟩

theorem witness_StoreCommands :
    (∃ s : State, ∃ src : Src, ∃ data : Nat, s.chip.admits src .STOR ∧ (s.chip.region (s.chip.fld .STOR_INDEX_INDEX
      0)).valid = false ∧ (s.chip.window .STOR_DATA_DATA).testBit 63 = true ∧ (s.chip.regionCreate
      (s.chip.fld .STOR_INDEX_INDEX 0) (bits (s.chip.window .STOR_DATA_DATA) 62 61) (bits
      (s.chip.window .STOR_DATA_DATA) 47 32) (bits (s.chip.window .STOR_DATA_DATA) 20 0)).1 = rOK) ∧
    (∃ s : State, ∃ src : Src, ∃ data : Nat, s.chip.admits src .STOR ∧ (s.chip.region (s.chip.fld .STOR_INDEX_INDEX
      0)).valid = false ∧ (s.chip.window .STOR_DATA_DATA).testBit 63 = true ∧ 1 ≤ bits (s.chip.window .STOR_DATA_DATA)
      20 0 ∧ bits (s.chip.window .STOR_DATA_DATA) 20 0 ≤ 1048576 ∧ (s.chip.handle (bits
      (s.chip.window .STOR_DATA_DATA) 47 32)).valid = false) ∧
    (∃ s : State, ∃ src : Src, ∃ data : Nat, s.chip.admits src .STOR ∧ (s.chip.region (s.chip.fld .STOR_INDEX_INDEX
      0)).valid = false) ∧
    (∃ s : State, ∃ src : Src, ∃ data : Nat, s.chip.admits src .STOR ∧ (s.chip.region (s.chip.fld .STOR_INDEX_INDEX
      0)).valid = true ∧ (s.chip.region (s.chip.fld .STOR_INDEX_INDEX 0)).kind = 3 ∧ (s.chip.region
      (s.chip.fld .STOR_INDEX_INDEX 0)).arm = false ∧ s.chip.replayed (s.chip.fld .STOR_INDEX_INDEX 0) = false ∧
      (s.chip.brkw.inst.any fun e => e.2.cfg.dlRegion == (s.chip.fld .STOR_INDEX_INDEX 0) || e.2.cfg.histRegion ==
      (s.chip.fld .STOR_INDEX_INDEX 0)) = false) ∧
    (∃ s : State, ∃ src : Src, ∃ data : Nat, s.chip.admits src .STOR ∧ (s.chip.region (s.chip.fld .STOR_INDEX_INDEX
      0)).valid = true ∧ (s.chip.region (s.chip.fld .STOR_INDEX_INDEX 0)).kind = 3 ∧ (s.chip.region
      (s.chip.fld .STOR_INDEX_INDEX 0)).arm = true) ∧
    (∃ s : State, ∃ src : Src, ∃ data : Nat, s.chip.admits src .STOR ∧ s.chip.holdCode (s.chip.fld .STOR_INDEX_INDEX
      0) (s.chip.window .STOR_DATA_DATA) = rOK ∧ (s.chip.region (s.chip.fld .STOR_INDEX_INDEX 0)).state = 0) ∧
    (∃ s : State, ∃ src : Src, ∃ data : Nat, s.chip.admits src .STOR ∧ s.chip.holdCode (s.chip.fld .STOR_INDEX_INDEX
      0) (s.chip.window .STOR_DATA_DATA) ≠ rOK) ∧
    (∃ s : State, ∃ src : Src, ∃ data : Nat, s.chip.admits src .STOR ∧ s.chip.recordCode (s.chip.fld .STOR_INDEX_INDEX
      0) (s.chip.window .STOR_DATA_DATA) = rOK ∧ (s.chip.region (s.chip.fld .STOR_INDEX_INDEX 0)).spill = 0) ∧
    (∃ s : State, ∃ src : Src, ∃ data : Nat, s.chip.admits src .STOR) ∧
    (∃ s : State, ∃ src : Src, ∃ data : Nat, s.chip.admits src .STOR ∧ (s.chip.replayStart
      (s.chip.fld .STOR_INDEX_INDEX 0) (s.chip.window .STOR_DATA_DATA)).1 = rOK ∧ s.chip.now + nsT 20000000 ≤
      unpackTime (bits (s.chip.window .STOR_DATA_DATA) 415 320)) ∧
    (∃ s : State, ∃ src : Src, ∃ data : Nat, s.chip.admits src .STOR ∧ 1024 ≤ (s.chip.fld .STOR_INDEX_INDEX 0)) ∧
    (∃ s : State, ∃ src : Src, ∃ data : Nat, s.chip.admits src .STOR ∧ (s.chip.fld .STOR_INDEX_INDEX 0) < 1024 ∧
      (s.chip.cursor (s.chip.fld .STOR_INDEX_INDEX 0)).state = 1) ∧
    (∃ s : State, ∃ src : Src, ∃ data : Nat, s.chip.admits src .STOR ∧ bits data 23 20 = 4) :=
  ⟨⟨(own fun c => let c := c.setHandle 0 { c.handle 0 with valid := true, meterEn := true }; c.setF .STOR_DATA_DATA 0
      (2 ^ 63 + 2)), .host, 0, by decide +kernel, rfl, by decide +kernel, regionCreate_ok _ _ _ _ _ (by
      decide +kernel) (by decide +kernel)⟩,
    ⟨(own fun c => c.setF .STOR_DATA_DATA 0 (2 ^ 63 + 1048576)), .host, 0, by decide +kernel⟩,
    ⟨(own fun c => c), .host, 0, by decide +kernel⟩,
    ⟨(own fun c => c.setRegion 0 { c.region 0 with valid := true, kind := 3 }), .host, 0, by decide +kernel⟩,
    ⟨(own fun c => c.setRegion 0 { c.region 0 with valid := true, kind := 3, arm := true }), .host, 0, by
      decide +kernel⟩,
    ⟨(own fun c => let c := c.setRegion 0 { c.region 0 with valid := true, kind := 2 };
      let c := (c.setHandle 0 { c.handle 0 with valid := true, egrLen := 1 }).setStrm { (c.setHandle 0 { c.handle 0 with valid := true, egrLen := 1 }).strm with pool := [(0, poolWord 0 5)] };
      let c := give c 5 0 0 []; let c := c.setF .STOR_DATA_DATA 0 (2 ^ 63); c.setF .STOR_DATA_DATA 2 20000), .host, 0,
      by decide +kernel⟩,
    ⟨(own fun c => c), .host, 0, by decide +kernel⟩,
    ⟨(own fun c => c.setRegion 0 { c.region 0 with valid := true, kind := 3, rate := 5 }), .host, 0, by
      decide +kernel⟩,
    ⟨(own fun c => c), .host, 0, by decide +kernel⟩,
    ⟨(own fun c => let c := give c 5 0 1 [];
      let c := c.setRegion 3 { c.region 3 with valid := true, kind := 3, rate := 5 };
      let c := c.setF .STOR_DATA_DATA 0 (5 * 2 ^ 32 + 3); let c := c.setF .STOR_DATA_DATA 3 (1000 * 2 ^ 0);
      c.setF .STOR_DATA_DATA 5 (packTime (nsT 30000000))), .host, 0, by decide +kernel⟩,
    ⟨(own fun c => c.setF .STOR_INDEX_INDEX 0 1024), .host, 0, by decide +kernel⟩,
    ⟨(own fun c => let c := c.setF .STOR_INDEX_INDEX 0 1023; c.setCursor 1023
      { c.cursor 1023 with state := 1 }), .host, 0, by decide +kernel⟩,
    ⟨(own fun c => c), .host, (4 * 2 ^ 20), by decide +kernel⟩⟩

theorem witness_StoreInTime :
    (∃ s : State, ∃ r : Nat, s.up ∧ (s.chip.region r).valid = true ∧ (s.chip.region r).kind = 2 ∧ (s.chip.region
      r).bound = true ∧ s.chip.pathDown (s.chip.region r) = true ∧ (s.chip.region r).state = 0) ∧
    (∃ s : State, ∃ r : Nat, s.up ∧ (s.chip.region r).valid = true ∧ (s.chip.region r).kind = 2 ∧ (s.chip.region
      r).bound = true ∧ s.chip.pathDown (s.chip.region r) = false ∧ (s.chip.region r).state = 1 ∧ ((s.chip.region
      r).ringOf 0).recs = []) ∧
    (∃ s : State, ∃ r : Nat, ∃ cross : Nat, s.up ∧ (s.chip.region r).valid = true ∧ (s.chip.region r).kind = 2 ∧
      (s.chip.region r).state = 2 ∧ ((s.chip.region r).drain = 0 → s.chip.handlePeak (s.chip.region r).handle +
      (s.chip.region r).surplus ≠ 0) ∧ ((s.chip.region r).ringOf 0).recs = []) ∧
    (∃ s : State, ∃ r : Nat, ∃ o : Rec, ∃ l : List Rec, ∃ f : Frame, ∃ b : Nat, ∃ cross : Cross, s.up ∧ (s.chip.region
      r).valid = true ∧ (s.chip.region r).kind = 2 ∧ (s.chip.region r).state = 2 ∧ ((s.chip.region r).drain = 0 →
      s.chip.handlePeak (s.chip.region r).handle + (s.chip.region r).surplus ≠ 0) ∧ ((s.chip.region r).ringOf 0).recs
      = o :: l ∧ s.reads r 0 o f ∧ ((s.chip.region r).ringOf 0).inWindow o.off o.size = true ∧ s.chip.entryBerth
      (s.chip.region r).handle (s.chip.region r).port = some b ∧ dieOf (quadOfPort (s.chip.region r).port) = dieOf
      (s.chip.region r).quad ∧ s.chip.sole = true ∧ s.chip.takesIn b f.size ∧ (s.chip.region r).drain ≠ 1 ∧
      s.chip.bTimed b = false) ∧
    (∃ s : State, ∃ r : Nat, ∃ o : Rec, ∃ l : List Rec, ∃ f : Frame, ∃ b : Nat, ∃ cross : Cross, s.up ∧ (s.chip.region
      r).valid = true ∧ (s.chip.region r).kind = 2 ∧ (s.chip.region r).state = 2 ∧ ((s.chip.region r).drain = 0 →
      s.chip.handlePeak (s.chip.region r).handle + (s.chip.region r).surplus ≠ 0) ∧ ((s.chip.region r).ringOf 0).recs
      = o :: l ∧ s.reads r 0 o f ∧ ((s.chip.region r).ringOf 0).inWindow o.off o.size = true ∧ s.chip.entryBerth
      (s.chip.region r).handle (s.chip.region r).port = some b ∧ dieOf (quadOfPort (s.chip.region r).port) = dieOf
      (s.chip.region r).quad ∧ s.chip.sole = true ∧ s.chip.takesIn b f.size ∧ (s.chip.region r).drain = 1 ∧
      s.chip.bTimed b = true ∧ s.chip.now < (((o.time : Int) + (s.chip.region r).shift).toNat) ∧ (((o.time : Int) +
      (s.chip.region r).shift).toNat) ≤ s.chip.now + releaseLead + s.chip.incr / 65536) ∧
    (∃ s : State, ∃ cur : Nat, ∃ y : Rec, ∃ cross : Nat, s.up ∧ (s.chip.cursor cur).state = 1 ∧ (((s.chip.region
      (s.chip.cursor cur).region).ringOf 0).recs).find? (fun y => decide ((s.chip.cursor cur).next ≤ y.off) &&
      (y.marker || decide (unpackTime (s.chip.cursor cur).t1 ≤ y.time))) = some y ∧ y.marker = true) ∧
    (∃ s : State, ∃ cur : Nat, ∃ y : Rec, ∃ cross : Nat, s.up ∧ (s.chip.cursor cur).state = 1 ∧ (((s.chip.region
      (s.chip.cursor cur).region).ringOf 0).recs).find? (fun y => decide ((s.chip.cursor cur).next ≤ y.off) &&
      (y.marker || decide (unpackTime (s.chip.cursor cur).t1 ≤ y.time))) = some y ∧ y.marker = false ∧ unpackTime
      (s.chip.cursor cur).t2 ≤ y.time) ∧
    (∃ s : State, ∃ cur : Nat, ∃ y : Rec, ∃ cross : Nat, s.up ∧ (s.chip.cursor cur).state = 1 ∧ (((s.chip.region
      (s.chip.cursor cur).region).ringOf 0).recs).find? (fun y => decide ((s.chip.cursor cur).next ≤ y.off) &&
      (y.marker || decide (unpackTime (s.chip.cursor cur).t1 ≤ y.time))) = some y ∧ y.marker = false ∧ y.time <
      unpackTime (s.chip.cursor cur).t2 ∧ s.chip.now + releaseLead + s.chip.incr / 65536 < unpackTime (s.chip.cursor
      cur).l + (y.time - unpackTime (s.chip.cursor cur).t1)) ∧
    (∃ s : State, ∃ cur : Nat, ∃ y : Rec, ∃ f : Frame, ∃ cross : Cross, s.up ∧ (s.chip.cursor cur).state = 1 ∧
      (((s.chip.region (s.chip.cursor cur).region).ringOf 0).recs).find? (fun y => decide ((s.chip.cursor cur).next ≤
      y.off) && (y.marker || decide (unpackTime (s.chip.cursor cur).t1 ≤ y.time))) = some y ∧ y.marker = false ∧
      y.time < unpackTime (s.chip.cursor cur).t2 ∧ s.chip.now < (unpackTime (s.chip.cursor cur).l + (y.time -
      unpackTime (s.chip.cursor cur).t1)) ∧ (unpackTime (s.chip.cursor cur).l + (y.time - unpackTime (s.chip.cursor
      cur).t1)) ≤ s.chip.now + releaseLead + s.chip.incr / 65536 ∧ s.reads (s.chip.cursor cur).region 0 y f ∧
      ((s.chip.region (s.chip.cursor cur).region).ringOf 0).inWindow y.off y.size = true ∧ dieOf (quadOfPort
      (s.chip.bPort (s.chip.cursor cur).berth)) = dieOf (s.chip.region (s.chip.cursor cur).region).quad ∧
      s.chip.holdOf (s.chip.region (s.chip.cursor cur).region).handle (s.chip.bPort (s.chip.cursor cur).berth) = none
      ∧ s.chip.takesIn (s.chip.cursor cur).berth f.size ∧ s.chip.bTimed (s.chip.cursor cur).berth = true) ∧
    (∃ s : State, ∃ cur : Nat, ∃ cross : Nat, s.up ∧ (s.chip.cursor cur).state = 1 ∧ (s.chip.region (s.chip.cursor
      cur).region).arm = false ∧ ((s.chip.region (s.chip.cursor cur).region).ringOf 0).recs = []) ∧
    (∃ s : State, ∃ line : Nat, s.up ∧ s.chip.stor.ecc = [(line, 1)] ∧ s.chip.is .STOR_SCRUB_CFG_SCRUB_EN 0 = true ∧
      s.chip.stackBad (stackOf line) = false) ∧
    (∃ s : State, ∃ slot : Nat, ∃ r : Nat, ∃ pi : PageRef × Nat, s.up ∧ s.chip.spillRuns slot = true ∧ (s.chip.region
      r).valid = true ∧ (s.chip.region r).spill = slot + 1 ∧ ((s.chip.region r).ringOf 0).pages.countP (fun p =>
      p.drive.isSome) < (s.chip.region r).spillPages ∧ ((s.chip.region r).ringOf 0).pages.zipIdx.find? (fun e =>
      e.1.win && e.1.drive.isNone && decide (e.1.start + 65536 ≤ ((s.chip.region r).ringOf 0).wr)) = some pi ∧
      (s.chip.eccRead (storeAddr (s.chip.region r).quad pi.1.no 0) 65536).1 = true) ∧
    (∃ s : State, ∃ slot : Nat, ∃ r : Nat, ∃ pi : PageRef × Nat, ∃ n : Nat, ∃ l : List Nat, s.up ∧ s.chip.spillRuns
      slot = true ∧ (s.chip.region r).valid = true ∧ (s.chip.region r).spill = slot + 1 ∧ (s.chip.readers r).findSome?
      ((s.chip.region r).ringOf 0).nextBack = some pi ∧ (s.chip.region r).idle = n :: l) ∧
    (∃ s : State, ∃ slot : Nat, ∃ why : SpillFault, s.up ∧ (s.chip.spilS slot).prepared.isSome = true) :=
  ⟨⟨(up fun c => c.setRegion 131071
      { c.region 131071 with valid := true, kind := 2, bound := true, trigger := 1, force := true }), 131071, by
      decide +kernel⟩,
    ⟨(up fun c => c.setRegion 0
      { c.region 0 with valid := true, kind := 2, bound := true, trigger := 1, state := 1 }), 0, by decide +kernel⟩,
    ⟨(up fun c => c.setRegion 0 { c.region 0 with valid := true, kind := 2, state := 2, surplus := 1 }), 0, 0, by
      decide +kernel⟩,
    ⟨(up fun c => let c := c.setHandle 0 { c.handle 0 with valid := true, egrLen := 1 };
      let c := c.setStrm { c.strm with pool := [(0, poolWord 0 5)] }; let c := give c 5 0 0 []; c.setRegion 3
      { c.region 3 with valid := true, kind := 2, state := 2, surplus := 1, drain := 0, rings := [(0, ⟨[⟨1, 0, 0, none, true⟩], [⟨0, 0, 0, false, 60, frame, 0, false⟩], 0, 68⟩)] }),
      3, ⟨0, 0, 0, false, 60, frame, 0, false⟩, [], frame, 5, ⟨0, false⟩, by decide +kernel, by decide +kernel, by
      decide +kernel, by decide +kernel, by decide +kernel, by decide +kernel, by unfold State.reads; decide +kernel,
      by decide +kernel, by decide +kernel, by decide +kernel, by decide +kernel,
      by unfold Chip.takesIn; decide +kernel, by decide +kernel, by decide +kernel⟩,
    ⟨(up fun c => let c := c.setHandle 0 { c.handle 0 with valid := true, egrLen := 1 };
      let c := c.setStrm { c.strm with pool := [(0, poolWord 0 5)] }; let c := give c 5 0 1 []; c.setRegion 3
      { c.region 3 with valid := true, kind := 2, state := 2, surplus := 1, drain := 1, rings := [(0, ⟨[⟨1, 0, 0, none, true⟩], [⟨0, (nsT 1000), 0, false, 60, frame, 0, false⟩], 0, 68⟩)] }),
      3, ⟨0, (nsT 1000), 0, false, 60, frame, 0, false⟩, [], frame, 5, ⟨0, false⟩, by decide +kernel, by
      decide +kernel, by decide +kernel, by decide +kernel, by decide +kernel, by decide +kernel,
      by unfold State.reads; decide +kernel, by decide +kernel, by decide +kernel, by decide +kernel, by
      decide +kernel, by unfold Chip.takesIn; decide +kernel, by decide +kernel, by decide +kernel, by decide +kernel,
      by decide +kernel⟩,
    ⟨(up fun c =>
      let c := c.setRegion 3 { c.region 3 with valid := true, kind := 3, rings := [(0, ⟨[], [⟨64, 0, 0, true, 64, frame, 0, false⟩], 0, 128⟩)] };
      c.setCursor 1023 { c.cursor 1023 with state := 1, region := 3, t2 := 1000, l := 0 }), 1023, ⟨64, 0, 0, true, 64,
      frame, 0, false⟩, 0, by decide +kernel⟩,
    ⟨(up fun c =>
      let c := c.setRegion 3 { c.region 3 with valid := true, kind := 3, rings := [(0, ⟨[], [⟨64, (unpackTime 1000), 0, false, 64, frame, 0, false⟩], 0, 128⟩)] };
      c.setCursor 1023 { c.cursor 1023 with state := 1, region := 3, t2 := 1000, l := 0 }), 1023, ⟨64, (unpackTime
      1000), 0, false, 64, frame, 0, false⟩, 0, by decide +kernel⟩,
    ⟨(up fun c =>
      let c := c.setRegion 3 { c.region 3 with valid := true, kind := 3, rings := [(0, ⟨[], [⟨64, 0, 0, false, 64, frame, 0, false⟩], 0, 128⟩)] };
      c.setCursor 1023 { c.cursor 1023 with state := 1, region := 3, t2 := 1000, l := packTime (nsT 30000000) }),
      1023, ⟨64, 0, 0, false, 64, frame, 0, false⟩, 0, by decide +kernel⟩,
    ⟨(up fun c => let c := give c 5 0 1 [];
      let c := c.setRegion 3 { c.region 3 with valid := true, kind := 3, rings := [(0, ⟨[⟨1, 0, 0, none, true⟩], [⟨0, 0, 0, false, 60, frame, 0, false⟩], 0, 68⟩)] };
      c.setCursor 1023
      { c.cursor 1023 with state := 1, region := 3, berth := 5, t2 := 1000, l := packTime (nsT 1000) }), 1023, ⟨0, 0,
      0, false, 60, frame, 0, false⟩, frame, ⟨0, false⟩, by decide +kernel, by decide +kernel, by decide +kernel, by
      decide +kernel, by decide +kernel, by decide +kernel, by decide +kernel, by unfold State.reads; decide +kernel,
      by decide +kernel, by decide +kernel, by decide +kernel, by unfold Chip.takesIn; decide +kernel, by
      decide +kernel⟩,
    ⟨(up fun c => c.setCursor 0 { c.cursor 0 with state := 1 }), 0, 0, by decide +kernel⟩,
    ⟨(up fun c => (c.setF .STOR_SCRUB_CFG_SCRUB_EN 0 1).setStor { c.stor with ecc := [(2 ^ 36, 1)] }), (2 ^ 36), by
      decide +kernel⟩,
    ⟨(up fun c => let c := c.setSpil 1 { c.spilS 1 with prepared := some 1000 }; c.setRegion 3
      { c.region 3 with valid := true, kind := 3, spill := 2, spillPages := 1, rings := [(0, ⟨[⟨1, 0, 0, none, true⟩], [], 0, 65536⟩)] }),
      1, 3, (⟨1, 0, 0, none, true⟩, 0), by decide +kernel, by decide +kernel, by decide +kernel, by decide +kernel, by
      decide +kernel, by decide +kernel,
      by rw [show storeAddr _ _ 0 = 65536 by decide +kernel]; exact eccRead_page _ (by decide +kernel) (by decide +kernel) (by decide +kernel)⟩,
    ⟨(up fun c => let c := c.setSpil 1 { c.spilS 1 with prepared := some 1000 };
      let c := c.setRegion 3 { c.region 3 with valid := true, kind := 3, spill := 2, spillPages := 1, pages := [2], rings := [(0, ⟨[⟨1, 0, 0, some 7, false⟩], [], 0, 65536⟩)] };
      c.setCursor 5 { c.cursor 5 with state := 1, region := 3 }), 1, 3, (⟨1, 0, 0, some 7, false⟩, 0), 2, [], by
      decide +kernel⟩,
    ⟨(up fun c => c.setSpil 1 { c.spilS 1 with prepared := some 1000 }), 1, .io, by decide +kernel⟩⟩

theorem witness_SpillSlots :
    (∃ s : State, ∃ slot : Nat, ∃ d : DriveInfo, s.up ∧ slot < 2 ∧ s.chip.domainOn 45 = true ∧ (s.chip.spilS
      slot).faultLow = false ∧ s.chip.is .SPIL_SLOT_STATUS_PRESENT slot = false) ∧
    (∃ s : State, ∃ slot : Nat, s.up ∧ slot < 2 ∧ s.chip.domainOn 45 = true ∧ (s.chip.spilS slot).faultLow = false ∧
      s.chip.is .SPIL_SLOT_STATUS_PRESENT slot = true ∧ s.chip.powered slot = true) ∧
    (∃ s : State, ∃ slot : Nat, s.up ∧ slot < 2 ∧ s.chip.domainOn 45 = true ∧ s.chip.powered slot = true) ∧
    (∃ s : State, ∃ slot : Nat, s.up ∧ slot < 2 ∧ s.chip.domainOn 45 = true ∧ s.chip.is .SPIL_SLOT_STATUS_PRESENT slot
      = (s.chip.spilS slot).drive.isSome) ∧
    (∃ s : State, ∃ slot : Nat, s.up ∧ slot < 2 ∧ s.chip.domainOn 45 = true ∧ (((s.chip.spilS slot).faultLow = false ∧
      s.chip.is .SPIL_SLOT_STATUS_PRESENT slot = (s.chip.spilS slot).drive.isSome : Prop)) ∧ s.chip.runsSlots = true ∧
      (s.chip.spilS slot).button = none) ∧
    (∃ s : State, ∃ slot : Nat, s.up ∧ slot < 2 ∧ s.chip.domainOn 45 = true ∧ (((s.chip.spilS slot).faultLow = false ∧
      s.chip.is .SPIL_SLOT_STATUS_PRESENT slot = (s.chip.spilS slot).drive.isSome : Prop))) ∧
    (∃ s : State, ∃ slot : Nat, ∃ v : Nat, s.up ∧ slot < 2 ∧ s.chip.domainOn 45 = true ∧ s.chip.runsSlots = true ∧
      (s.chip.spilS slot).button = some (.armed v) ∧ (((s.chip.spilS slot).faultLow = false ∧
      s.chip.is .SPIL_SLOT_STATUS_PRESENT slot = (s.chip.spilS slot).drive.isSome : Prop))) ∧
    (∃ s : State, ∃ slot : Nat, ∃ v : Nat, s.up ∧ slot < 2 ∧ s.chip.domainOn 45 = true ∧ s.chip.runsSlots = true ∧
      (s.chip.spilS slot).button = some (.armed v) ∧ s.chip.powered slot = true) ∧
    (∃ s : State, ∃ slot : Nat, ∃ v : Nat, ∃ dr : DriveInfo, s.up ∧ slot < 2 ∧ s.chip.domainOn 45 = true ∧
      s.chip.runsSlots = true ∧ (s.chip.spilS slot).button = some (.armed v) ∧ s.chip.powered slot = false ∧
      (s.chip.spilS slot).drive = some dr ∧ dr.trains = true ∧ s.chip.is .SPIL_SLOT_STATUS_PWR_FAULT slot = false) ∧
    (∃ s : State, ∃ slot : Nat, ∃ v : Nat, ∃ dr : DriveInfo, s.up ∧ slot < 2 ∧ s.chip.domainOn 45 = true ∧
      s.chip.runsSlots = true ∧ (s.chip.spilS slot).button = some (.armed v) ∧ s.chip.powered slot = false ∧
      (s.chip.spilS slot).drive = some dr ∧ (dr.trains = false ∨ s.chip.is .SPIL_SLOT_STATUS_PWR_FAULT slot = true)) ∧
    (∃ s : State, ∃ slot : Nat, s.up ∧ slot < 2 ∧ s.chip.domainOn 45 = true ∧ (s.chip.spilS slot).button =
      some .shutdown) ∧
    (∃ s : State, ∃ slot : Nat, ∃ speed : Nat, ∃ width : Nat, s.up ∧ slot < 2 ∧ s.chip.domainOn 45 = true ∧
      s.chip.is .SPIL_SLOT_STATUS_LINK_UP slot = false ∧ s.chip.powered slot = true ∧
      s.chip.is .SPIL_SLOT_CTRL_PERST_REL slot = true) ∧
    (∃ s : State, ∃ slot : Nat, ∃ speed : Nat, ∃ width : Nat, s.up ∧ slot < 2 ∧ s.chip.domainOn 45 = true ∧
      s.chip.is .SPIL_SLOT_STATUS_LINK_UP slot = true ∧ s.chip.powered slot = true) ∧
    (∃ s : State, ∃ slot : Nat, s.up ∧ slot < 2 ∧ s.chip.domainOn 45 = true) :=
  ⟨⟨(up fun c => c), 1, ⟨65536, true, true, 5, 4, 300, 0, 0, 0⟩, by decide +kernel⟩,
    ⟨(up fun c => let c := c.setB .SPIL_SLOT_STATUS_PRESENT 1 true; c.setF .SPIL_SLOT_CTRL_PWR_ON 1 1), 1, by
      decide +kernel⟩,
    ⟨(up fun c => c.setF .SPIL_SLOT_CTRL_PWR_ON 1 1), 1, by decide +kernel⟩,
    ⟨(up fun c => c), 1, by decide +kernel⟩,
    ⟨(up fun c => c), 1, by decide +kernel⟩,
    ⟨(up fun c => c), 1, by decide +kernel⟩,
    ⟨(up fun c => c.setSpil 1 { c.spilS 1 with button := some (.armed 3) }), 1, 3, by decide +kernel⟩,
    ⟨(up fun c => let c := c.setF .SPIL_SLOT_CTRL_PWR_ON 1 1; c.setSpil 1
      { c.spilS 1 with button := some (.armed 3) }), 1, 3, by decide +kernel⟩,
    ⟨(up fun c => c.setSpil 1
      { c.spilS 1 with button := some (.armed 3), drive := some ⟨65536, true, true, 5, 4, 300, 0, 0, 0⟩ }), 1, 3,
      ⟨65536, true, true, 5, 4, 300, 0, 0, 0⟩, by decide +kernel⟩,
    ⟨(up fun c => c.setSpil 1
      { c.spilS 1 with button := some (.armed 3), drive := some ⟨65536, true, false, 5, 4, 300, 0, 0, 0⟩ }), 1, 3,
      ⟨65536, true, false, 5, 4, 300, 0, 0, 0⟩, by decide +kernel⟩,
    ⟨(up fun c => c.setSpil 1 { c.spilS 1 with button := some .shutdown }), 1, by decide +kernel⟩,
    ⟨(up fun c => let c := c.setB .SPIL_SLOT_CTRL_PERST_REL 1 true; c.setF .SPIL_SLOT_CTRL_PWR_ON 1 1), 1, 0, 0, by
      decide +kernel⟩,
    ⟨(up fun c => let c := c.setB .SPIL_SLOT_STATUS_LINK_UP 1 true; c.setF .SPIL_SLOT_CTRL_PWR_ON 1 1), 1, 0, 0, by
      decide +kernel⟩,
    ⟨(up fun c => c), 1, by decide +kernel⟩⟩

theorem witness_HostResets :
    (∃ s : State, s.aonUp ∧ s.chip.host.perst = false) ∧
    (∃ s : State, s.aonUp ∧ s.chip.host.perst = true) ∧
    (∃ s : State, s.aonUp ∧ s.chip.host.perst = false) ∧
    (∃ s : State, s.chip.cfgServed = true) ∧
    (∃ s : State, ∃ i : Instr, s.up ∧ s.chip.host.perst = false ∧ s.chip.host.ready = false ∧ s.chip.host.lost = false
      ∧ i ∈ [Instr.functionReady, .flrComplete]) ∧
    (∃ s : State, ∃ i : Instr, s.up ∧ s.chip.host.lost = true ∧ i ∈ [Instr.functionReady, .flrComplete]) ∧
    (∃ s : State, ∃ speed : Nat, ∃ width : Nat, s.aonUp ∧ s.chip.host.perst = false ∧ s.chip.is .HOST_STATUS_LINK_UP 0
      = false) ∧
    (∃ s : State, s.aonUp ∧ s.chip.is .HOST_STATUS_LINK_UP 0 = true) ∧
    (∃ s : State, s.aonUp ∧ s.chip.frozen = true) ∧
    (∃ s : State, s.up ∧ s.chip.is .HOST_STATUS_LINK_UP 0 = true) ∧
    (∃ s : State, ∃ off : Nat, ∃ d : Nat, ∃ i : Instr, s.chip.cfgServed = false ∧ s.chip.is .HOST_STATUS_LINK_UP 0 =
      true ∧ s.chip.inReset = false ∧ i ∈
      [Instr.initiateFlr, .busMasterEnableSet, .busMasterEnableClear, .pmControlWrite d, .resizableBarWrite
      d, .configSpaceWrite off d]) ∧
    (∃ s : State, s.up ∧ s.chip.host.cfg.aspmL1 = true ∧ s.chip.is .HOST_STATUS_LINK_UP 0 = true) ∧
    (∃ s : State, s.up) :=
  ⟨⟨(up fun c => c), by decide +kernel⟩,
    ⟨(up fun c => { c with host := { c.host with perst := true } }), by decide +kernel⟩,
    ⟨(up fun c => c), by decide +kernel⟩,
    ⟨(up fun c => c), by decide +kernel⟩,
    ⟨(up fun c => let c := { c with host := { c.host with ready := false } }; c.setHost
      { c.host with ready := false }), .functionReady, by decide +kernel, by decide +kernel, by decide +kernel, by
      decide +kernel, by simp⟩,
    ⟨(up fun c => let c := { c with host := { c.host with lost := true } }; c.setHost
      { c.host with lost := true, ready := false }), .functionReady, by decide +kernel, by decide +kernel, by simp⟩,
    ⟨(up fun c => c.setB .HOST_STATUS_LINK_UP 0 false), 0, 0, by decide +kernel⟩,
    ⟨(up fun c => c), by decide +kernel⟩,
    ⟨(up fun c => c.setB .DBG_STATUS_FREEZE_ACTIVE 0 true), by decide +kernel⟩,
    ⟨(up fun c => c), by decide +kernel⟩,
    ⟨(up fun c => c.setHost { c.host with ready := false }), 0, 0, .initiateFlr, by decide +kernel, by decide +kernel,
      by decide +kernel, by simp⟩,
    ⟨(up fun c => c.setHost { c.host with cfg := { c.host.cfg with aspmL1 := true } }), by decide +kernel⟩,
    ⟨(up fun c => c), by decide +kernel⟩⟩

theorem witness_HostRequests :
    (∃ s : State, s.chip.cfgServed = true ∧ s.chip.host.cfg.busMaster = true) ∧
    (∃ s : State, s.chip.cfgServed = true ∧ s.chip.host.cfg.busMaster = false) ∧
    (∃ s : State, ∃ d : Nat, s.chip.cfgServed = true ∧ s.chip.host.cfg.memEn = false ∧ 10 ≤ bits d 13 8 ∧ bits d 13 8
      ≤ 18) ∧
    (∃ s : State, ∃ d : Nat, s.chip.cfgServed = true ∧ s.chip.host.cfg.memEn = true) ∧
    (∃ s : State, ∃ d : Nat, s.chip.cfgServed = true ∧ s.chip.host.cfg.dstate = 0 ∧ bits d 1 0 = 3) ∧
    (∃ s : State, ∃ d : Nat, s.chip.cfgServed = true ∧ s.chip.host.cfg.dstate = 3 ∧ bits d 1 0 = 0) ∧
    (∃ s : State, ∃ d : Nat, s.chip.cfgServed = true ∧ d.testBit 2 = s.chip.host.cfg.busMaster) ∧
    (∃ s : State, ∃ d : Nat, s.chip.cfgServed = true ∧ d.testBit 15 = false) ∧
    (∃ s : State, ∃ d : Nat, s.chip.cfgServed = true) ∧
    (∃ s : State, ∃ d : Nat, s.chip.cfgServed = true) ∧
    (∃ s : State, ∃ v : Nat, s.up ∧ s.chip.hostServed = true ∧ v < 2048) ∧
    (∃ s : State, ∃ off : Nat, ∃ len : Nat, s.chip.hostServed = true ∧ s.chip.inAper off len = true) ∧
    (∃ s : State, ∃ off : Nat, ∃ b : Bytes, s.up ∧ s.chip.hostServed = true ∧ s.chip.inAper off b.length = true ∧
      s.chip.is .HOST_APER_CTRL_WRITE_EN 0 = true ∧ (∀ m, m < 8 → s.chip.stackBad m = false) ∧ s.chip.stor.ecc = [] ∧
      s.chip.aperAddr off + b.length ≤ storeEnd) ∧
    (∃ s : State, ∃ off : Nat, ∃ b : Bytes, ∃ p : Nat, s.up ∧ s.chip.hostServed = true ∧ s.chip.inAper off b.length =
      true ∧ s.chip.is .HOST_APER_CTRL_WRITE_EN 0 = false) ∧
    (∃ s : State, ∃ src : Src, ∃ data : Nat, s.up ∧ s.chip.reaches src .HOST = true) ∧
    (∃ s : State, ∃ off : Nat, ∃ len : Nat, s.chip.hostServed = true ∧ badAccess off len = true) ∧
    (∃ s : State, ∃ off : Nat, ∃ len : Nat, s.chip.hostServed = true ∧ badAccess off len = true) ∧
    (∃ s : State, ∃ tag : Nat, ∃ cpl : Nat, s.up ∧ (s.chip.host.reads.find? fun r => r.tag == tag) = none) ∧
    (∃ s : State, ∃ tag : Nat, ∃ r : OutRead, s.up ∧ (s.chip.host.reads.find? fun r => r.tag == tag) = some r) ∧
    (∃ s : State, ∃ tag : Nat, s.aonUp) :=
  ⟨⟨(up fun c => c), by decide +kernel⟩,
    ⟨(up fun c => c.setHost { c.host with cfg := { c.host.cfg with busMaster := false } }), by decide +kernel⟩,
    ⟨(up fun c => c.setHost { c.host with cfg := { c.host.cfg with memEn := false } }), (18 * 2 ^ 8), by
      decide +kernel⟩,
    ⟨(up fun c => c), 0, by decide +kernel⟩,
    ⟨(up fun c => c), 3, by decide +kernel⟩,
    ⟨(up fun c => c.setHost { c.host with cfg := { c.host.cfg with dstate := 3 } }), 0, by decide +kernel⟩,
    ⟨(up fun c => c), 4, by decide +kernel⟩,
    ⟨(up fun c => c), 0, by decide +kernel⟩,
    ⟨(up fun c => c), 0, by decide +kernel⟩,
    ⟨(up fun c => c), 0, by decide +kernel⟩,
    ⟨(up fun c => c), 0, by decide +kernel⟩,
    ⟨(up fun c => c), 0, 0, by decide +kernel⟩,
    ⟨(up fun c => c.setB .HOST_APER_CTRL_WRITE_EN 0 true), 0, [1, 2, 3], by decide +kernel⟩,
    ⟨(up fun c => c.setF .HOST_APER_CTRL_WRITE_EN 0 0), 0, [1, 2, 3], 0, by decide +kernel⟩,
    ⟨(up fun c => c), .host, 0, by decide +kernel⟩,
    ⟨(up fun c => c), 4, 8, by decide +kernel⟩,
    ⟨(up fun c => c), 4, 8, by decide +kernel⟩,
    ⟨(up fun c => c), 0, 0, by decide +kernel⟩,
    ⟨(up fun c => c.setHost { c.host with reads := [⟨7, 0, 0, 0, 64, []⟩] }), 7, ⟨7, 0, 0, 0, 64, []⟩, by
      decide +kernel⟩,
    ⟨(up fun c => c), 0, by decide +kernel⟩⟩

theorem witness_DmaChannels :
    (∃ s : State, ∃ ch : Nat, ∃ src : Src, ∃ data : Nat, s.up ∧ ch < 16 ∧ s.chip.reaches src .DMA = true ∧ data % 8 ≤
      1 ∧ s.chip.hostIssues = true ∧ (s.chip.dState ch = 0 ∨ s.chip.dState ch = 3) ∧ (s.chip.dmaCh ch).held = none) ∧
    (∃ s : State, ∃ ch : Nat, ∃ src : Src, ∃ data : Nat, s.up ∧ ch < 16 ∧ s.chip.reaches src .DMA = true ∧ (data % 8 =
      0 ∨ data % 8 = 2) ∧ s.chip.dState ch = 1 ∧ (s.chip.dmaCh ch).cur = none) ∧
    (∃ s : State, ∃ ch : Nat, ∃ src : Src, ∃ data : Nat, s.up ∧ ch < 16 ∧ s.chip.reaches src .DMA = true ∧ (data % 8 =
      0 ∨ data % 8 = 4)) ∧
    (∃ s : State, ∃ ch : Nat, ∃ src : Src, ∃ data : Nat, s.up ∧ ch < 16 ∧ s.chip.reaches src .DMA = true ∧ bits data
      15 0 < s.chip.ringSize ch ∧ (bits data 15 0 + s.chip.ringSize ch - s.chip.fld .DMA_CH_TAIL_TAIL ch %
      s.chip.ringSize ch) % s.chip.ringSize ch ≤ (s.chip.fld .DMA_CH_HEAD_DONE ch + 2 * s.chip.ringSize ch - 1 -
      s.chip.fld .DMA_CH_TAIL_TAIL ch % s.chip.ringSize ch) % s.chip.ringSize ch) ∧
    (∃ s : State, ∃ ch : Nat, ∃ src : Src, ∃ data : Nat, s.up ∧ ch < 16 ∧ s.chip.reaches src .DMA = true ∧
      s.chip.ringSize ch ≤ bits data 15 0) ∧
    (∃ s : State, ∃ ch : Nat, ∃ src : Src, ∃ data : Nat, s.up ∧ ch < 16 ∧ s.chip.reaches src .DMA = true ∧
      s.chip.dmaCfgOk ch data = true) ∧
    (∃ s : State, ∃ ch : Nat, ∃ src : Src, ∃ data : Nat, s.up ∧ ch < 16 ∧ s.chip.reaches src .DMA = true ∧
      s.chip.dState ch = 1) ∧
    (∃ s : State, ∃ ch : Nat, ∃ src : Src, ∃ data : Nat, ∃ l : Nat, s.up ∧ ch < 16 ∧ s.chip.reaches src .DMA = true ∧
      l < 64 ∧ s.chip.reqOk l (data % 2 ^ 63 + 2 ^ 63) = true ∧ s.chip.is .DMA_REQ_EN l = false) ∧
    (∃ s : State, ∃ ch : Nat, ∃ b : Bytes, ∃ r : OutRead, s.up ∧ ch < 16 ∧ s.chip.fetchRead ch = some r) ∧
    (∃ s : State, ∃ ch : Nat, ∃ e : Nat × List Nat, ∃ l : List (Nat × List Nat), s.up ∧ ch < 16 ∧ (s.chip.dmaCh
      ch).fetched = e :: l ∧ (s.chip.dmaCh ch).cur = none ∧ s.chip.dState ch = 1 ∧ s.chip.hostIssues = true ∧
      s.chip.descCheck ch ((⟨e.1, e.2, 0, 0, [], 0, 0⟩ : DmaCur)) ≠ 0) ∧
    (∃ s : State, ∃ ch : Nat, ∃ e : Nat × List Nat, ∃ l : List (Nat × List Nat), s.up ∧ ch < 16 ∧ (s.chip.dmaCh
      ch).fetched = e :: l ∧ (s.chip.dmaCh ch).cur = none ∧ s.chip.dState ch = 1 ∧ s.chip.hostIssues = true ∧
      s.chip.descCheck ch ((⟨e.1, e.2, 0, 0, [], 0, 0⟩ : DmaCur)) = 0 ∧ (((⟨e.1, e.2, 0, 0, [], 0, 0⟩ : DmaCur)).kind
      = 0 ∨ ((⟨e.1, e.2, 0, 0, [], 0, 0⟩ : DmaCur)).kind = 3 ∨ ((⟨e.1, e.2, 0, 0, [], 0, 0⟩ : DmaCur)).kind = 4 ∨
      ((⟨e.1, e.2, 0, 0, [], 0, 0⟩ : DmaCur)).req = true)) ∧
    (∃ s : State, ∃ ch : Nat, ∃ e : Nat × List Nat, ∃ l : List (Nat × List Nat), s.up ∧ ch < 16 ∧ (s.chip.dmaCh
      ch).fetched = e :: l ∧ (s.chip.dmaCh ch).cur = none ∧ s.chip.dState ch = 1 ∧ s.chip.hostIssues = true ∧
      s.chip.descCheck ch ((⟨e.1, e.2, 0, 0, [], 0, 0⟩ : DmaCur)) = 0 ∧ ((⟨e.1, e.2, 0, 0, [], 0, 0⟩ : DmaCur)).kind =
      1 ∧ ((⟨e.1, e.2, 0, 0, [], 0, 0⟩ : DmaCur)).req = false ∧ (((∀ m, m < 8 → s.chip.stackBad m = false) ∧
      s.chip.stor.ecc = [] : Prop))) ∧
    (∃ s : State, ∃ ch : Nat, ∃ e : Nat × List Nat, ∃ l : List (Nat × List Nat), s.up ∧ ch < 16 ∧ (s.chip.dmaCh
      ch).fetched = e :: l ∧ (s.chip.dmaCh ch).cur = none ∧ s.chip.dState ch = 1 ∧ s.chip.hostIssues = true ∧
      s.chip.descCheck ch ((⟨e.1, e.2, 0, 0, [], 0, 0⟩ : DmaCur)) = 0 ∧ ((⟨e.1, e.2, 0, 0, [], 0, 0⟩ : DmaCur)).kind =
      2 ∧ (((∀ m, m < 8 → s.chip.stackBad m = false) ∧ s.chip.stor.ecc = [] : Prop))) ∧
    (∃ s : State, ∃ ch : Nat, ∃ tag : Nat, ∃ x : Completion, ∃ r : OutRead, s.up ∧ ch < 16 ∧ (s.chip.host.reads.find?
      fun r => r.tag == tag) = some r ∧ r.purpose = 1 ∧ x.status = 0 ∧ x.poisoned = false ∧ r.target + r.len ≤
      storeEnd ∧ r.got.length ≤ r.len ∧ (((∀ m, m < 8 → s.chip.stackBad m = false) ∧ s.chip.stor.ecc = [] : Prop))) ∧
    (∃ s : State, ∃ ch : Nat, ∃ d : DmaCur, s.up ∧ ch < 16 ∧ (s.chip.dmaCh ch).cur = some d ∧ d.phase = 2 ∧
      s.chip.dState ch = 1 ∧ s.chip.hostIssues = true) ∧
    (∃ s : State, ∃ ch : Nat, ∃ i : RxItem, ∃ l : List RxItem, ∃ d : DmaCur, s.up ∧ ch < 16 ∧ s.chip.cls
      (s.chip.fld .DMA_CH_CFG_RX_CLASS ch) = i :: l ∧ (s.chip.dmaCh ch).cur = some d ∧ d.kind = 4 ∧ d.phase = 0 ∧
      s.chip.is .DMA_CH_CFG_RX_EN ch = true ∧ s.chip.dState ch = 1 ∧ s.chip.hostIssues = true ∧ i.f.rx = none ∧
      i.f.bytes.length ≤ d.len) ∧
    (∃ s : State, ∃ ch : Nat, ∃ i : RxItem, ∃ l : List RxItem, ∃ d : DmaCur, s.up ∧ ch < 16 ∧ s.chip.cls
      (s.chip.fld .DMA_CH_CFG_RX_CLASS ch) = i :: l ∧ (s.chip.dmaCh ch).cur = some d ∧ d.kind = 4 ∧ d.phase = 0 ∧
      s.chip.is .DMA_CH_CFG_RX_EN ch = true ∧ s.chip.dState ch = 1 ∧ s.chip.hostIssues = true ∧ i.f.rx = none ∧ d.len
      < i.f.bytes.length) ∧
    (∃ s : State, ∃ ch : Nat, ∃ r : Nat, ∃ d : DmaCur, s.up ∧ ch < 16 ∧ r < 64 ∧ s.chip.lineChannel r = some ch ∧
      (s.chip.dmaCh ch).cur = some d ∧ d.req = true ∧ d.kind = 1 ∧ d.phase = 0 ∧ s.chip.dState ch = 1 ∧
      s.chip.hostIssues = true ∧ s.chip.lineAsserted r = true ∧ ((s.chip.region (s.chip.fld .DMA_REQ_REGION r)).ringOf
      0).inWindow (s.chip.fld .DMA_REQ_PTR r) (min (64 * s.chip.fld .DMA_REQ_BURST r) (min (d.len - d.moved)
      (s.chip.lineAvail r))) = true) :=
  ⟨⟨(up fun c => c), 0, .host, 0, by decide +kernel⟩,
    ⟨(up fun c => ((c.setF .DMA_CH_STATUS_STATE 0 1).setF .DMA_CTRL_STORE_WR_EN 0 1).setF .DMA_CH_CFG_SIZE_LOG2 0 3),
      0, .host, 2, by decide +kernel⟩,
    ⟨(up fun c => c), 0, .host, 0, by decide +kernel⟩,
    ⟨(up fun c => c), 0, .host, 0, by decide +kernel⟩,
    ⟨(up fun c => c), 0, .host, 65535, by decide +kernel⟩,
    ⟨(up fun c => c), 0, .host, 16, by decide +kernel⟩,
    ⟨(up fun c => ((c.setF .DMA_CH_STATUS_STATE 0 1).setF .DMA_CTRL_STORE_WR_EN 0 1).setF .DMA_CH_CFG_SIZE_LOG2 0 3),
      0, .host, 0, by decide +kernel⟩,
    ⟨(up fun c => c.setRegion 0 { c.region 0 with valid := true, kind := 3 }), 0, .host, (2 ^ 30 + 1), 63, by
      decide +kernel⟩,
    ⟨(up fun c =>
      let c := ((c.setF .DMA_CH_STATUS_STATE 0 1).setF .DMA_CTRL_STORE_WR_EN 0 1).setF .DMA_CH_CFG_SIZE_LOG2 0 3;
      let c := c.setHost { c.host with reads := [⟨7, 0, 0, 64, 64, []⟩] }; c.setF .DMA_CH_TAIL_TAIL 0 7), 0,
      (List.replicate 64 0), ⟨7, 0, 0, 64, 64, []⟩, by decide +kernel⟩,
    ⟨(up fun c =>
      let c := ((c.setF .DMA_CH_STATUS_STATE 0 1).setF .DMA_CTRL_STORE_WR_EN 0 1).setF .DMA_CH_CFG_SIZE_LOG2 0 3;
      c.setDmaCh 0 ⟨[(0, [0, 63, 0, 0])], none, none⟩), 0, (0, [0, 63, 0, 0]), [], by decide +kernel⟩,
    ⟨(up fun c =>
      let c := ((c.setF .DMA_CH_STATUS_STATE 0 1).setF .DMA_CTRL_STORE_WR_EN 0 1).setF .DMA_CH_CFG_SIZE_LOG2 0 3;
      c.setDmaCh 0 ⟨[(0, [0, 64, 0, 0])], none, none⟩), 0, (0, [0, 64, 0, 0]), [], by decide +kernel⟩,
    ⟨(up fun c =>
      let c := ((c.setF .DMA_CH_STATUS_STATE 0 1).setF .DMA_CTRL_STORE_WR_EN 0 1).setF .DMA_CH_CFG_SIZE_LOG2 0 3;
      c.setDmaCh 0 ⟨[(0, [1, 64, 0, 0])], none, none⟩), 0, (0, [1, 64, 0, 0]), [], by decide +kernel⟩,
    ⟨(up fun c =>
      let c := ((c.setF .DMA_CH_STATUS_STATE 0 1).setF .DMA_CTRL_STORE_WR_EN 0 1).setF .DMA_CH_CFG_SIZE_LOG2 0 3;
      c.setDmaCh 0 ⟨[(0, [2, 64, 0, 64])], none, none⟩), 0, (0, [2, 64, 0, 64]), [], by decide +kernel⟩,
    ⟨(up fun c =>
      let c := ((c.setF .DMA_CH_STATUS_STATE 0 1).setF .DMA_CTRL_STORE_WR_EN 0 1).setF .DMA_CH_CFG_SIZE_LOG2 0 3;
      c.setHost { c.host with reads := [⟨7, 0, 1, 64, 64, []⟩] }), 0, 7, ⟨0, false, List.replicate 64 1, ⟨0, false⟩⟩,
      ⟨7, 0, 1, 64, 64, []⟩, by decide +kernel⟩,
    ⟨(up fun c =>
      let c := ((c.setF .DMA_CH_STATUS_STATE 0 1).setF .DMA_CTRL_STORE_WR_EN 0 1).setF .DMA_CH_CFG_SIZE_LOG2 0 3;
      c.setDmaCh 0 ⟨[], some ⟨0, [0, 64, 0, 0], 0, 0, [], 2, 0⟩, none⟩), 0, ⟨0, [0, 64, 0, 0], 0, 0, [], 2, 0⟩, by
      decide +kernel⟩,
    ⟨(up fun c => let c := c.setB .DMA_CH_CFG_RX_EN 0 true;
      let c := ((c.setF .DMA_CH_STATUS_STATE 0 1).setF .DMA_CTRL_STORE_WR_EN 0 1).setF .DMA_CH_CFG_SIZE_LOG2 0 3;
      let c := c.setDmaCh 0 ⟨[], some ⟨0, [4, 64, 0, 0], 0, 0, [], 0, 0⟩, none⟩; (c.setCls 0 [⟨frame,
      0⟩]).setF .DMA_CH_CFG_RX_EN 0 1), 0, ⟨frame, 0⟩, [], ⟨0, [4, 64, 0, 0], 0, 0, [], 0, 0⟩, by decide +kernel⟩,
    ⟨(up fun c => let c := c.setB .DMA_CH_CFG_RX_EN 0 true;
      let c := ((c.setF .DMA_CH_STATUS_STATE 0 1).setF .DMA_CTRL_STORE_WR_EN 0 1).setF .DMA_CH_CFG_SIZE_LOG2 0 3;
      let c := c.setDmaCh 0 ⟨[], some ⟨0, [4, 64, 0, 0], 0, 0, [], 0, 0⟩, none⟩; (c.setCls 0
      [⟨{ frame with bytes := List.replicate 128 0 }, 0⟩]).setF .DMA_CH_CFG_RX_EN 0 1), 0,
      ⟨{ frame with bytes := List.replicate 128 0 }, 0⟩, [], ⟨0, [4, 64, 0, 0], 0, 0, [], 0, 0⟩, by decide +kernel⟩,
    ⟨(up fun c =>
      let c := ((c.setF .DMA_CH_STATUS_STATE 0 1).setF .DMA_CTRL_STORE_WR_EN 0 1).setF .DMA_CH_CFG_SIZE_LOG2 0 3;
      let c := c.setDmaCh 0 ⟨[], some ⟨0, [65, 128, 0, 0], 0, 0, [], 0, 0⟩, none⟩;
      let c := (c.setF .DMA_CH_CFG_REQ_EN 0 1).setF .DMA_CH_CFG_REQ_LINE 0 63;
      let c := ((c.setF .DMA_REQ_EN 63 1).setF .DMA_REQ_BURST 63 1).setF .DMA_REQ_WM 63 1; c.setRegion 0
      { c.region 0 with valid := true, kind := 3, rings := [(0, ⟨[], [], 0, 64⟩)] }), 0, 63, ⟨0, [65, 128, 0, 0], 0,
      0, [], 0, 0⟩, by decide +kernel⟩⟩

theorem witness_DuoStates :
    (∃ s : State, s.up ∧ s.chip.duoState = 2 ∧ s.chip.duoActive = true ∧ s.chip.duo.unacked ≠ [] ∧ s.chip.duo.leave =
      false ∧ s.chip.ownOk = true ∧ s.chip.reading < 2) ∧
    (∃ s : State, s.up ∧ s.chip.duoState = 2 ∧ s.chip.duoActive = true ∧ s.chip.duo.unacked ≠ [] ∧ s.chip.duo.leave =
      false ∧ s.chip.ownOk = true ∧ s.chip.reading = 2 ∧ s.chip.fld .DUO_CFG_SPLIT_POLICY 0 = 0 ∧ s.chip.secondary =
      false) ∧
    (∃ s : State, s.up ∧ s.chip.duoState = 2 ∧ s.chip.duoActive = true ∧ s.chip.duo.unacked ≠ [] ∧ s.chip.duo.leave =
      false ∧ s.chip.ownOk = true ∧ s.chip.reading = 2 ∧ (s.chip.fld .DUO_CFG_SPLIT_POLICY 0 ≠ 0 ∨ s.chip.secondary =
      true)) ∧
    (∃ s : State, s.up ∧ s.chip.duoState = 2 ∧ s.chip.duoActive = true ∧ s.chip.duo.unacked ≠ [] ∧ s.chip.duo.leave =
      false ∧ s.chip.ownOk = false) ∧
    (∃ s : State, s.up ∧ s.chip.duoState = 2 ∧ s.chip.duoActive = false) ∧
    (∃ s : State, ∃ h : Nat, s.up ∧ s.chip.duoState = 0 ∧ s.chip.reading ≠ 1) ∧
    (∃ s : State, ∃ h : Bool, s.up ∧ s.chip.duoState = 3 ∧ s.chip.duo.fromStep = true ∧ s.chip.duo.window = true ∧
      s.chip.ownOk = true ∧ s.chip.reading ≠ 1) ∧
    (∃ s : State, s.up ∧ s.chip.duoState = 3 ∧ s.chip.duo.fromStep = true ∧ s.chip.ownOk = true ∧ s.chip.reading = 1) ∧
    (∃ s : State, s.up ∧ s.chip.duoState = 3 ∧ s.chip.duo.fromStep = true ∧ s.chip.ownOk = true ∧ s.chip.reading = 2 ∧
      s.chip.fld .DUO_CFG_SPLIT_POLICY 0 = 0 ∧ s.chip.secondary = false) ∧
    (∃ s : State, s.up ∧ s.chip.duoState = 3 ∧ s.chip.duo.fromStep = true ∧ s.chip.ownOk = true ∧ s.chip.reading = 0) ∧
    (∃ s : State, s.up ∧ s.chip.duoState = 3 ∧ s.chip.duo.fromStep = true) ∧
    (∃ s : State, s.up ∧ s.chip.duoState = 4) ∧
    (∃ s : State, s.up ∧ s.chip.duo.soleStop = true) ∧
    (∃ s : State, s.up ∧ s.chip.duoState = 1) ∧
    (∃ s : State, ∃ q : PeerInfo, s.up ∧ q.asks = true ∧ s.chip.is .DUO_CFG_ENABLE 0 = true ∧ s.chip.duoState = 0 ∧
      s.chip.link 248 = 3 ∧ s.chip.cannotJoin q = false ∧ s.chip.anyClaim = false ∧ q.claims = false ∧
      s.chip.duo.asked = none) ∧
    (∃ s : State, ∃ q : PeerInfo, s.up ∧ q.asks = true ∧ s.chip.is .DUO_CFG_ENABLE 0 = true ∧ s.chip.duoState = 0 ∧
      s.chip.link 248 = 3 ∧ (s.chip.cannotJoin q = true ∨ s.chip.anyClaim = true ∨ q.claims = true)) :=
  ⟨⟨(up fun c => let c := c.setF .DUO_STATUS_STATE 0 2; let c := { c with duo := { c.duo with leave := false } };
      let c := c.setDuo { c.duo with unacked := [3] }; let c := c.setF .TIME_STATUS_REF_OK 0 1;
      let c := (c.setF .DUO_STATUS_STATE 0 2).setF .DUO_STATUS_ROLE 0 0; let c := c.setF .DUO_STATUS_PEER_PINS 0 1;
      c.setFlt { c.flt with aliveStall := false }), by decide +kernel⟩,
    ⟨(up fun c => let c := c.setF .DUO_STATUS_STATE 0 2; let c := { c with duo := { c.duo with leave := false } };
      let c := c.setDuo { c.duo with unacked := [3] }; let c := c.setF .TIME_STATUS_REF_OK 0 1;
      let c := (c.setF .DUO_STATUS_STATE 0 2).setF .DUO_STATUS_ROLE 0 0; let c := c.setF .DUO_STATUS_PEER_PINS 0 2;
      c.setFlt { c.flt with aliveStall := false }), by decide +kernel⟩,
    ⟨(up fun c => let c := c.setF .DUO_STATUS_STATE 0 2; let c := { c with duo := { c.duo with leave := false } };
      let c := c.setDuo { c.duo with unacked := [3] }; let c := c.setF .TIME_STATUS_REF_OK 0 1;
      let c := (c.setF .DUO_STATUS_STATE 0 2).setF .DUO_STATUS_ROLE 0 0; let c := c.setF .DUO_STATUS_PEER_PINS 0 2;
      let c := c.setF .PWR_STRAPS_DUO_RANK 0 1; c.setFlt { c.flt with aliveStall := false }), by decide +kernel⟩,
    ⟨(up fun c => let c := c.setF .DUO_STATUS_STATE 0 2; let c := { c with duo := { c.duo with leave := false } };
      let c := c.setDuo { c.duo with unacked := [3] }; let c := c.setF .TIME_STATUS_REF_OK 0 1;
      let c := (c.setF .DUO_STATUS_STATE 0 2).setF .DUO_STATUS_ROLE 0 0; let c := c.setF .DUO_STATUS_PEER_PINS 0 2;
      c.setF .TIME_STATUS_REF_OK 0 0), by decide +kernel⟩,
    ⟨(up fun c => let c := c.setF .DUO_STATUS_STATE 0 2; c.setF .DUO_STATUS_ROLE 0 1), by decide +kernel⟩,
    ⟨(up fun c => c), 0, by decide +kernel⟩,
    ⟨(up fun c => let c := c.setF .DUO_STATUS_STATE 0 3; let c := { c with duo := { c.duo with fromStep := true } };
      let c := { c with duo := { c.duo with window := true } };
      let c := c.setDuo { c.duo with fromStep := true, window := true }; let c := c.setF .TIME_STATUS_REF_OK 0 1;
      let c := c.setF .DUO_STATUS_STATE 0 3; let c := c.setF .DUO_STATUS_PEER_PINS 0 2; c.setFlt
      { c.flt with aliveStall := false }), true, by decide +kernel⟩,
    ⟨(up fun c => let c := c.setF .DUO_STATUS_STATE 0 3; let c := { c with duo := { c.duo with fromStep := true } };
      let c := c.setDuo { c.duo with fromStep := true, window := true }; let c := c.setF .TIME_STATUS_REF_OK 0 1;
      let c := c.setF .DUO_STATUS_STATE 0 3; let c := c.setF .DUO_STATUS_PEER_PINS 0 1; c.setFlt
      { c.flt with aliveStall := false }), by decide +kernel⟩,
    ⟨(up fun c => let c := c.setF .DUO_STATUS_STATE 0 3; let c := { c with duo := { c.duo with fromStep := true } };
      let c := c.setDuo { c.duo with fromStep := true, window := true }; let c := c.setF .TIME_STATUS_REF_OK 0 1;
      let c := c.setF .DUO_STATUS_STATE 0 3; let c := c.setF .DUO_STATUS_PEER_PINS 0 2; c.setFlt
      { c.flt with aliveStall := false }), by decide +kernel⟩,
    ⟨(up fun c => let c := c.setF .DUO_STATUS_STATE 0 3; let c := { c with duo := { c.duo with fromStep := true } };
      let c := c.setDuo { c.duo with fromStep := true, window := true }; let c := c.setF .TIME_STATUS_REF_OK 0 1;
      let c := c.setF .DUO_STATUS_STATE 0 3; let c := c.setF .DUO_STATUS_PEER_PINS 0 0; c.setFlt
      { c.flt with aliveStall := false }), by decide +kernel⟩,
    ⟨(up fun c => let c := c.setF .DUO_STATUS_STATE 0 3; { c with duo := { c.duo with fromStep := true } }), by
      decide +kernel⟩,
    ⟨(up fun c => c.setF .DUO_STATUS_STATE 0 4), by decide +kernel⟩,
    ⟨(up fun c => { c with duo := { c.duo with soleStop := true } }), by decide +kernel⟩,
    ⟨(up fun c => c.setF .DUO_STATUS_STATE 0 1), by decide +kernel⟩,
    ⟨(up fun c => let c := c.setB .DUO_CFG_ENABLE 0 true; c.setF .PORT_STATUS_LINK_STATE 248 3), (⟨9, 3, 2, 4, true,
      0x5120, true, false, true⟩ : PeerInfo), by decide +kernel⟩,
    ⟨(up fun c => let c := c.setB .DUO_CFG_ENABLE 0 true; c.setF .PORT_STATUS_LINK_STATE 248 3), (⟨9, 0, 0, 0, true,
      0x2560, true, true, true⟩ : PeerInfo), by decide +kernel⟩⟩

theorem witness_DuoEpochs :
    (∃ s : State, s.up ∧ s.chip.ticking = true ∧ s.chip.duoState = 2 ∧ s.chip.duoActive = true ∧ s.chip.duo.swapDue =
      false ∧ s.chip.duo.swapEpoch = none) ∧
    (∃ s : State, s.up ∧ s.chip.ticking = true ∧ s.chip.duoState = 1 ∧ s.chip.duoActive = false ∧ s.chip.duo.swapEpoch
      = none ∧ s.chip.duo.caught = true) ∧
    (∃ s : State, s.up ∧ s.chip.ticking = true ∧ s.chip.duoState = 1 ∧ s.chip.duoActive = true ∧ s.chip.duo.swapEpoch
      = none ∧ s.chip.duo.caught = false ∧ s.chip.duo.e0 = none) ∧
    (∃ s : State, s.up ∧ s.chip.ticking = true ∧ s.chip.duoState = 1 ∧ s.chip.duoActive = true ∧ s.chip.duo.swapEpoch
      = none ∧ s.chip.duo.swapDue = false ∧ s.chip.duo.e0.isSome = true ∧ s.chip.duo.caught = false) ∧
    (∃ s : State, s.up ∧ s.chip.ticking = true ∧ s.chip.duoState = 1 ∧ s.chip.duoActive = true ∧ s.chip.duo.swapEpoch
      = none ∧ s.chip.duo.swapDue = false ∧ s.chip.duo.e0.isSome = true ∧ s.chip.duo.caught = true) ∧
    (∃ s : State, ∃ e : Nat, ∃ ns : Nat, s.up ∧ s.chip.duoState = 2 ∧ s.chip.duo.unacked.contains e = true) ∧
    (∃ s : State, ∃ e : Nat, s.up ∧ s.chip.follows = true ∧ s.chip.duoState = 2 ∧ s.chip.link 248 = 3) ∧
    (∃ s : State, ∃ e : Nat, ∃ h : Nat, ∃ n : Nat, ∃ rx : Nat, ∃ gen : Nat, ∃ anchor : Nat, s.up ∧ s.chip.follows =
      true ∧ s.chip.duoState = 2 ∧ s.chip.link 248 = 3 ∧ s.chip.duo.pend = []) ∧
    (∃ s : State, ∃ r : StepRecord, s.up ∧ s.chip.duoState = 1 ∧ s.chip.follows = true ∧ s.chip.link 248 = 3 ∧
      s.chip.fld .DUO_STATUS_JOIN_EPOCH 0 ≠ 3) ∧
    (∃ s : State, ∃ x : PendCopy, ∃ l : List PendCopy, s.up ∧ s.chip.duo.pend = x :: l) ∧
    (∃ s : State, ∃ x : LogRun, ∃ l : List LogRun, s.up ∧ s.chip.duo.log = x :: l) ∧
    (∃ s : State, ∃ d : Nat, s.up ∧ s.chip.duoState = 1 ∧ s.chip.duoActive = true ∧ s.chip.fld .DUO_STATUS_JOIN_EPOCH
      0 = 1) ∧
    (∃ s : State, ∃ d : Nat, s.up ∧ s.chip.duoState = 1 ∧ s.chip.duoActive = true ∧ s.chip.fld .DUO_STATUS_JOIN_EPOCH
      0 = 2) ∧
    (∃ s : State, ∃ l : Nat, s.up ∧ s.chip.duoState = 1 ∧ s.chip.duoActive = true ∧ s.chip.fld .DUO_STATUS_JOIN_EPOCH
      0 = 3) ∧
    (∃ s : State, ∃ d : Nat, s.up ∧ s.chip.duoState = 1 ∧ s.chip.duoActive = false ∧ s.chip.fld .DUO_STATUS_JOIN_EPOCH
      0 = 1) ∧
    (∃ s : State, ∃ d : Nat, s.up ∧ s.chip.duoState = 1 ∧ s.chip.duoActive = false ∧ s.chip.fld .DUO_STATUS_JOIN_EPOCH
      0 = 2 ∧ s.chip.duo.queued = []) ∧
    (∃ s : State, ∃ a : Nat, ∃ b : Nat, s.up ∧ s.chip.duoState = 1 ∧ s.chip.duoActive = false ∧
      s.chip.fld .DUO_STATUS_JOIN_EPOCH 0 = 3 ∧ s.chip.stackBad (stackOf a) = false) :=
  ⟨⟨(up fun c => c.setF .DUO_STATUS_STATE 0 2), by decide +kernel⟩,
    ⟨(up fun c => let c := c.setF .DUO_STATUS_STATE 0 1; let c := { c with duo := { c.duo with caught := true } };
      let c := (c.setF .DUO_STATUS_STATE 0 1).setF .DUO_STATUS_ROLE 0 1; c.setDuo { c.duo with caught := true }), by
      decide +kernel⟩,
    ⟨(up fun c => let c := c.setF .DUO_STATUS_STATE 0 1; let c := { c with duo := { c.duo with caught := false } };
      { c with duo := { c.duo with e0 := none } }), by decide +kernel⟩,
    ⟨(up fun c => let c := c.setF .DUO_STATUS_STATE 0 1; let c := { c with duo := { c.duo with caught := false } };
      let c := (c.setF .DUO_STATUS_STATE 0 1).setF .DUO_STATUS_ROLE 0 0; c.setDuo
      { c.duo with e0 := some c.peerData, caught := false }), by decide +kernel⟩,
    ⟨(up fun c => let c := c.setF .DUO_STATUS_STATE 0 1; let c := { c with duo := { c.duo with caught := true } };
      let c := (c.setF .DUO_STATUS_STATE 0 1).setF .DUO_STATUS_ROLE 0 0; c.setDuo
      { c.duo with e0 := some c.peerData, caught := true }), by decide +kernel⟩,
    ⟨(up fun c => let c := c.setF .DUO_STATUS_STATE 0 2; c.setDuo { c.duo with unacked := [3] }), 3, 0, by
      decide +kernel⟩,
    ⟨(up fun c => let c := c.setF .DUO_STATUS_STATE 0 2; let c := c.setF .PORT_STATUS_LINK_STATE 248 3;
      (c.setF .DUO_STATUS_STATE 0 2).setF .DUO_STATUS_ROLE 0 1), 0, by decide +kernel⟩,
    ⟨(up fun c => let c := c.setF .DUO_STATUS_STATE 0 2; let c := c.setF .PORT_STATUS_LINK_STATE 248 3;
      (c.setF .DUO_STATUS_STATE 0 2).setF .DUO_STATUS_ROLE 0 1), 0, 0, 0, 0, 0, 0, by decide +kernel⟩,
    ⟨(up fun c => let c := c.setF .DUO_STATUS_STATE 0 1; let c := c.setF .PORT_STATUS_LINK_STATE 248 3;
      (c.setF .DUO_STATUS_STATE 0 1).setF .DUO_STATUS_ROLE 0 1), ⟨3, []⟩, by decide +kernel⟩,
    ⟨(up fun c =>
      let c := { c with duo := { c.duo with pend := ⟨frame, ⟨1, Handle.init, []⟩, ⟨0, false⟩, 2, some 0, none, false⟩ :: [] } };
      c.setDuo { c.duo with pend := [⟨frame, ⟨1, Handle.init, []⟩, ⟨0, false⟩, 2, some 0, none, false⟩] }), ⟨frame,
      ⟨1, Handle.init, []⟩, ⟨0, false⟩, 2, some 0, none, false⟩, [], by decide +kernel⟩,
    ⟨(up fun c => let c := { c with duo := { c.duo with log := ⟨1, false, 0, 0, 0, [5], none⟩ :: [] } }; c.setDuo
      { c.duo with log := [⟨1, false, 0, 0, 0, [5], none⟩] }), ⟨1, false, 0, 0, 0, [5], none⟩, [], by decide +kernel⟩,
    ⟨(up fun c => let c := c.setF .DUO_STATUS_STATE 0 1; c.setF .DUO_STATUS_JOIN_EPOCH 0 1), 0, by decide +kernel⟩,
    ⟨(up fun c => let c := c.setF .DUO_STATUS_STATE 0 1; c.setF .DUO_STATUS_JOIN_EPOCH 0 2), 0, by decide +kernel⟩,
    ⟨(up fun c => let c := c.setF .DUO_STATUS_STATE 0 1; c.setF .DUO_STATUS_JOIN_EPOCH 0 3), 0, by decide +kernel⟩,
    ⟨(up fun c => let c := c.setF .DUO_STATUS_STATE 0 1; let c := c.setF .DUO_STATUS_JOIN_EPOCH 0 1;
      (c.setF .DUO_STATUS_STATE 0 1).setF .DUO_STATUS_ROLE 0 1), 0, by decide +kernel⟩,
    ⟨(up fun c => let c := c.setF .DUO_STATUS_STATE 0 1; let c := c.setF .DUO_STATUS_JOIN_EPOCH 0 2;
      (c.setF .DUO_STATUS_STATE 0 1).setF .DUO_STATUS_ROLE 0 1), 0, by decide +kernel⟩,
    ⟨(up fun c => let c := c.setF .DUO_STATUS_STATE 0 1; let c := c.setF .DUO_STATUS_JOIN_EPOCH 0 3;
      (c.setF .DUO_STATUS_STATE 0 1).setF .DUO_STATUS_ROLE 0 1), 0, 0, by decide +kernel⟩⟩

theorem witness_FaultCollector :
    (∃ s : State, ∃ r : Report, s.aonUp ∧ kindListed r.kind = true) ∧
    (∃ s : State, ∃ r : Report, s.aonUp ∧ kindListed r.kind = false) ∧
    (∃ s : State, ∃ r : Report, s.aonUp ∧ s.chip.flt.batch = [r] ∧ s.chip.flt.batchOpen = true ∧ s.chip.pairOf r =
      none ∧ s.chip.flt.pairs.length < 256 ∧ s.chip.duoState = 0 ∧ s.chip.duo.lossAt = none) ∧
    (∃ s : State, ∃ r : Report, s.aonUp ∧ s.chip.flt.batch = [r, r] ∧ s.chip.flt.batchOpen = true ∧ s.chip.pairOf r =
      none ∧ s.chip.flt.pairs.length < 256 ∧ s.chip.flt.pairs = [] ∧ s.chip.duoState = 0 ∧ s.chip.duo.lossAt = none) ∧
    (∃ s : State, ∃ source : Nat, ∃ kind : Nat, ∃ p : Pair, s.aonUp ∧ (s.chip.flt.pairs.find? fun p => p.source ==
      source && p.kind == kind) = some p) ∧
    (∃ s : State, ∃ ms : Nat, s.aonUp ∧ s.chip.fld .FLT_STATUS_STATE 0 = 1 ∧ s.chip.flt.quiet = true ∧
      s.chip.flt.batchOpen = false ∧ s.chip.fatalLive = false ∧ s.chip.duo.window = false ∧ (fun (ms : Nat) =>
      (s.chip.flt.history.filter fun x => decide (ms < x + 1000 * s.chip.fld .FLT_CFG_WINDOW_S 0)).length) ms <
      s.chip.fld .FLT_CFG_LIMIT 0) ∧
    (∃ s : State, ∃ ms : Nat, s.aonUp ∧ s.chip.fld .FLT_STATUS_STATE 0 = 1 ∧ s.chip.flt.quiet = true ∧
      s.chip.flt.batchOpen = false ∧ s.chip.fatalLive = false ∧ s.chip.duo.window = false ∧ s.chip.fld .FLT_CFG_LIMIT
      0 ≤ (fun (ms : Nat) => (s.chip.flt.history.filter fun x => decide (ms < x + 1000 * s.chip.fld .FLT_CFG_WINDOW_S
      0)).length) ms) ∧
    (∃ s : State, ∃ ms : Nat, s.aonUp ∧ s.chip.fld .FLT_STATUS_STATE 0 = 1 ∧ s.chip.flt.quiet = true ∧
      s.chip.fatalLive = true) ∧
    (∃ s : State, ∃ ms : Nat, s.aonUp ∧ s.chip.fld .FLT_STATUS_STATE 0 = 1 ∧ s.chip.flt.due = true ∧ s.chip.flt.quiet
      = false ∧ s.chip.flt.batchOpen = false ∧ s.chip.fatalLive = false ∧ s.chip.duo.window = false ∧ (fun (ms : Nat)
      => (s.chip.flt.history.filter fun x => decide (ms < x + 1000 * s.chip.fld .FLT_CFG_WINDOW_S 0)).length) ms <
      s.chip.fld .FLT_CFG_LIMIT 0) ∧
    (∃ s : State, s.aonUp ∧ s.chip.flt.aliveStall = false ∧ s.chip.mbx.act = none ∧ s.chip.frozen = false ∧
      s.chip.duoState = 0 ∧ s.chip.duo.lossAt = none) ∧
    (∃ s : State, s.aonUp ∧ s.chip.frozen = false ∧ s.chip.beats = true ∧ s.chip.duo.asked = none ∧ s.chip.duo.window
      = false) ∧
    (∃ s : State, s.aonUp ∧ s.chip.aliveRuns = true) ∧
    (∃ s : State, s.aonUp ∧ s.chip.aliveRuns = false) ∧
    (∃ s : State, ∃ src : Src, ∃ data : Nat, s.aonUp ∧ s.chip.reaches src .FLT = true) :=
  ⟨⟨(up fun c => c), (⟨0xC000, 0x601, 0, false⟩ : Report), by decide +kernel⟩,
    ⟨(up fun c => c), (⟨0xC000, 0x6FF, 0, false⟩ : Report), by decide +kernel⟩,
    ⟨(up fun c => let c := { c with flt := { c.flt with batch := [(⟨0xC000, 0x601, 0, false⟩ : Report)] } };
      let c := { c with flt := { c.flt with batchOpen := true } };
      let c := c.setFlt { c.flt with batchOpen := true, batch := [(⟨0xC000, 0x601, 0, false⟩ : Report)] };
      c.setF .DUO_STATUS_STATE 0 0), (⟨0xC000, 0x601, 0, false⟩ : Report), by decide +kernel⟩,
    ⟨(up fun c =>
      let c := { c with flt := { c.flt with batch := [(⟨0xC000, 0x601, 0, false⟩ : Report), (⟨0xC000, 0x601, 0, false⟩ : Report)] } };
      let c := { c with flt := { c.flt with batchOpen := true } };
      let c := c.setFlt { c.flt with batchOpen := true, batch := [(⟨0xC000, 0x601, 0, false⟩ : Report), (⟨0xC000, 0x601, 0, false⟩ : Report)] };
      c.setF .DUO_STATUS_STATE 0 0), (⟨0xC000, 0x601, 0, false⟩ : Report), by decide +kernel⟩,
    ⟨(up fun c => c.setFlt { c.flt with pairs := [⟨0xC000, 0x601, 1, 0, 3⟩] }), 0xC000, 0x601, ⟨0xC000, 0x601, 1, 0,
      3⟩, by decide +kernel⟩,
    ⟨(up fun c => let c := c.setF .FLT_STATUS_STATE 0 1; let c := { c with flt := { c.flt with quiet := true } };
      let c := { c with duo := { c.duo with window := false } }; let c := c.setF .TIME_STATUS_REF_OK 0 1;
      c.setF .FLT_CFG_LIMIT 0 1), 5, by decide +kernel⟩,
    ⟨(up fun c => let c := c.setF .FLT_STATUS_STATE 0 1; let c := { c with flt := { c.flt with quiet := true } };
      let c := { c with duo := { c.duo with window := false } }; let c := c.setF .TIME_STATUS_REF_OK 0 1;
      let c := c.setFlt { c.flt with history := [5] }; let c := c.setF .FLT_CFG_LIMIT 0 1; c.setF .FLT_CFG_WINDOW_S 0
      1), 5, by decide +kernel⟩,
    ⟨(up fun c => let c := c.setF .FLT_STATUS_STATE 0 1; { c with flt := { c.flt with quiet := true } }), 0, by
      decide +kernel⟩,
    ⟨(up fun c => let c := c.setF .FLT_STATUS_STATE 0 1; let c := { c with flt := { c.flt with due := true } };
      let c := { c with duo := { c.duo with window := false } }; let c := c.setF .TIME_STATUS_REF_OK 0 1;
      c.setF .FLT_CFG_LIMIT 0 1), 5, by decide +kernel⟩,
    ⟨(up fun c => { c with flt := { c.flt with aliveStall := false } }), by decide +kernel⟩,
    ⟨(up fun c => { c with duo := { c.duo with window := false } }), by decide +kernel⟩,
    ⟨(up fun c => c.setFlt { c.flt with aliveStall := false }), by decide +kernel⟩,
    ⟨(up fun c => c), by decide +kernel⟩,
    ⟨(up fun c => c), .host, 0, by decide +kernel⟩⟩

theorem witness_SaffronRecord :
    (∃ s : State, ∃ r : SaffRec, ∃ l : List SaffRec, s.aonUp ∧ s.chip.flt.queue = r :: l ∧ (r.sect ≠ 5 ∨ r.typ ≠ 2) ∧
      r.sect < 6 ∧ s.mram.sects.length = 6) ∧
    (∃ s : State, ∃ r : SaffRec, ∃ l : List SaffRec, ∃ k : Nat, s.aonUp ∧ s.chip.flt.queue = r :: l ∧ (r.sect ≠ 5 ∨
      r.typ ≠ 2) ∧ r.sect < 6 ∧ s.mram.sects.length = 6 ∧ 0 < k ∧ k < sectCap r.sect ∧ r.tellsFail = false ∧ ((if
      r.tellsFail then s.mram.skipFailing r.sect else s.mram).sect r.sect).place < sectCap r.sect) ∧
    (∃ s : State, ∃ r : SaffRec, ∃ l : List SaffRec, s.aonUp ∧ s.chip.flt.queue = r :: l ∧ r.sect = 5 ∧ r.typ = 2 ∧
      s.mram.permanent < 256) ∧
    (∃ s : State, ∃ src : Src, ∃ data : Nat, s.aonUp ∧ s.chip.reaches src .SAFF = true ∧ bits data 50 48 ≤ 5) ∧
    (∃ s : State, ∃ src : Src, ∃ data : Nat, s.aonUp ∧ s.chip.reaches src .SAFF = true ∧ 5 < bits data 50 48) ∧
    (∃ s : State, s.aonUp ∧ s.chip.flt.queue.length < 256 ∧ s.chip.flt.life.length = 11) :=
  ⟨⟨(up fun c =>
      let c := { c with flt := { c.flt with queue := (⟨5, 1, 0, true, false, 0, 0, [], false⟩ : SaffRec) :: [] } };
      c.setFlt { c.flt with queue := [(⟨5, 1, 0, true, false, 0, 0, [], false⟩ : SaffRec)] }), (⟨5, 1, 0, true, false,
      0, 0, [], false⟩ : SaffRec), [], by decide +kernel⟩,
    ⟨(up fun c =>
      let c := { c with flt := { c.flt with queue := (⟨0, 2, 0, true, false, 0, 0, [], false⟩ : SaffRec) :: [] } };
      c.setFlt { c.flt with queue := [(⟨0, 2, 0, true, false, 0, 0, [], false⟩ : SaffRec)] }), (⟨0, 2, 0, true, false,
      0, 0, [], false⟩ : SaffRec), [], 1, by decide +kernel⟩,
    ⟨(up fun c =>
      let c := { c with flt := { c.flt with queue := (⟨5, 2, 0, true, false, 0, 0, [], false⟩ : SaffRec) :: [] } };
      c.setFlt { c.flt with queue := [(⟨5, 2, 0, true, false, 0, 0, [], false⟩ : SaffRec)] }), (⟨5, 2, 0, true, false,
      0, 0, [], false⟩ : SaffRec), [], by decide +kernel⟩,
    ⟨(up fun c => c), .host, 0, by decide +kernel⟩,
    ⟨(up fun c => c), .host, (6 * 2 ^ 48), by decide +kernel⟩,
    ⟨(up fun c => c), by decide +kernel⟩⟩

theorem witness_MailboxSlots :
    (∃ s : State, ∃ src : Src, ∃ data : Nat, ∃ i : Instr, s.up ∧ s.chip.mbx.slots.length = 8 ∧ s.chip.admits src .MBX
      ∧ i ∈ [Instr.mbxPost src data, .mbxRelease src data]) ∧
    (∃ s : State, s.chip.duo.asked = none ∧ (s.chip.serving = false ∨ s.chip.mbx.order = [])) ∧
    (∃ s : State, ∃ i : Nat, ∃ l : List Nat, ∃ op : Nat, ∃ r : Req, s.chip.mbx.order = i :: l ∧ ¬ i ∈ l ∧
      s.chip.serving = true ∧ s.chip.mbx.fened = .up ∧ s.chip.mbx.slots.length = 8 ∧ i < 8 ∧ s.chip.duo.asked = none ∧
      s.chip.dbg.latchMbx = false ∧ findCmd op = none ∧ r.slot = i ∧ r.wf = true ∧ r.timed = false ∧ r.lateOk = false
      ∧ op < 2 ^ 16 ∧ (s.chip.slot i).buf = reqBytes r op) ∧
    (∃ s : State, ∃ i : Nat, ∃ l : List Nat, ∃ r : Req, s.chip.mbx.order = i :: l ∧ ¬ i ∈ l ∧ s.chip.serving = true ∧
      s.chip.mbx.fened = .up ∧ s.chip.mbx.slots.length = 8 ∧ i < 8 ∧ s.chip.duo.asked = none ∧ s.chip.dbg.latchMbx =
      false ∧ r.slot = i ∧ r.wf = true ∧ r.timed = false ∧ r.lateOk = false ∧ r.params = [] ∧ (s.chip.slot i).buf =
      reqBytes r 1) ∧
    (∃ s : State, ∃ i : Nat, s.chip.duo.asked = some i ∧ (s.chip.slot i).st = 2 ∧ i < 8 ∧ s.chip.mbx.slots.length = 8
      ∧ s.chip.mbx.order = []) ∧
    (∃ i : Instr, ∃ k : Cmd, ∃ r : Req, ∃ s : State, rowOf i = some (k, r) ∧ s.chip.mbx.slots.length = 8 ∧ r.slot < 8
      ∧ s.chip.hostServed = false) ∧
    (∃ i : Instr, ∃ k : Cmd, ∃ r : Req, ∃ s : State, rowOf i = some (k, r) ∧ s.chip.mbx.slots.length = 8 ∧ r.slot < 8
      ∧ s.chip.hostServed = true ∧ (s.chip.slot r.slot).st = 0 ∧ (s.chip.slot r.slot).buf.length ≤ 4096 ∧
      s.chip.duo.asked = none ∧ ((∃ j l, s.chip.mbx.order = j :: l ∧ j ≠ r.slot) ∨ (s.chip.mbx.order = [] ∧
      s.chip.serving = false))) ∧
    (∃ i : Instr, ∃ k : Cmd, ∃ r : Req, ∃ s : State, rowOf i = some (k, r) ∧ s.chip.mbx.slots.length = 8 ∧ r.slot < 8
      ∧ s.chip.hostServed = true ∧ (s.chip.slot r.slot).st ≠ 0 ∧ s.chip.mbx.order.head? ≠ some r.slot) :=
  ⟨⟨(own fun c => c), .host, 0, (.mbxPost .host 0), by decide +kernel, by decide +kernel, by decide +kernel, by simp⟩,
    ⟨(up fun c => c), by decide +kernel⟩,
    ⟨(up fun c => let c := { c with mbx := { c.mbx with order := 0 :: [] } }; c.setMbx
      { c.mbx with slots := ⟨1, reqBytes (⟨0, 3, 2, false, false, 7, 0, []⟩ : Req) 0xFFFF⟩ :: List.replicate 7 ⟨0, []⟩, order := [0] }),
      0, [], 0xFFFF, (⟨0, 3, 2, false, false, 7, 0, []⟩ : Req), by decide +kernel⟩,
    ⟨(up fun c => let c := { c with mbx := { c.mbx with order := 0 :: [] } }; c.setMbx
      { c.mbx with slots := ⟨1, reqBytes (⟨0, 3, 2, false, false, 7, 0, []⟩ : Req) 1⟩ :: List.replicate 7 ⟨0, []⟩, order := [0] }),
      0, [], (⟨0, 3, 2, false, false, 7, 0, []⟩ : Req), by decide +kernel⟩,
    ⟨(up fun c => let c := { c with duo := { c.duo with asked := some 0 } };
      let c := c.setDuo { c.duo with asked := some 0 }; c.setMbx
      { c.mbx with slots := ⟨2, []⟩ :: List.replicate 7 ⟨0, []⟩, order := [] }), 0, by decide +kernel⟩,
    ⟨(.identify (⟨0, 3, 2, false, false, 7, 0, []⟩ : Req)), cmdIdentify, (⟨0, 3, 2, false, false, 7, 0, []⟩ : Req),
      (up fun c => c.setB .DBG_STATUS_FREEZE_ACTIVE 0 true), rfl, by decide +kernel⟩,
    ⟨(.identify (⟨0, 3, 2, false, false, 7, 0, []⟩ : Req)), cmdIdentify, (⟨0, 3, 2, false, false, 7, 0, []⟩ : Req),
      (up fun c => c.setMbx { c.mbx with order := [3] }), rfl, by decide +kernel, by decide +kernel, by
      decide +kernel, by decide +kernel, by decide +kernel, by decide +kernel, Or.inl ⟨3, [], by decide +kernel, by
      decide +kernel⟩⟩,
    ⟨(.identify (⟨0, 3, 2, false, false, 7, 0, []⟩ : Req)), cmdIdentify, (⟨0, 3, 2, false, false, 7, 0, []⟩ : Req),
      (up fun c => c.setMbx { c.mbx with slots := ⟨1, []⟩ :: List.replicate 7 ⟨0, []⟩, order := [] }), rfl, by
      decide +kernel⟩⟩

theorem witness_CommandChecks :
    (∃ i : Instr, ∃ k : Cmd, ∃ r : Req, ∃ s : State, rowOf i = some (k, r) ∧ s.idleFor r ∧ r.lateOk = true ∧ r.timed =
      false) ∧
    (∃ i : Instr, ∃ k : Cmd, ∃ r : Req, ∃ s : State, rowOf i = some (k, r) ∧ s.idleFor r ∧ r.timed = true ∧ k.timed =
      false) ∧
    (∃ i : Instr, ∃ k : Cmd, ∃ r : Req, ∃ s : State, rowOf i = some (k, r) ∧ s.idleFor r ∧ r.timed = true ∧ k.timed =
      true ∧ timeOk r.execTime = false) ∧
    (∃ i : Instr, ∃ k : Cmd, ∃ r : Req, ∃ s : State, rowOf i = some (k, r) ∧ s.idleFor r ∧ r.timed = false ∧ r.lateOk
      = false ∧ (¬ ((k.op = 1 ∨ r.filMajor = s.chip.filNow / 256 : Prop)))) ∧
    (∃ i : Instr, ∃ k : Cmd, ∃ r : Req, ∃ s : State, rowOf i = some (k, r) ∧ s.idleFor r ∧ r.timed = false ∧ r.lateOk
      = false ∧ ((k.op = 1 ∨ r.filMajor = s.chip.filNow / 256 : Prop)) ∧ layBeyond (k.lay r.params) r.params = true) ∧
    (∃ i : Instr, ∃ k : Cmd, ∃ r : Req, ∃ s : State, rowOf i = some (k, r) ∧ s.idleFor r ∧ r.timed = false ∧ r.lateOk
      = false ∧ ((k.op = 1 ∨ r.filMajor = s.chip.filNow / 256 : Prop)) ∧ layBeyond (k.lay r.params) r.params = false ∧
      k.accepted.contains s.chip.fenedState = false) ∧
    (∃ i : Instr, ∃ k : Cmd, ∃ r : Req, ∃ s : State, ∃ f : Nat, rowOf i = some (k, r) ∧ s.idleFor r ∧ r.timed = false
      ∧ r.lateOk = false ∧ ((k.op = 1 ∨ r.filMajor = s.chip.filNow / 256 : Prop)) ∧ layBeyond (k.lay r.params)
      r.params = false ∧ k.accepted.contains s.chip.fenedState = true ∧ s.chip.invalidFn (k.acts s.chip r.params) =
      some f) ∧
    (∃ i : Instr, ∃ k : Cmd, ∃ r : Req, ∃ s : State, ∃ d : Nat, rowOf i = some (k, r) ∧ s.idleFor r ∧ r.timed = false
      ∧ r.lateOk = false ∧ ((k.op = 1 ∨ r.filMajor = s.chip.filNow / 256 : Prop)) ∧ layBeyond (k.lay r.params)
      r.params = false ∧ k.accepted.contains s.chip.fenedState = true ∧ s.chip.invalidFn (k.acts s.chip r.params) =
      none ∧ k.bar r.params s = some d) ∧
    (∃ i : Instr, ∃ k : Cmd, ∃ r : Req, ∃ s : State, rowOf i = some (k, r) ∧ s.idleFor r ∧ r.timed = false ∧ r.lateOk
      = false ∧ ((k.op = 1 ∨ r.filMajor = s.chip.filNow / 256 : Prop)) ∧ layBeyond (k.lay r.params) r.params = false ∧
      k.accepted.contains s.chip.fenedState = true ∧ s.chip.invalidFn (k.acts s.chip r.params) = none ∧ k.bar r.params
      s = none ∧ k.decision = true ∧ s.chip.duoActive = false) ∧
    (∃ i : Instr, ∃ k : Cmd, ∃ r : Req, ∃ s : State, ∃ f : Nat, rowOf i = some (k, r) ∧ s.idleFor r ∧ r.timed = false
      ∧ r.lateOk = false ∧ ((k.op = 1 ∨ r.filMajor = s.chip.filNow / 256 : Prop)) ∧ layBeyond (k.lay r.params)
      r.params = false ∧ k.accepted.contains s.chip.fenedState = true ∧ s.chip.invalidFn (k.acts s.chip r.params) =
      none ∧ k.bar r.params s = none ∧ (k.decision = true → s.chip.duoActive = true) ∧ s.chip.claimedFn (k.writes
      s.chip r.params) = some f) ∧
    (∃ i : Instr, ∃ k : Cmd, ∃ r : Req, ∃ s : State, ∃ o : Nat, rowOf i = some (k, r) ∧ s.idleFor r ∧ r.timed = false
      ∧ r.lateOk = false ∧ ((k.op = 1 ∨ r.filMajor = s.chip.filNow / 256 : Prop)) ∧ layBeyond (k.lay r.params)
      r.params = false ∧ k.accepted.contains s.chip.fenedState = true ∧ s.chip.invalidFn (k.acts s.chip r.params) =
      none ∧ k.bar r.params s = none ∧ (k.decision = true → s.chip.duoActive = true) ∧ s.chip.claimedFn (k.writes
      s.chip r.params) = none ∧ layBad (k.lay r.params) r.params = some o) :=
  ⟨⟨(.identify (⟨0, 3, 2, false, true, 7, 0, []⟩ : Req)), cmdIdentify, (⟨0, 3, 2, false, true, 7, 0, []⟩ : Req), (up
      fun c => c), rfl, by decide +kernel⟩,
    ⟨(.identify (⟨0, 3, 2, true, false, 7, 0, []⟩ : Req)), cmdIdentify, (⟨0, 3, 2, true, false, 7, 0, []⟩ : Req), (up
      fun c => c), rfl, by decide +kernel⟩,
    ⟨(.timeSrcSet (⟨0, 3, 2, true, false, 7, (2 ^ 96 - 1), [1, 1, 1]⟩ : Req)), cmdTimeSrcSet, (⟨0, 3, 2, true, false,
      7, (2 ^ 96 - 1), [1, 1, 1]⟩ : Req), (up fun c => c), rfl, by decide +kernel⟩,
    ⟨(.timeLoad (⟨0, 4, 2, false, false, 7, 0, []⟩ : Req)), cmdTimeLoad, (⟨0, 4, 2, false, false, 7, 0, []⟩ : Req),
      (up fun c => c), rfl, by decide +kernel⟩,
    ⟨(.identify (⟨0, 3, 2, false, false, 7, 0, [1]⟩ : Req)), cmdIdentify, (⟨0, 3, 2, false, false, 7, 0, [1]⟩ : Req),
      (up fun c => c), rfl, by decide +kernel⟩,
    ⟨(.timeLoad (⟨0, 3, 2, false, false, 7, 0, List.replicate 16 0⟩ : Req)), cmdTimeLoad, (⟨0, 3, 2, false, false, 7,
      0, List.replicate 16 0⟩ : Req), (up fun c => c.setF .FLT_STATUS_STATE 0 2), rfl, by decide +kernel⟩,
    ⟨(.timeLoad (⟨0, 3, 2, false, false, 7, 0, List.replicate 16 0⟩ : Req)), cmdTimeLoad, (⟨0, 3, 2, false, false, 7,
      0, List.replicate 16 0⟩ : Req), (up fun c => c.setBitF .MBX_CLAIM_INVALID 0 1 true), 1, rfl, by decide +kernel⟩,
    ⟨(.duoSwap (⟨0, 3, 2, false, false, 7, 0, []⟩ : Req)), cmdDuoSwap, (⟨0, 3, 2, false, false, 7, 0, []⟩ : Req), (up
      fun c => c), 0, rfl, by decide +kernel⟩,
    ⟨(.timeLoad (⟨0, 3, 2, false, false, 7, 0, List.replicate 16 0⟩ : Req)), cmdTimeLoad, (⟨0, 3, 2, false, false, 7,
      0, List.replicate 16 0⟩ : Req), (up fun c => c.setF .DUO_STATUS_ROLE 0 1), rfl, by decide +kernel⟩,
    ⟨(.timeLoad (⟨0, 3, 2, false, false, 7, 0, List.replicate 16 0⟩ : Req)), cmdTimeLoad, (⟨0, 3, 2, false, false, 7,
      0, List.replicate 16 0⟩ : Req), (up fun c => c.setBitF .MBX_CLAIM_CLAIMED 0 1 true), 1, rfl, by decide +kernel⟩,
    ⟨(.timeLoad (⟨0, 3, 2, false, false, 7, 0, []⟩ : Req)), cmdTimeLoad, (⟨0, 3, 2, false, false, 7, 0, []⟩ : Req),
      (up fun c => c), 0, rfl, by decide +kernel⟩⟩

theorem witness_TimedAndActivation :
    (∃ i : Instr, ∃ k : Cmd, ∃ r : Req, ∃ s : State, rowOf i = some (k, r) ∧ k.timed = true ∧ s.idleFor r ∧ r.timed =
      true ∧ timeOk r.execTime = true ∧ r.filMajor = s.chip.filNow / 256 ∧ k.fits r.params ∧ s.admits k r ∧ ((k.body
      r.params (s.taken k r)).status = rParam ∨ (k.body r.params (s.taken k r)).status = rNotFound)) ∧
    (∃ i : Instr, ∃ k : Cmd, ∃ r : Req, ∃ s : State, rowOf i = some (k, r) ∧ k.timed = true ∧ s.idleFor r ∧ r.timed =
      true ∧ timeOk r.execTime = true ∧ r.filMajor = s.chip.filNow / 256 ∧ k.fits r.params ∧ s.admits k r ∧ (k.body
      r.params (s.taken k r)).status ≠ rParam ∧ (k.body r.params (s.taken k r)).status ≠ rNotFound ∧ (unpackTime
      r.execTime) ≤ s.chip.now ∧ r.lateOk = false) ∧
    (∃ i : Instr, ∃ k : Cmd, ∃ r : Req, ∃ s : State, rowOf i = some (k, r) ∧ k.timed = true ∧ s.idleFor r ∧ r.timed =
      true ∧ timeOk r.execTime = true ∧ r.filMajor = s.chip.filNow / 256 ∧ k.fits r.params ∧ s.admits k r ∧ (k.body
      r.params (s.taken k r)).status ≠ rParam ∧ (k.body r.params (s.taken k r)).status ≠ rNotFound ∧ s.chip.now +
      86400 * secT < (unpackTime r.execTime)) ∧
    (∃ i : Instr, ∃ k : Cmd, ∃ r : Req, ∃ s : State, rowOf i = some (k, r) ∧ k.timed = true ∧ s.idleFor r ∧ r.timed =
      true ∧ timeOk r.execTime = true ∧ r.filMajor = s.chip.filNow / 256 ∧ k.fits r.params ∧ s.admits k r ∧ (k.body
      r.params (s.taken k r)).status ≠ rParam ∧ (k.body r.params (s.taken k r)).status ≠ rNotFound ∧ s.chip.now <
      (unpackTime r.execTime) ∧ (unpackTime r.execTime) ≤ s.chip.now + 86400 * secT ∧ 256 ≤ s.chip.mbx.timed.length) ∧
    (∃ i : Instr, ∃ k : Cmd, ∃ r : Req, ∃ s : State, rowOf i = some (k, r) ∧ k.timed = true ∧ s.idleFor r ∧ r.timed =
      true ∧ timeOk r.execTime = true ∧ r.filMajor = s.chip.filNow / 256 ∧ k.fits r.params ∧ s.admits k r ∧ (k.body
      r.params (s.taken k r)).status ≠ rParam ∧ (k.body r.params (s.taken k r)).status ≠ rNotFound ∧ s.chip.now <
      (unpackTime r.execTime) ∧ (unpackTime r.execTime) ≤ s.chip.now + 86400 * secT ∧ s.chip.mbx.timed.length < 256) ∧
    (∃ s : State, s.up ∧ s.chip.timedOrder = []) ∧
    (∃ s : State, ∃ t0 : Timed, ∃ l : List Timed, s.up ∧ s.chip.timedOrder = t0 :: l ∧ (s.chip.ticking = false ∨
      s.chip.reached t0.at_ = false)) ∧
    (∃ s : State, ∃ t0 : Timed, ∃ l : List Timed, s.up ∧ s.chip.timedOrder = t0 :: l ∧ s.chip.ticking = true ∧
      s.chip.reached t0.at_ = true ∧ s.chip.fenedRuns = true ∧ t0.opcode = 0x4005 ∧ t0.params.length = 3 ∧ pn
      t0.params 0 1 ≤ 8 ∧ pn t0.params 1 1 ≤ 1 ∧ pn t0.params 2 1 ≤ 15 ∧ cmdTimeSrcSet.accepted.contains
      s.chip.fenedState = true ∧ s.chip.bitF .MBX_CLAIM_INVALID 0 1 = false) ∧
    (∃ s : State, ∃ a : Activation, s.up ∧ s.chip.frozen = false ∧ s.chip.mbx.act = some a ∧ a.loaded = false ∧
      s.chip.slotReason (s.chip.fwSlot a.slot) = 0 ∧ s.chip.requested 40 = true) ∧
    (∃ s : State, ∃ a : Activation, ∃ ok : Bool, s.up ∧ s.chip.frozen = false ∧ s.chip.mbx.act = some a ∧ a.loaded =
      false ∧ a.fellBack = false ∧ s.chip.slotReason (s.chip.fwSlot a.slot) ≠ 0) ∧
    (∃ s : State, ∃ a : Activation, s.up ∧ s.chip.frozen = false ∧ s.chip.mbx.act = some a ∧ a.loaded = true) ∧
    (∃ s : State, ∃ a : Activation, s.up ∧ s.chip.frozen = false ∧ s.chip.mbx.act = some a ∧ a.loaded = false) ∧
    (∃ s : State, ∃ a : Activation, s.up ∧ s.chip.frozen = false ∧ s.chip.mbx.act = some a ∧ a.fellBack = false ∧
      s.chip.duoState = 0 ∧ s.chip.duo.lossAt = none) ∧
    (∃ s : State, ∃ a : Activation, s.up ∧ s.chip.frozen = false ∧ s.chip.mbx.act = some a ∧ a.fellBack = true) :=
  ⟨⟨(.timeSrcSet (⟨0, 3, 2, true, false, 7, (packTime (nsT 2000)), [9, 0, 0]⟩ : Req)), cmdTimeSrcSet, (⟨0, 3, 2,
      true, false, 7, (packTime (nsT 2000)), [9, 0, 0]⟩ : Req), (up fun c => c), rfl, by decide +kernel⟩,
    ⟨(.timeSrcSet (⟨0, 3, 2, true, false, 7, (packTime (nsT 1000)), [8, 0, 0]⟩ : Req)), cmdTimeSrcSet, (⟨0, 3, 2,
      true, false, 7, (packTime (nsT 1000)), [8, 0, 0]⟩ : Req), (up fun c => c.setRaw (nsT 1000 * 65536)), rfl, by
      decide +kernel⟩,
    ⟨(.timeSrcSet (⟨0, 3, 2, true, false, 7, (packTime (secT * 86401)), [8, 0, 0]⟩ : Req)), cmdTimeSrcSet, (⟨0, 3, 2,
      true, false, 7, (packTime (secT * 86401)), [8, 0, 0]⟩ : Req), (up fun c => c), rfl, by decide +kernel⟩,
    ⟨(.timeSrcSet (⟨0, 3, 2, true, false, 7, (packTime secT), [8, 0, 0]⟩ : Req)), cmdTimeSrcSet, (⟨0, 3, 2, true,
      false, 7, (packTime secT), [8, 0, 0]⟩ : Req), (up fun c => c.setMbx
      { c.mbx with timed := List.replicate 256 ⟨0, 0, 0, []⟩ }), rfl, by decide +kernel⟩,
    ⟨(.timeSrcSet (⟨0, 3, 2, true, false, 7, (packTime (secT * 86400)), [8, 0, 0]⟩ : Req)), cmdTimeSrcSet, (⟨0, 3, 2,
      true, false, 7, (packTime (secT * 86400)), [8, 0, 0]⟩ : Req), (up fun c => c), rfl, by decide +kernel⟩,
    ⟨(up fun c => c), by decide +kernel⟩,
    ⟨(up fun c => let c := c.setRaw (nsT 1000 * 65536); c.setMbx
      { c.mbx with timed := [⟨5, 0x4005, nsT 2000, [8, 1, 15]⟩] }), ⟨5, 0x4005, nsT 2000, [8, 1, 15]⟩, [], by
      decide +kernel⟩,
    ⟨(up fun c => let c := c.setRaw (nsT 1000 * 65536); c.setMbx
      { c.mbx with timed := [⟨5, 0x4005, nsT 1000, [8, 1, 15]⟩] }), ⟨5, 0x4005, nsT 1000, [8, 1, 15]⟩, [], by
      decide +kernel⟩,
    ⟨(up fun c => let c := { c with mbx := { c.mbx with act := some ⟨1, 0, false, false⟩ } };
      let c := c.setMbx { c.mbx with act := some ⟨1, 0, false, false⟩ }; let c := c; c.setBitF .PWR_DOMAIN_CTRL_REQ 0
      40 true), ⟨1, 0, false, false⟩, by decide +kernel⟩,
    ⟨(up fun c => let c := { c with mbx := { c.mbx with act := some ⟨1, 0, false, false⟩ } };
      let c := c.setMbx { c.mbx with act := some ⟨1, 0, false, false⟩ }; c.setMbx
      { c.mbx with fwB := ⟨[], [], 0, 0⟩ }), ⟨1, 0, false, false⟩, true, by decide +kernel⟩,
    ⟨(up fun c => let c := { c with mbx := { c.mbx with act := some ⟨1, 0, true, false⟩ } };
      let c := c.setMbx { c.mbx with act := some ⟨1, 0, true, false⟩ }; c), ⟨1, 0, true, false⟩, by decide +kernel⟩,
    ⟨(up fun c => let c := { c with mbx := { c.mbx with act := some ⟨1, 0, false, false⟩ } };
      let c := c.setMbx { c.mbx with act := some ⟨1, 0, false, false⟩ }; c), ⟨1, 0, false, false⟩, by decide +kernel⟩,
    ⟨(up fun c => let c := { c with mbx := { c.mbx with act := some ⟨1, 0, true, false⟩ } };
      let c := c.setMbx { c.mbx with act := some ⟨1, 0, true, false⟩ }; c), ⟨1, 0, true, false⟩, by decide +kernel⟩,
    ⟨(up fun c => let c := { c with mbx := { c.mbx with act := some ⟨1, 0, true, true⟩ } };
      let c := c.setMbx { c.mbx with act := some ⟨1, 0, true, true⟩ }; c), ⟨1, 0, true, true⟩, by decide +kernel⟩⟩

theorem witness_StoreStaysCanonical :
    ∃ s t : State, s.safe ∧ step s = .next t :=
  ⟨{ ready with mem := [(0, 1)], pending := [.hostAperBaseWrite .host 0] }, _, by unfold State.safe; decide +kernel,
    rfl⟩

theorem witness_PermanentRecordsStay :
    ∃ s t : State, step s = .next t ∧ s.mram.fits :=
  ⟨ready.withPending [.saffRecordWrite 0], _, rfl, reset_fits⟩

theorem witness_QueriesTell :
    (∃ s : State, ∃ r : Req, s.takes cmdIdentify r) ∧
    (∃ s : State, ∃ r : Req, s.takes cmdGetState r) ∧
    (∃ s : State, ∃ r : Req, s.takes cmdListTimed r) ∧
    (∃ s : State, ∃ r : Req, s.takes cmdFwQuery r) ∧
    (∃ s : State, ∃ r : Req, s.takes cmdSaffInfo r) ∧
    (∃ s : State, ∃ r : Req, s.takes cmdSaffRead r ∧ (pn r.params 0 1 ≤ 5 ∧ 1 ≤ pn r.params 8 1 ∧ pn r.params 8 1 ≤
      63)) ∧
    (∃ s : State, ∃ r : Req, s.takes cmdTimeGet r) ∧
    (∃ s : State, ∃ r : Req, s.takes cmdTimeSrcGet r ∧ (pn r.params 0 1 ≤ 8)) ∧
    (∃ s : State, ∃ r : Req, ∃ x : PtpInst, s.takes cmdPtpInstGet r ∧ kFind s.chip.time.inst (pn r.params 0 1) = some
      x ∧ pn r.params 0 1 < 8) ∧
    (∃ s : State, ∃ r : Req, s.takes cmdPortGet r ∧ (s.chip.portValid (pn r.params 0 1) = true)) ∧
    (∃ s : State, ∃ r : Req, s.takes cmdPortGroupGet r ∧ (s.chip.populated (pn r.params 0 1) = true)) ∧
    (∃ s : State, ∃ r : Req, ∃ h : Nat, s.takes cmdKeyLookup r ∧ s.chip.keyPortBad (pn r.params 0 56) = false ∧
      s.chip.findKey (s.chip.normKey (keyOf (pn r.params 0 56))) = some h) ∧
    (∃ s : State, ∃ r : Req, s.takes cmdStreamGet r ∧ (pn r.params 0 4 < 65536 ∧ (s.chip.handle (pn r.params 0
      4)).valid = true ∧ (pn r.params 4 1 ≤ 3 ∨ pn r.params 4 1 = 0xFF))) ∧
    (∃ s : State, ∃ r : Req, s.takes cmdStrmUsageGet r) ∧
    (∃ s : State, ∃ r : Req, s.takes cmdPortStrmCntGet r ∧ (s.chip.portValid (pn r.params 0 1) = true)) ∧
    (∃ s : State, ∃ r : Req, s.takes cmdBerthGet r) ∧
    (∃ s : State, ∃ r : Req, s.takes cmdTideGet r ∧ (s.chip.portValid (pn r.params 0 1) = true)) ∧
    (∃ s : State, ∃ r : Req, s.takes cmdTideRead r ∧ (s.chip.portValid (pn r.params 0 1) = true ∧ pn r.params 1 1 ≤ 1
      ∧ 1 ≤ pn r.params 4 2 ∧ pn r.params 4 2 ≤ 500 ∧ pn r.params 2 2 + pn r.params 4 2 ≤ 1024)) ∧
    (∃ s : State, ∃ r : Req, s.takes cmdBrkwGet r) ∧
    (∃ s : State, ∃ r : Req, s.takes cmdBrkwPathGet r ∧ (pn r.params 2 1 ≤ 7)) ∧
    (∃ s : State, ∃ r : Req, s.takes cmdBrkwPoolGet r) ∧
    (∃ s : State, ∃ r : Req, s.takes cmdRegionGet r ∧ (pn r.params 0 4 < 131072 ∧ (s.chip.region (pn r.params 0
      4)).valid = true)) ∧
    (∃ s : State, ∃ r : Req, s.takes cmdReplayGet r ∧ (pn r.params 0 2 < 1024)) ∧
    (∃ s : State, ∃ r : Req, s.takes cmdStoreGet r) ∧
    (∃ s : State, ∃ r : Req, s.takes cmdPagemapGet r ∧ (pn r.params 0 4 < 131072 ∧ (s.chip.region (pn r.params 0
      4)).valid = true ∧ 1 ≤ pn r.params 8 2 ∧ pn r.params 8 2 ≤ 160)) ∧
    (∃ s : State, ∃ r : Req, s.takes cmdSpillGet r ∧ (pn r.params 0 1 ≤ 1)) ∧
    (∃ s : State, ∃ r : Req, s.takes cmdDuoGet r) ∧
    (∃ s : State, ∃ r : Req, s.takes cmdFltGet r) ∧
    (∃ s : State, ∃ r : Req, s.takes cmdFltLogRead r ∧ (1 ≤ pn r.params 4 2 ∧ pn r.params 4 2 ≤ 252)) ∧
    (∃ s : State, ∃ r : Req, s.takes cmdPwrGet r) ∧
    (∃ s : State, ∃ r : Req, s.takes cmdCoreGet r) ∧
    (∃ s : State, ∃ r : Req, s.takes cmdCaptureRead r ∧ (pn r.params 0 4 % 8 = 0 ∧ pn r.params 4 2 % 8 = 0 ∧ 8 ≤ pn
      r.params 4 2 ∧ pn r.params 4 2 ≤ 4032 ∧ pn r.params 0 4 + pn r.params 4 2 ≤ s.chip.capLen)) :=
  ⟨⟨(up fun c => c), (req 0 (layOut 0 [])), by decide +kernel⟩,
    ⟨(up fun c => c), (req 0 (layOut 0 [])), by decide +kernel⟩,
    ⟨(up fun c => c), (req 0 (layOut 2 [])), by decide +kernel⟩,
    ⟨(up fun c => c), (req 0 (layOut 0 [])), by decide +kernel⟩,
    ⟨(up fun c => c), (req 0 (layOut 0 [])), by decide +kernel⟩,
    ⟨(up fun c => c), (req 0 (layOut 9 [(0, 1, 5), (8, 1, 63)])), by decide +kernel⟩,
    ⟨(up fun c => c), (req 0 (layOut 0 [])), by decide +kernel⟩,
    ⟨(up fun c => c), (req 0 (layOut 1 [])), by decide +kernel⟩,
    ⟨(up fun c => c.setTime
      { c.time with inst := [(0, ⟨[0, 0, 0, 0, 0, 0, 0, 0, 0, 0, 0, 0, 0, 0, 0, 0, 1] ++ List.replicate 31 0, 0, 0, 0, 6, [(0, 2)], []⟩)] }),
      (req 0 (layOut 1 [])), ⟨[0, 0, 0, 0, 0, 0, 0, 0, 0, 0, 0, 0, 0, 0, 0, 0, 1] ++ List.replicate 31 0, 0, 0, 0, 6,
      [(0, 2)], []⟩, by decide +kernel⟩,
    ⟨(up fun c => c), (req 0 (layOut 1 [])), by decide +kernel⟩,
    ⟨(up fun c => c), (req 0 (layOut 1 [])), by decide +kernel⟩,
    ⟨(up fun c => c.setStrm { c.strm with keys := [(c.normKey (keyOf 0), 7)] }), (req 0 (layOut 56 [])), 7, by
      decide +kernel⟩,
    ⟨(up fun c => c.setHandle 0 { c.handle 0 with valid := true }), (req 0 (layOut 5 [(4, 1, 255)])), by
      decide +kernel⟩,
    ⟨(up fun c => c), (req 0 (layOut 0 [])), by decide +kernel⟩,
    ⟨(up fun c => c), (req 0 (layOut 1 [])), by decide +kernel⟩,
    ⟨(up fun c => c), (req 0 (layOut 2 [])), by decide +kernel⟩,
    ⟨(up fun c => c), (req 0 (layOut 1 [])), by decide +kernel⟩,
    ⟨(up fun c => c), (req 0 (layOut 6 [(4, 2, 500)])), by decide +kernel⟩,
    ⟨(up fun c => c), (req 0 (layOut 2 [])), by decide +kernel⟩,
    ⟨(up fun c => c), (req 0 (layOut 3 [])), by decide +kernel⟩,
    ⟨(up fun c => c), (req 0 (layOut 0 [])), by decide +kernel⟩,
    ⟨(up fun c => c.setRegion 131071 { c.region 131071 with valid := true, kind := 1 }), (req 0 (layOut 4 [(0, 4,
      131071)])), by decide +kernel⟩,
    ⟨(up fun c => c), (req 0 (layOut 2 [])), by decide +kernel⟩,
    ⟨(up fun c => c), (req 0 (layOut 0 [])), by decide +kernel⟩,
    ⟨(up fun c => c.setRegion 0 { c.region 0 with valid := true, kind := 3 }), (req 0 (layOut 10 [(8, 2, 160)])), by
      decide +kernel⟩,
    ⟨(up fun c => c), (req 0 (layOut 1 [])), by decide +kernel⟩,
    ⟨(up fun c => c), (req 0 (layOut 0 [])), by decide +kernel⟩,
    ⟨(up fun c => c), (req 0 (layOut 0 [])), by decide +kernel⟩,
    ⟨(up fun c => c), (req 0 (layOut 6 [(4, 2, 252)])), by decide +kernel⟩,
    ⟨(up fun c => c), (req 0 (layOut 0 [])), by decide +kernel⟩,
    ⟨(up fun c => c), (req 0 (layOut 0 [])), by decide +kernel⟩,
    ⟨(up fun c => let c := c.setB .DBG_STATUS_CAPTURE_HELD 0 true; c.setF .DBG_STATUS_CAP_LINES 0 2), (req 0 (layOut 6
      [(0, 4, 120), (4, 2, 8)])), by decide +kernel⟩⟩

theorem witness_SystemCommands :
    (∃ s : State, ∃ r : Req, s.takes cmdReset r ∧ (pn r.params 0 1 = 0 ∧ pn r.params 4 4 = 0 ∧
      s.chip.fld .FLT_STATUS_STATE 0 ≠ 2)) ∧
    (∃ s : State, ∃ r : Req, s.takes cmdReset r ∧ (pn r.params 0 1 = 0 ∧ pn r.params 4 4 = 0 ∧
      s.chip.fld .FLT_STATUS_STATE 0 = 2 ∧ s.chip.duo.window = false)) ∧
    (∃ s : State, ∃ r : Req, s.takes cmdReset r ∧ (pn r.params 0 1 = 1 ∧ pn r.params 4 4 = 0)) ∧
    (∃ s : State, ∃ r : Req, s.takes cmdReset r ∧ (pn r.params 0 1 = 2 ∧ pn r.params 4 4 = 0x52535431)) ∧
    (∃ s : State, ∃ r : Req, s.takes cmdReset r ∧ (2 < pn r.params 0 1)) ∧
    (∃ s : State, ∃ r : Req, s.takes cmdReset r ∧ (pn r.params 0 1 = 2 ∧ pn r.params 4 4 ≠ 0x52535431)) ∧
    (∃ s : State, ∃ r : Req, s.takes cmdClaim r ∧ (pn r.params 0 1 ≤ 10 ∧ s.chip.claimed (pn r.params 0 1) = false ∧
      pn r.params 0 1 ≠ 8 ∧ s.chip.mbx.timed.all (fun t => !(t.writes s.chip).contains (pn r.params 0 1)) = true)) ∧
    (∃ s : State, ∃ r : Req, s.takes cmdClaim r ∧ (s.chip.claimed 8 = false ∧ pn r.params 0 1 = 8 ∧
      s.chip.mbx.timed.all (fun t => !(t.writes s.chip).contains 8) = true)) ∧
    (∃ s : State, ∃ r : Req, s.takes cmdClaim r ∧ (pn r.params 0 1 ≤ 10 ∧ s.chip.claimed (pn r.params 0 1) = true)) ∧
    (∃ s : State, ∃ r : Req, s.takes cmdClaim r ∧ (pn r.params 0 1 ≤ 10 ∧ s.chip.claimed (pn r.params 0 1) = false ∧
      s.chip.mbx.timed.any (fun t => (t.writes s.chip).contains (pn r.params 0 1)) = true)) ∧
    (∃ s : State, ∃ r : Req, s.takes cmdClaim r ∧ (10 < pn r.params 0 1)) ∧
    (∃ s : State, ∃ r : Req, s.takes cmdRelease r ∧ (pn r.params 0 1 ≤ 10 ∧ pn r.params 0 1 ≠ 1 ∧ s.chip.claimed (pn
      r.params 0 1) = true ∧ s.chip.firstBad (pn r.params 0 1) = none)) ∧
    (∃ s : State, ∃ r : Req, s.takes cmdRelease r ∧ pn r.params 0 1 = 1 ∧ s.chip.claimed 1 = true ∧ s.chip.firstBad 1
      = none ∧ (∀ k, k < 8 → s.chip.is .TIME_SRC_CONFIRMING k = false)) ∧
    (∃ s : State, ∃ r : Req, ∃ off : Nat, s.takes cmdRelease r ∧ pn r.params 0 1 ≤ 10 ∧ pn r.params 0 1 ≠ 1 ∧
      s.chip.claimed (pn r.params 0 1) = true ∧ s.chip.firstBad (pn r.params 0 1) = some off) ∧
    (∃ s : State, ∃ r : Req, s.takes cmdRelease r ∧ (pn r.params 0 1 ≤ 10 ∧ s.chip.claimed (pn r.params 0 1) = false)) ∧
    (∃ s : State, ∃ r : Req, ∃ x : Timed, s.takes cmdCancelTimed r ∧ (s.chip.mbx.timed.find? fun t => t.handle == pn
      r.params 0 2) = some x) ∧
    (∃ s : State, ∃ r : Req, s.takes cmdCancelTimed r ∧ ((s.chip.mbx.timed.find? fun t => t.handle == pn r.params 0 2)
      = none)) ∧
    (∃ s : State, ∃ r : Req, s.takes cmdFwBegin r ∧ (pn r.params 0 1 ≤ 1 ∧ (s.chip.fld .MBX_STATUS_SLOT 0 = pn
      r.params 0 1 → s.chip.slotReason (s.chip.fwSlot (1 - pn r.params 0 1)) = 0))) ∧
    (∃ s : State, ∃ r : Req, s.takes cmdFwBegin r ∧ (pn r.params 0 1 ≤ 1 ∧ s.chip.fld .MBX_STATUS_SLOT 0 = pn r.params
      0 1 ∧ s.chip.slotReason (s.chip.fwSlot (1 - pn r.params 0 1)) ≠ 0)) ∧
    (∃ s : State, ∃ r : Req, s.takes cmdFwBegin r ∧ (1 < pn r.params 0 1)) ∧
    (∃ s : State, ∃ r : Req, s.takes cmdFwWrite r ∧ (pn r.params 0 1 ≤ 1 ∧ s.chip.fld .MBX_STATUS_SLOT 0 ≠ pn r.params
      0 1 ∧ 4 ≤ pn r.params 8 2 ∧ pn r.params 8 2 ≤ 4032 ∧ pn r.params 8 2 % 4 = 0 ∧ pn r.params 4 4 % 4 = 0 ∧ pn
      r.params 4 4 + pn r.params 8 2 ≤ 33554432 ∧ ((s.chip.fwSlot (pn r.params 0 1)).pieces = [] → (s.chip.fwSlot (pn
      r.params 0 1)).header = List.replicate 512 0xFF) ∧ (s.chip.fwSlot (pn r.params 0 1)).pieces.any (pieceHits (pn
      r.params 4 4) (pn r.params 8 2)) = false)) ∧
    (∃ s : State, ∃ r : Req, s.takes cmdFwWrite r ∧ (pn r.params 0 1 ≤ 1 ∧ s.chip.fld .MBX_STATUS_SLOT 0 = pn r.params
      0 1 ∧ 4 ≤ pn r.params 8 2 ∧ pn r.params 8 2 ≤ 4032 ∧ pn r.params 8 2 % 4 = 0 ∧ pn r.params 4 4 % 4 = 0 ∧ pn
      r.params 4 4 + pn r.params 8 2 ≤ 33554432 ∧ (s.chip.fwSlot (pn r.params 0 1)).pieces.any (pieceHits (pn r.params
      4 4) (pn r.params 8 2)) = false)) ∧
    (∃ s : State, ∃ r : Req, s.takes cmdFwWrite r ∧ (pn r.params 0 1 ≤ 1 ∧ 4 ≤ pn r.params 8 2 ∧ pn r.params 8 2 ≤
      4032 ∧ pn r.params 8 2 % 4 = 0 ∧ (s.chip.fwSlot (pn r.params 0 1)).pieces.any (pieceHits (pn r.params 4 4) (pn
      r.params 8 2)) = true)) ∧
    (∃ s : State, ∃ r : Req, s.takes cmdFwVerify r ∧ (pn r.params 0 1 ≤ 1 ∧ s.chip.fld .MBX_STATUS_SLOT 0 ≠ pn
      r.params 0 1)) ∧
    (∃ s : State, ∃ r : Req, s.takes cmdFwActivate r ∧ (pn r.params 0 1 ≤ 1 ∧ (s.chip.fwSlot (pn r.params 0 1)).st = 2
      ∧ s.chip.slotReason (s.chip.fwSlot (pn r.params 0 1)) = 0 ∧ s.chip.fld .MBX_CLAIM_CLAIMED 0 = 0 ∧
      s.chip.mbx.timed = [] ∧ s.chip.peerDiffers (s.chip.fwSlot (pn r.params 0 1)) = false)) ∧
    (∃ s : State, ∃ r : Req, s.takes cmdFwActivate r ∧ (pn r.params 0 1 ≤ 1 ∧ (s.chip.fwSlot (pn r.params 0 1)).st ≠
      2)) ∧
    (∃ s : State, ∃ r : Req, s.takes cmdFwSetMinSec r ∧ (pn r.params 4 4 = 0x53454331 ∧ s.chip.ident.secMin ≤ pn
      r.params 0 2 ∧ pn r.params 0 2 ≤ leNat (slice s.chip.mbx.image 0x14 2))) ∧
    (∃ s : State, ∃ r : Req, s.takes cmdFwSetMinSec r ∧ (pn r.params 4 4 = 0x53454331 ∧ (pn r.params 0 2 <
      s.chip.ident.secMin ∨ leNat (slice s.chip.mbx.image 0x14 2) < pn r.params 0 2))) ∧
    (∃ s : State, ∃ r : Req, s.takes cmdFwSetMinSec r ∧ (pn r.params 4 4 ≠ 0x53454331)) ∧
    (∃ s : State, ∃ r : Req, s.takes cmdSaffClear r ∧ (pn r.params 0 1 ≤ 4 ∧ pn r.params 4 4 = 0x434C5231 ∧
      s.mram.sects.length = 6)) ∧
    (∃ s : State, ∃ r : Req, s.takes cmdTimeLoad r ∧ (timeOk (pn r.params 0 12) = true ∧ s.chip.time.held = none ∧
      s.chip.ticking = false)) ∧
    (∃ s : State, ∃ r : Req, s.takes cmdTimeLoad r ∧ timeOk (pn r.params 0 12) = true ∧ s.chip.time.held = none ∧
      s.chip.ticking = true) ∧
    (∃ s : State, ∃ r : Req, s.takes cmdTimeLoad r ∧ (timeOk (pn r.params 0 12) = true ∧ s.chip.time.held ≠ none)) ∧
    (∃ s : State, ∃ r : Req, s.takes cmdTimeLoad r ∧ (timeOk (pn r.params 0 12) = false)) ∧
    (∃ s : State, ∃ r : Req, s.takes cmdTimeStep r ∧ (s.chip.time.held = none ∧ s.chip.ticking = false)) ∧
    (∃ s : State, ∃ r : Req, s.takes cmdTimeStep r ∧ s.chip.time.held = none ∧ s.chip.ticking = true) ∧
    (∃ s : State, ∃ r : Req, s.takes cmdTimeStep r ∧ (s.chip.time.held ≠ none)) ∧
    (∃ s : State, ∃ r : Req, s.takes cmdTimeCfg r ∧ (servoCfgOk (pn r.params 0 8) = true ∧ checkCfgOk (pn r.params 8
      8) = true ∧ ppsCfgOk (pn r.params 16 8) = true)) ∧
    (∃ s : State, ∃ r : Req, s.takes cmdTimeCfg r ∧ (servoCfgOk (pn r.params 0 8) = false)) ∧
    (∃ s : State, ∃ r : Req, s.takes cmdTimeSrcSet r ∧ (pn r.params 0 1 ≤ 8 ∧ pn r.params 1 1 ≤ 1 ∧ pn r.params 2 1 ≤
      15)) ∧
    (∃ s : State, ∃ r : Req, s.takes cmdTimeSrcSet r ∧ (pn r.params 0 1 ≤ 8 ∧ pn r.params 1 1 ≤ 1 ∧ 15 < pn r.params 2
      1)) ∧
    (∃ s : State, ∃ r : Req, s.takes cmdTimeSrcReadmit r ∧ (pn r.params 0 1 ≤ 8)) ∧
    (∃ s : State, ∃ r : Req, s.takes cmdTimePortSet r ∧ (s.chip.portValid (pn r.params 0 1) = true)) ∧
    (∃ s : State, ∃ r : Req, s.takes cmdTimePortSet r ∧ (s.chip.portValid (pn r.params 0 1) = false)) ∧
    (∃ s : State, ∃ r : Req, s.takes cmdTimeClearSuspect r) ∧
    (∃ s : State, ∃ r : Req, s.takes cmdPtpInstSet r ∧ ((pn r.params 0 1 ≤ 7 ∨ pn r.params 0 1 = 0xFF) ∧ ptpBad
      r.params = none ∧ s.chip.ptpNumber (pn r.params 0 1) ≤ 7 ∧ s.chip.ptpPortBad (s.chip.ptpNumber (pn r.params 0
      1)) r.params = none)) ∧
    (∃ s : State, ∃ r : Req, s.takes cmdPtpInstSet r ∧ (pn r.params 0 1 = 0xFF ∧ ptpBad r.params = none ∧
      s.chip.ptpNumber 0xFF = 8 ∧ s.chip.ptpPortBad 8 r.params = none)) ∧
    (∃ s : State, ∃ r : Req, s.takes cmdPtpInstDelete r ∧ (pn r.params 0 1 ≤ 7 ∧ (kFind s.chip.time.inst (pn r.params
      0 1)).isSome = true)) ∧
    (∃ s : State, ∃ r : Req, s.takes cmdPtpInstDelete r ∧ (pn r.params 0 1 ≤ 7 ∧ kFind s.chip.time.inst (pn r.params 0
      1) = none)) :=
  ⟨⟨(up fun c => c), (req 0 (layOut 8 [])), by decide +kernel⟩,
    ⟨(up fun c => let c := c.setF .FLT_STATUS_STATE 0 2; { c with duo := { c.duo with window := false } }), (req 0
      (layOut 8 [])), by decide +kernel⟩,
    ⟨(up fun c => c), (req 0 (layOut 8 [(0, 1, 1)])), by decide +kernel⟩,
    ⟨(up fun c => c), (req 0 (layOut 8 [(0, 1, 2), (4, 4, 0x52535431)])), by decide +kernel⟩,
    ⟨(up fun c => c), (req 0 (layOut 8 [(0, 1, 3)])), by decide +kernel⟩,
    ⟨(up fun c => c), (req 0 (layOut 8 [(0, 1, 2)])), by decide +kernel⟩,
    ⟨(up fun c => c), (req 0 (layOut 1 [(0, 1, 10)])), by decide +kernel⟩,
    ⟨(up fun c => c), (req 0 (layOut 1 [(0, 1, 8)])), by decide +kernel⟩,
    ⟨(up fun c => c.setF .MBX_CLAIM_CLAIMED 0 2047), (req 0 (layOut 1 [(0, 1, 10)])), by decide +kernel⟩,
    ⟨(up fun c => c.setMbx { c.mbx with timed := [⟨0, 0x4005, 0, []⟩] }), (req 0 (layOut 1 [(0, 1, 1)])), by
      decide +kernel⟩,
    ⟨(up fun c => c), (req 0 (layOut 1 [(0, 1, 11)])), by decide +kernel⟩,
    ⟨(up fun c => c.setF .MBX_CLAIM_CLAIMED 0 2047), (req 0 (layOut 1 [(0, 1, 10)])), by decide +kernel⟩,
    ⟨(own fun c => c.setBitF .MBX_CLAIM_CLAIMED 0 1 true), (req 0 (layOut 1 [(0, 1, 1)])), by decide +kernel⟩,
    ⟨(up fun c => let c := c.setF .MBX_CLAIM_CLAIMED 0 2047; c.setHandle 0
      { c.handle 0 with valid := true, egrLen := 1 }), (req 0 (layOut 1 [(0, 1, 5)])), 0xA00040, by decide +kernel⟩,
    ⟨(up fun c => c), (req 0 (layOut 1 [(0, 1, 10)])), by decide +kernel⟩,
    ⟨(up fun c => c.setMbx { c.mbx with timed := [⟨5, 0x4005, 0, []⟩] }), (req 0 (layOut 2 [(0, 2, 5)])), ⟨5, 0x4005,
      0, []⟩, by decide +kernel⟩,
    ⟨(up fun c => c), (req 0 (layOut 2 [])), by decide +kernel⟩,
    ⟨(up fun c => c), (req 0 (layOut 1 [(0, 1, 1)])), by decide +kernel⟩,
    ⟨(up fun c => let c := c.setF .MBX_STATUS_SLOT 0 0; c.setMbx { c.mbx with fwB := ⟨[], [], 0, 0⟩ }), (req 0 (layOut
      1 [(0, 1, 0)])), by decide +kernel⟩,
    ⟨(up fun c => c), (req 0 (layOut 1 [(0, 1, 2)])), by decide +kernel⟩,
    ⟨(up fun c => c.setMbx { c.mbx with fwB := ⟨[], List.replicate 512 0xFF, 0, 0⟩ }), (req 0 (layOut 64 [(0, 1, 1),
      (4, 4, 33554428), (8, 2, 4)])), by decide +kernel⟩,
    ⟨(up fun c => c), (req 0 (layOut 64 [(8, 2, 4)])), by decide +kernel⟩,
    ⟨(up fun c => c.setMbx { c.mbx with fwB := ⟨[(0, [1, 2, 3, 4])], List.replicate 512 0xFF, 0, 0⟩ }), (req 0 (layOut
      64 [(0, 1, 1), (8, 2, 4)])), by decide +kernel⟩,
    ⟨(up fun c => c), (req 0 (layOut 1 [(0, 1, 1)])), by decide +kernel⟩,
    ⟨(up fun c => c.setMbx { c.mbx with fwB := { c.mbx.fwB with st := 2 } }), (req 0 (layOut 1 [(0, 1, 1)])), by
      decide +kernel⟩,
    ⟨(up fun c => c.setMbx { c.mbx with fwB := { c.mbx.fwB with st := 1 } }), (req 0 (layOut 1 [(0, 1, 1)])), by
      decide +kernel⟩,
    ⟨(up fun c => c), (req 0 (layOut 8 [(0, 2, (ready.chip.fwSlot 0).secVer), (4, 4, 0x53454331)])), by
      decide +kernel⟩,
    ⟨(up fun c => { c with ident := { c.ident with secMin := 1 } }), (req 0 (layOut 8 [(4, 4, 0x53454331)])), by
      decide +kernel⟩,
    ⟨(up fun c => c), (req 0 (layOut 8 [])), by decide +kernel⟩,
    ⟨(up fun c => c), (req 0 (layOut 8 [(0, 1, 4), (4, 4, 0x434C5231)])), by decide +kernel⟩,
    ⟨(up fun c => c.setTime { c.time with refOn := false }), (req 0 (layOut 16 [])), by decide +kernel⟩,
    ⟨(up fun c => c), (req 0 (layOut 16 [(0, 12, packTime (nsT 5))])), by decide +kernel⟩,
    ⟨(up fun c => c.setTime { c.time with held := some .load }), (req 0 (layOut 16 [])), by decide +kernel⟩,
    ⟨(up fun c => c), (req 0 (layOut 16 [(0, 12, 2 ^ 96 - 1)])), by decide +kernel⟩,
    ⟨(up fun c => c.setTime { c.time with refOn := false }), (req 0 (layOut 8 [])), by decide +kernel⟩,
    ⟨(up fun c => c), (req 0 (layOut 8 [(0, 8, 2 ^ 64 - 1)])), by decide +kernel⟩,
    ⟨(up fun c => c.setTime { c.time with held := some .load }), (req 0 (layOut 8 [])), by decide +kernel⟩,
    ⟨(up fun c => c), (req 0 (layOut 24 [(0, 8, 2 ^ 24 + 1), (8, 8, 600 * 2 ^ 48 + 2 ^ 32 + 10 * 2 ^ 16 + 1000), (16,
      8, 500000 * 2 ^ 40)])), by decide +kernel⟩,
    ⟨(up fun c => c), (req 0 (layOut 24 [])), by decide +kernel⟩,
    ⟨(up fun c => c), (req 0 (layOut 3 [(0, 1, 8), (1, 1, 1), (2, 1, 15)])), by decide +kernel⟩,
    ⟨(up fun c => c), (req 0 (layOut 3 [(0, 1, 8), (2, 1, 16)])), by decide +kernel⟩,
    ⟨(up fun c => c), (req 0 (layOut 1 [(0, 1, 8)])), by decide +kernel⟩,
    ⟨(up fun c => c), (req 0 (layOut 20 [])), by decide +kernel⟩,
    ⟨(up fun c => c.setF .PORT_GRP_CFG_SPLIT 0 8), (req 0 (layOut 20 [(0, 1, 1)])), by decide +kernel⟩,
    ⟨(up fun c => c), (req 0 (layOut 0 [])), by decide +kernel⟩,
    ⟨(up fun c => c), (req 0 (layOut 48 [])), by decide +kernel⟩,
    ⟨(up fun c => c.setTime
      { c.time with inst := (List.range 8).map fun k => (k, ⟨[0, 0, 0, 0, 0, 0, 0, 0, 0, 0, 0, 0, 0, 0, 0, 0, 1] ++ List.replicate 31 0, 0, 0, 0, 6, [(0, 2)], []⟩) }),
      (req 0 (layOut 48 [(0, 1, 255)])), by decide +kernel⟩,
    ⟨(up fun c => c.setTime
      { c.time with inst := [(7, ⟨[0, 0, 0, 0, 0, 0, 0, 0, 0, 0, 0, 0, 0, 0, 0, 0, 1] ++ List.replicate 31 0, 0, 0, 0, 6, [(0, 2)], []⟩)] }),
      (req 0 (layOut 1 [(0, 1, 7)])), by decide +kernel⟩,
    ⟨(up fun c => c), (req 0 (layOut 1 [])), by decide +kernel⟩⟩

theorem witness_PlaneCommands :
    (∃ s : State, ∃ r : Req, s.takes cmdPortGroupSet r ∧ (s.chip.populated (pn r.params 0 1) = true ∧ s.chip.domainOn
      (40 + quadOf (pn r.params 0 1)) = true ∧ asInt 16 (bits (pn r.params 8 4) 15 0) < asInt 16 (bits (pn r.params 8
      4) 31 16) ∧ s.chip.grpCode (pn r.params 0 1) (pn r.params 4 4) = rOK ∧ (pn r.params 4 4).testBit 31 =
      s.chip.is .PORT_GRP_CFG_ENGINE_EN (pn r.params 0 1) ∧ bits (pn r.params 4 4) 6 0 =
      s.chip.fld .PORT_GRP_CFG_SPLIT (pn r.params 0 1) ∧ (s.chip.domainOn (pn r.params 0 1) = true ∨ (pn r.params 4
      4).testBit 31 = false))) ∧
    (∃ s : State, ∃ r : Req, s.takes cmdPortGroupSet r ∧ s.chip.populated (pn r.params 0 1) = true ∧ s.chip.domainOn
      (40 + quadOf (pn r.params 0 1)) = true ∧ s.chip.domainOn (pn r.params 0 1) = true ∧ asInt 16 (bits (pn r.params
      8 4) 15 0) < asInt 16 (bits (pn r.params 8 4) 31 16) ∧ s.chip.grpCode (pn r.params 0 1) (pn r.params 4 4) = rOK
      ∧ (pn r.params 0 1 = 31 → s.chip.duoState ≠ 1 ∧ s.chip.duoState ≠ 2)) ∧
    (∃ s : State, ∃ r : Req, s.takes cmdPortGroupSet r ∧ (s.chip.populated (pn r.params 0 1) = false)) ∧
    (∃ s : State, ∃ r : Req, s.takes cmdPortGroupSet r ∧ (s.chip.populated (pn r.params 0 1) = true ∧ s.chip.domainOn
      (40 + quadOf (pn r.params 0 1)) = false ∧ asInt 16 (bits (pn r.params 8 4) 15 0) < asInt 16 (bits (pn r.params 8
      4) 31 16))) ∧
    (∃ s : State, ∃ r : Req, s.takes cmdPortSet r ∧ (fun (p : Nat) => s.chip.portValid p = true ∧ s.chip.domainOn (40
      + quadOfPort p) = true) (pn r.params 0 1) ∧ 64 ≤ bits (pn r.params 8 8) 45 32 ∧ bits (pn r.params 8 8) 45 32 ≤
      9728 ∧ bits (pn r.params 16 4) 15 0 < bits (pn r.params 16 4) 31 16 ∧ 1 ≤ bits (pn r.params 20 4) 23 16 ∧ bits
      (pn r.params 20 4) 23 16 ≤ 128 ∧ (pn r.params 0 1 = 248 → s.chip.duoState ≠ 1 ∧ s.chip.duoState ≠ 2)) ∧
    (∃ s : State, ∃ r : Req, s.takes cmdPortSet r ∧ ((fun (p : Nat) => s.chip.portValid p = true ∧ s.chip.domainOn (40
      + quadOfPort p) = false) (pn r.params 0 1) ∧ 64 ≤ bits (pn r.params 8 8) 45 32 ∧ bits (pn r.params 8 8) 45 32 ≤
      9728 ∧ bits (pn r.params 16 4) 15 0 < bits (pn r.params 16 4) 31 16 ∧ 1 ≤ bits (pn r.params 20 4) 23 16 ∧ bits
      (pn r.params 20 4) 23 16 ≤ 128)) ∧
    (∃ s : State, ∃ r : Req, s.takes cmdPortSet r ∧ (s.chip.portValid (pn r.params 0 1) = false)) ∧
    (∃ s : State, ∃ r : Req, s.takes cmdMmRestart r ∧ ((fun (p : Nat) => s.chip.portValid p = true ∧ s.chip.domainOn
      (40 + quadOfPort p) = true) (pn r.params 0 1) ∧ s.chip.is .PORT_MM_CFG_MM_EN (pn r.params 0 1) = false ∧
      (let v := s.chip.fld .PORT_MM_CFG_VERIFY_MS (pn r.params 0 1); 1 ≤ v ∧ v ≤ 128))) ∧
    (∃ s : State, ∃ r : Req, s.takes cmdMmRestart r ∧ ((fun (p : Nat) => s.chip.portValid p = true ∧ s.chip.domainOn
      (40 + quadOfPort p) = false) (pn r.params 0 1))) ∧
    (∃ s : State, ∃ r : Req, s.takes cmdMmRestart r ∧ (s.chip.portValid (pn r.params 0 1) = false)) ∧
    (∃ s : State, ∃ r : Req, s.takes cmdProfileSet r ∧ (pn r.params 0 1 ≤ 15 ∧ profOk (pn r.params 8 8) = true ∧
      s.chip.profUsed (pn r.params 0 1) = false)) ∧
    (∃ s : State, ∃ r : Req, s.takes cmdProfileSet r ∧ (pn r.params 0 1 ≤ 15 ∧ profOk (pn r.params 8 8) = true ∧
      s.chip.profUsed (pn r.params 0 1) = true)) ∧
    (∃ s : State, ∃ r : Req, s.takes cmdPortLookupSet r ∧ (s.chip.portValid (pn r.params 0 1) = true ∧
      s.chip.strmPortOk (pn r.params 0 1) (pn r.params 8 8) = true)) ∧
    (∃ s : State, ∃ r : Req, s.takes cmdPortLookupSet r ∧ (s.chip.portValid (pn r.params 0 1) = true ∧
      s.chip.strmPortOk (pn r.params 0 1) (pn r.params 8 8) = false)) ∧
    (∃ s : State, ∃ r : Req, s.takes cmdHandleCreate r ∧ (pn r.params 0 4 < 65536 ∧ s.chip.portValid (pn r.params 4 1)
      = true ∧ pn r.params 5 1 ≤ 3 ∧ (s.chip.handle (pn r.params 0 4)).valid = false ∧ s.chip.handleCode (pn r.params
      0 4) { handleOf (pn r.params 8 32) with egrLen := 0, egrBase := 0, homeQ := pn r.params 5 1, valid := true } =
      rOK)) ∧
    (∃ s : State, ∃ r : Req, s.takes cmdHandleCreate r ∧ (pn r.params 0 4 = 0xFFFFFFFF ∧ s.chip.portValid (pn r.params
      4 1) = true ∧ pn r.params 5 1 ≤ 3 ∧ s.chip.lowestHandle < 65536 ∧ s.chip.handleCode s.chip.lowestHandle
      { handleOf (pn r.params 8 32) with egrLen := 0, egrBase := 0, homeQ := pn r.params 5 1, valid := true } = rOK)) ∧
    (∃ s : State, ∃ r : Req, s.takes cmdHandleCreate r ∧ (pn r.params 0 4 < 65536 ∧ s.chip.portValid (pn r.params 4 1)
      = true ∧ pn r.params 5 1 ≤ 3 ∧ (s.chip.handle (pn r.params 0 4)).valid = true ∧ s.chip.handleCode (pn r.params 0
      4) { handleOf (pn r.params 8 32) with egrLen := 0, egrBase := 0, homeQ := pn r.params 5 1, valid := true } ≠
      rParam)) ∧
    (∃ s : State, ∃ r : Req, s.takes cmdHandleCreate r ∧ (pn r.params 0 4 < 65536 ∧ s.chip.portValid (pn r.params 4 1)
      = false)) ∧
    (∃ s : State, ∃ r : Req, s.takes cmdHandleWrite r ∧ (pn r.params 0 4 < 65536 ∧ (s.chip.handle (pn r.params 0
      4)).valid = true ∧ s.chip.handleCode (pn r.params 0 4) ((fun (p : Bytes) => (let x := s.chip.handle (pn p 0 4);
      { handleOf (pn p 8 32) with egrLen := x.egrLen, egrBase := x.egrBase, homeQ := x.homeQ, valid := true }))
      r.params) = rOK)) ∧
    (∃ s : State, ∃ r : Req, s.takes cmdHandleWrite r ∧ (pn r.params 0 4 < 65536 ∧ (s.chip.handle (pn r.params 0
      4)).valid = false)) ∧
    (∃ s : State, ∃ r : Req, s.takes cmdHandleDelete r ∧ (pn r.params 0 4 < 65536 ∧ (s.chip.handle (pn r.params 0
      4)).valid = true ∧ s.chip.ownsRegion (pn r.params 0 4) = false ∧ s.chip.brkwMode (pn r.params 0 4) = 0)) ∧
    (∃ s : State, ∃ r : Req, s.takes cmdHandleDelete r ∧ (pn r.params 0 4 < 65536 ∧ (s.chip.handle (pn r.params 0
      4)).valid = false)) ∧
    (∃ s : State, ∃ r : Req, s.takes cmdHandleDelete r ∧ (pn r.params 0 4 < 65536 ∧ (s.chip.handle (pn r.params 0
      4)).valid = true ∧ s.chip.ownsRegion (pn r.params 0 4) = true)) ∧
    (∃ s : State, ∃ r : Req, s.takes cmdKeyInsert r ∧ (s.chip.is .STRM_PROFILE_VALID (s.chip.normKey (keyOf (pn
      r.params 0 56))).profile = true ∧ s.chip.is .STRM_PROFILE_PORT_IN_KEY (s.chip.normKey (keyOf (pn r.params 0
      56))).profile = false ∧ (s.chip.handle (keyHandle (pn r.params 0 56))).valid = true ∧ s.chip.keysOf (keyHandle
      (pn r.params 0 56)) < 8 ∧ s.chip.strm.keys.length < 61440 ∧ s.chip.findKey (s.chip.normKey (keyOf (pn r.params 0
      56))) = none)) ∧
    (∃ s : State, ∃ r : Req, s.takes cmdKeyInsert r ∧ (s.chip.is .STRM_PROFILE_VALID (s.chip.normKey (keyOf (pn
      r.params 0 56))).profile = false)) ∧
    (∃ s : State, ∃ r : Req, s.takes cmdKeyInsert r ∧ (s.chip.is .STRM_PROFILE_VALID (s.chip.normKey (keyOf (pn
      r.params 0 56))).profile = true ∧ s.chip.keyPortBad (pn r.params 0 56) = true)) ∧
    (∃ s : State, ∃ r : Req, s.takes cmdKeyInsert r ∧ (s.chip.is .STRM_PROFILE_VALID (s.chip.normKey (keyOf (pn
      r.params 0 56))).profile = true ∧ s.chip.keyPortBad (pn r.params 0 56) = false ∧ (s.chip.handle (keyHandle (pn
      r.params 0 56))).valid = false)) ∧
    (∃ s : State, ∃ r : Req, s.takes cmdKeyDelete r ∧ (s.chip.keyPortBad (pn r.params 0 56) = false ∧ (s.chip.findKey
      (s.chip.normKey (keyOf (pn r.params 0 56)))).isSome = true)) ∧
    (∃ s : State, ∃ r : Req, s.takes cmdKeyDelete r ∧ (s.chip.keyPortBad (pn r.params 0 56) = false ∧ s.chip.findKey
      (s.chip.normKey (keyOf (pn r.params 0 56))) = none)) ∧
    (∃ s : State, ∃ r : Req, s.takes cmdKeyDelete r ∧ (s.chip.keyPortBad (pn r.params 0 56) = true)) ∧
    (∃ s : State, ∃ r : Req, ∃ b : Nat, s.takes cmdEgressSet r ∧ s.chip.freeRun (pn r.params 4 2) = some b ∧ pn
      r.params 0 4 < 65536 ∧ pn r.params 4 2 ≤ 256 ∧ (s.chip.handle (pn r.params 0 4)).valid = true ∧ s.chip.listCode
      (pn r.params 0 4) ((List.range (pn r.params 4 2)).map fun k => pn r.params (8 + 4 * k) 4) = rOK) ∧
    (∃ s : State, ∃ r : Req, s.takes cmdEgressSet r ∧ (pn r.params 0 4 < 65536 ∧ pn r.params 4 2 ≤ 256 ∧
      (s.chip.handle (pn r.params 0 4)).valid = false)) ∧
    (∃ s : State, ∃ r : Req, s.takes cmdMeterSet r ∧ (pn r.params 0 4 < 65536 ∧ (pn r.params 8 24).testBit 132 = false
      ∧ (meterOf (pn r.params 8 24)).peak ≤ (s.chip.meter (pn r.params 0 4)).peak)) ∧
    (∃ s : State, ∃ r : Req, s.takes cmdMeterSet r ∧ (65536 ≤ pn r.params 0 4)) ∧
    (∃ s : State, ∃ r : Req, s.takes cmdGateCfgSet r ∧ (pn r.params 0 2 < 4096 ∧ timeOk (bits (pn r.params 8 48) 95 0)
      = true ∧ bits (pn r.params 8 48) 196 195 = 0 ∧ (s.chip.gate (pn r.params 0 2)).pend = none)) ∧
    (∃ s : State, ∃ r : Req, s.takes cmdGateCfgSet r ∧ (4095 < pn r.params 0 2)) ∧
    (∃ s : State, ∃ r : Req, s.takes cmdGateListWrite r ∧ (pn r.params 0 2 < 4096 ∧ 1 ≤ pn r.params 4 2 ∧ pn r.params
      4 2 ≤ 128 ∧ pn r.params 2 2 + pn r.params 4 2 ≤ 256 ∧ (s.chip.gate (pn r.params 0 2)).pend = none)) ∧
    (∃ s : State, ∃ r : Req, s.takes cmdGateListWrite r ∧ (pn r.params 0 2 < 4096 ∧ 1 ≤ pn r.params 4 2 ∧ pn r.params
      4 2 ≤ 128 ∧ pn r.params 2 2 + pn r.params 4 2 ≤ 256 ∧ (s.chip.gate (pn r.params 0 2)).pend.isSome = true)) ∧
    (∃ s : State, ∃ r : Req, s.takes cmdGateCommit r ∧ (pn r.params 0 2 < 4096 ∧ pn r.params 2 1 = 0 ∧ (s.chip.gate
      (pn r.params 0 2)).pend = none ∧ (s.chip.gate (pn r.params 0 2)).commitBad = 0)) ∧
    (∃ s : State, ∃ r : Req, s.takes cmdGateCommit r ∧ pn r.params 0 2 < 4096 ∧ pn r.params 2 1 = 0 ∧ (s.chip.gate (pn
      r.params 0 2)).pend = none ∧ (s.chip.gate (pn r.params 0 2)).commitBad ≠ 0) ∧
    (∃ s : State, ∃ r : Req, s.takes cmdGateCommit r ∧ (pn r.params 0 2 < 4096 ∧ pn r.params 2 1 = 1)) ∧
    (∃ s : State, ∃ r : Req, s.takes cmdStreamClear r ∧ (pn r.params 0 4 < 65536)) ∧
    (∃ s : State, ∃ r : Req, s.takes cmdStreamClear r ∧ (65536 ≤ pn r.params 0 4)) ∧
    (∃ s : State, ∃ r : Req, s.takes cmdFilterUnlatch r ∧ (pn r.params 0 4 < 65536 ∧ pn r.params 4 2 < 4096 ∧ pn
      r.params 6 1 ≤ 15 ∧ (s.chip.handle (pn r.params 0 4)).valid = true)) ∧
    (∃ s : State, ∃ r : Req, s.takes cmdFilterUnlatch r ∧ (pn r.params 0 4 < 65536 ∧ pn r.params 4 2 < 4096 ∧ pn
      r.params 6 1 ≤ 15 ∧ (s.chip.handle (pn r.params 0 4)).valid = false)) ∧
    (∃ s : State, ∃ r : Req, s.takes cmdBerthSet r ∧ (pn r.params 0 4 < 65536 ∧ bits (pn r.params 16 8) 56 32 ≤
      16777216 ∧ s.chip.berthCode (pn r.params 0 4) (pn r.params 8 8) = rOK ∧ s.chip.copyingOf (pn r.params 0 4) =
      none)) ∧
    (∃ s : State, ∃ r : Req, s.takes cmdBerthSet r ∧ (pn r.params 0 4 < 65536 ∧ bits (pn r.params 16 8) 56 32 ≤
      16777216 ∧ s.chip.bValid (pn r.params 0 4) = true ∧ (pn r.params 8 8).testBit 63 = false ∧ s.chip.referenced (pn
      r.params 0 4) = true)) ∧
    (∃ s : State, ∃ r : Req, s.takes cmdBerthRelease r ∧ (s.chip.bValid (pn r.params 0 2) = true ∧ s.chip.referenced
      (pn r.params 0 2) = false)) ∧
    (∃ s : State, ∃ r : Req, s.takes cmdBerthRelease r ∧ (s.chip.bValid (pn r.params 0 2) = false)) ∧
    (∃ s : State, ∃ r : Req, s.takes cmdBerthRelease r ∧ (s.chip.bValid (pn r.params 0 2) = true ∧ s.chip.referenced
      (pn r.params 0 2) = true)) ∧
    (∃ s : State, ∃ r : Req, s.takes cmdTideCfgSet r ∧ ((fun (p : Nat) => s.chip.portValid p = true ∧ s.chip.domainOn
      (40 + quadOfPort p) = true) (pn r.params 0 1) ∧ pn r.params 1 1 ≤ 3 ∧ (pn r.params 1 1 % 2 = 1 → timeOk (pn
      r.params 8 12) = true ∧ s.chip.tideLocked (pn r.params 0 1) = false))) ∧
    (∃ s : State, ∃ r : Req, s.takes cmdTideCfgSet r ∧ ((fun (p : Nat) => s.chip.portValid p = true ∧ s.chip.domainOn
      (40 + quadOfPort p) = true) (pn r.params 0 1) ∧ pn r.params 1 1 = 4)) ∧
    (∃ s : State, ∃ r : Req, s.takes cmdTideCfgSet r ∧ ((fun (p : Nat) => s.chip.portValid p = true ∧ s.chip.domainOn
      (40 + quadOfPort p) = true) (pn r.params 0 1) ∧ pn r.params 1 1 = 1 ∧ timeOk (pn r.params 8 12) = true ∧
      s.chip.tideLocked (pn r.params 0 1) = true)) ∧
    (∃ s : State, ∃ r : Req, s.takes cmdTideWrite r ∧ ((fun (p : Nat) => s.chip.portValid p = true ∧ s.chip.domainOn
      (40 + quadOfPort p) = true) (pn r.params 0 1) ∧ 1 ≤ pn r.params 4 2 ∧ pn r.params 4 2 ≤ 500 ∧ pn r.params 2 2 +
      pn r.params 4 2 ≤ 1024 ∧ s.chip.tideLocked (pn r.params 0 1) = false)) ∧
    (∃ s : State, ∃ r : Req, s.takes cmdTideWrite r ∧ ((fun (p : Nat) => s.chip.portValid p = true ∧ s.chip.domainOn
      (40 + quadOfPort p) = true) (pn r.params 0 1) ∧ 1 ≤ pn r.params 4 2 ∧ pn r.params 4 2 ≤ 500 ∧ pn r.params 2 2 +
      pn r.params 4 2 ≤ 1024 ∧ s.chip.tideLocked (pn r.params 0 1) = true)) ∧
    (∃ s : State, ∃ r : Req, s.takes cmdTideCommit r ∧ (fun (p : Nat) => s.chip.portValid p = true ∧ s.chip.domainOn
      (40 + quadOfPort p) = true) (pn r.params 0 1) ∧ pn r.params 1 1 = 0 ∧ s.chip.tideLocked (pn r.params 0 1) =
      false ∧ s.chip.tideCheck (pn r.params 0 1) = 0) ∧
    (∃ s : State, ∃ r : Req, s.takes cmdTideCommit r ∧ (fun (p : Nat) => s.chip.portValid p = true ∧ s.chip.domainOn
      (40 + quadOfPort p) = true) (pn r.params 0 1) ∧ pn r.params 1 1 = 0 ∧ s.chip.tideLocked (pn r.params 0 1) =
      false ∧ s.chip.tideCheck (pn r.params 0 1) ≠ 0) ∧
    (∃ s : State, ∃ r : Req, s.takes cmdTideCommit r ∧ ((fun (p : Nat) => s.chip.portValid p = true ∧ s.chip.domainOn
      (40 + quadOfPort p) = true) (pn r.params 0 1) ∧ pn r.params 1 1 = 0 ∧ s.chip.tideLocked (pn r.params 0 1) =
      true)) ∧
    (∃ s : State, ∃ r : Req, s.takes cmdPortHandover r ∧ (s.chip.portValid (pn r.params 0 1) = true)) ∧
    (∃ s : State, ∃ r : Req, s.takes cmdPortHandover r ∧ (s.chip.portValid (pn r.params 0 1) = false)) :=
  ⟨⟨(up fun c => c), (req 0 (layOut 12 [(8, 4, 2 ^ 16)])), by decide +kernel⟩,
    ⟨(up fun c => c), (req 0 (layOut 12 [(8, 4, 2 ^ 16)])), by decide +kernel⟩,
    ⟨(up fun c => { c with ident := { c.ident with half := true } }), (req 0 (layOut 12 [])), by decide +kernel⟩,
    ⟨(up fun c => c.setOn 40 false), (req 0 (layOut 12 [(8, 4, 2 ^ 16)])), by decide +kernel⟩,
    ⟨(up fun c => c), (req 0 (layOut 24 [(8, 8, 9728 * 2 ^ 32), (16, 4, 2 ^ 16), (20, 4, 128 * 2 ^ 16)])), by
      decide +kernel⟩,
    ⟨(up fun c => c.setOn 40 false), (req 0 (layOut 24 [(8, 8, 9728 * 2 ^ 32), (16, 4, 2 ^ 16), (20, 4, 128 * 2 ^
      16)])), by decide +kernel⟩,
    ⟨(up fun c => c), (req 0 (layOut 24 [(0, 1, 1)])), by decide +kernel⟩,
    ⟨(up fun c => c), (req 0 (layOut 1 [])), by decide +kernel⟩,
    ⟨(up fun c => c.setOn 40 false), (req 0 (layOut 1 [])), by decide +kernel⟩,
    ⟨(up fun c => c), (req 0 (layOut 1 [(0, 1, 1)])), by decide +kernel⟩,
    ⟨(up fun c => c), (req 0 (layOut 16 [])), by decide +kernel⟩,
    ⟨(up fun c => c.setStrm { c.strm with keys := [(c.normKey (keyOf 0), 0)] }), (req 0 (layOut 16 [])), by
      decide +kernel⟩,
    ⟨(up fun c => c), (req 0 (layOut 16 [])), by decide +kernel⟩,
    ⟨(up fun c => c), (req 0 (layOut 16 [(8, 8, 3 * 2 ^ 20)])), by decide +kernel⟩,
    ⟨(up fun c => c), (req 0 (layOut 40 [])), by decide +kernel⟩,
    ⟨(up fun c => c), (req 0 (layOut 40 [(0, 4, 0xFFFFFFFF)])), by decide +kernel⟩,
    ⟨(up fun c => c.setHandle 0 { c.handle 0 with valid := true }), (req 0 (layOut 40 [])), by decide +kernel⟩,
    ⟨(up fun c => c.setF .PORT_GRP_CFG_SPLIT 0 8), (req 0 (layOut 40 [(4, 1, 1)])), by decide +kernel⟩,
    ⟨(up fun c => c.setHandle 0 { c.handle 0 with valid := true }), (req 0 (layOut 40 [])), by decide +kernel⟩,
    ⟨(up fun c => c), (req 0 (layOut 40 [])), by decide +kernel⟩,
    ⟨(up fun c => c.setHandle 0 { c.handle 0 with valid := true }), (req 0 (layOut 4 [])), by decide +kernel⟩,
    ⟨(up fun c => c), (req 0 (layOut 4 [])), by decide +kernel⟩,
    ⟨(up fun c => let c := c.setHandle 0 { c.handle 0 with valid := true }; c.setRegion 0
      { c.region 0 with valid := true, handle := 0 }), (req 0 (layOut 4 [])), by decide +kernel⟩,
    ⟨(up fun c => (c.setF .STRM_PROFILE_VALID 0 1).setHandle 0 { c.handle 0 with valid := true }), (req 0 (layOut 56
      [])), by decide +kernel⟩,
    ⟨(up fun c => c), (req 0 (layOut 56 [])), by decide +kernel⟩,
    ⟨(up fun c => (c.setF .STRM_PROFILE_VALID 0 1).setF .STRM_PROFILE_PORT_IN_KEY 0 1), (req 0 (layOut 56 [(0, 8, 255
      * 2 ^ 32)])), by decide +kernel⟩,
    ⟨(up fun c => c.setF .STRM_PROFILE_VALID 0 1), (req 0 (layOut 56 [])), by decide +kernel⟩,
    ⟨(up fun c => c.setStrm { c.strm with keys := [(c.normKey (keyOf 0), 0)] }), (req 0 (layOut 56 [])), by
      decide +kernel⟩,
    ⟨(up fun c => c), (req 0 (layOut 56 [])), by decide +kernel⟩,
    ⟨(up fun c => (c.setF .STRM_PROFILE_VALID 0 1).setF .STRM_PROFILE_PORT_IN_KEY 0 1), (req 0 (layOut 56 [(0, 8, 255
      * 2 ^ 32)])), by decide +kernel⟩,
    ⟨(up fun c => let c := c.setHandle 0 { c.handle 0 with valid := true }; give c 5 0 0 []), (req 0 (layOut 12 [(4,
      2, 1), (8, 4, poolWord 0 5)])), 0, by decide +kernel⟩,
    ⟨(up fun c => c), (req 0 (layOut 6 [])), by decide +kernel⟩,
    ⟨(up fun c => c), (req 0 (layOut 32 [])), by decide +kernel⟩,
    ⟨(up fun c => c), (req 0 (layOut 32 [(0, 4, 65536)])), by decide +kernel⟩,
    ⟨(up fun c => c), (req 0 (layOut 56 [])), by decide +kernel⟩,
    ⟨(up fun c => c), (req 0 (layOut 56 [(0, 2, 4096)])), by decide +kernel⟩,
    ⟨(up fun c => c), (req 0 (layOut 32 [(2, 2, 255), (4, 2, 1)])), by decide +kernel⟩,
    ⟨(up fun c => c.setGate 0 { c.gate 0 with pend := some 5 }), (req 0 (layOut 32 [(4, 2, 1)])), by decide +kernel⟩,
    ⟨(up fun c => c.setGate 0 { c.gate 0 with cycleNs := 1000 }), (req 0 (layOut 3 [])), by decide +kernel⟩,
    ⟨(up fun c => c.setGate 0 { c.gate 0 with count := 257 }), (req 0 (layOut 3 [])), by decide +kernel⟩,
    ⟨(up fun c => c), (req 0 (layOut 3 [(2, 1, 1)])), by decide +kernel⟩,
    ⟨(up fun c => c), (req 0 (layOut 4 [])), by decide +kernel⟩,
    ⟨(up fun c => c), (req 0 (layOut 4 [(0, 4, 65536)])), by decide +kernel⟩,
    ⟨(up fun c => c.setHandle 0 { c.handle 0 with valid := true }), (req 0 (layOut 7 [(6, 1, 15)])), by
      decide +kernel⟩,
    ⟨(up fun c => c), (req 0 (layOut 7 [])), by decide +kernel⟩,
    ⟨(up fun c => c), (req 0 (layOut 24 [])), by decide +kernel⟩,
    ⟨(up fun c => let c := give c 0 0 0 []; c.setCursor 0 { c.cursor 0 with state := 1, berth := 0 }), (req 0 (layOut
      24 [])), by decide +kernel⟩,
    ⟨(up fun c => give c 0 0 0 []), (req 0 (layOut 2 [])), by decide +kernel⟩,
    ⟨(up fun c => c), (req 0 (layOut 2 [])), by decide +kernel⟩,
    ⟨(up fun c => let c := give c 0 0 0 []; c.setCursor 0 { c.cursor 0 with state := 1, berth := 0 }), (req 0 (layOut
      2 [])), by decide +kernel⟩,
    ⟨(up fun c => c), (req 0 (layOut 42 [])), by decide +kernel⟩,
    ⟨(up fun c => c), (req 0 (layOut 42 [(1, 1, 4)])), by decide +kernel⟩,
    ⟨(up fun c => c.setTide 0 { c.tide 0 with copying := true }), (req 0 (layOut 42 [(1, 1, 1)])), by decide +kernel⟩,
    ⟨(up fun c => c), (req 0 (layOut 24 [(2, 2, 1023), (4, 2, 1)])), by decide +kernel⟩,
    ⟨(up fun c => c.setTide 0 { c.tide 0 with copying := true }), (req 0 (layOut 24 [(4, 2, 1)])), by decide +kernel⟩,
    ⟨(up fun c => c.setF .TIDE_ADMIN_CYCLE_CYCLE_NS 0 1000), (req 0 (layOut 2 [])), by decide +kernel⟩,
    ⟨(up fun c => c), (req 0 (layOut 2 [])), by decide +kernel⟩,
    ⟨(up fun c => c.setTide 0 { c.tide 0 with copying := true }), (req 0 (layOut 2 [])), by decide +kernel⟩,
    ⟨(up fun c => c), (req 0 (layOut 1 [])), by decide +kernel⟩,
    ⟨(up fun c => c), (req 0 (layOut 1 [(0, 1, 1)])), by decide +kernel⟩⟩

theorem witness_UnitCommands :
    (∃ s : State, ∃ r : Req, s.takes cmdBrkwSet r ∧ (pn r.params 2 1 = 1 ∧ s.chip.cfgCode (pn r.params 0 2) (cfgOf (pn
      r.params 8 40)) (s.chip.inst (pn r.params 0 2)).paths = rOK)) ∧
    (∃ s : State, ∃ r : Req, s.takes cmdBrkwSet r ∧ (pn r.params 2 1 = 2 ∧ s.chip.pathsCode (pn r.params 0 2) (pn
      r.params 48 64) = rOK)) ∧
    (∃ s : State, ∃ r : Req, s.takes cmdBrkwSet r ∧ (pn r.params 2 1 = 3 ∧ (s.chip.brkwBoth (pn r.params 0 2) (pn
      r.params 8 40) (pn r.params 48 64)).1 = rOK)) ∧
    (∃ s : State, ∃ r : Req, s.takes cmdBrkwSet r ∧ (pn r.params 2 1 = 0)) ∧
    (∃ s : State, ∃ r : Req, s.takes cmdBrkwSet r ∧ (pn r.params 2 1 = 1 ∧ s.chip.cfgCode (pn r.params 0 2) (cfgOf (pn
      r.params 8 40)) (s.chip.inst (pn r.params 0 2)).paths = rParam)) ∧
    (∃ s : State, ∃ r : Req, s.takes cmdBrkwSet r ∧ (pn r.params 2 1 = 3 ∧ cfgRange (cfgOf (pn r.params 8 40)) = true
      ∧ s.chip.pathsNamed (pn r.params 48 64) = false)) ∧
    (∃ s : State, ∃ r : Req, s.takes cmdBrkwResetSeq r) ∧
    (∃ s : State, ∃ r : Req, s.takes cmdBrkwClear r ∧ (pn r.params 2 1 = 1)) ∧
    (∃ s : State, ∃ r : Req, s.takes cmdBrkwClear r ∧ (pn r.params 2 1 = 2)) ∧
    (∃ s : State, ∃ r : Req, s.takes cmdRegionCreate r ∧ (pn r.params 0 4 < 131072 ∧ pn r.params 4 1 ≤ 3 ∧ 1 ≤ pn
      r.params 8 4 ∧ pn r.params 8 4 ≤ 1048576 ∧ (s.chip.region (pn r.params 0 4)).valid = false ∧
      (s.chip.regionCreate (pn r.params 0 4) (pn r.params 4 1) (pn r.params 6 2) (pn r.params 8 4)).1 = rOK)) ∧
    (∃ s : State, ∃ r : Req, s.takes cmdRegionCreate r ∧ (pn r.params 0 4 < 131072 ∧ pn r.params 4 1 ≤ 3 ∧ 1 ≤ pn
      r.params 8 4 ∧ pn r.params 8 4 ≤ 1048576 ∧ (s.chip.region (pn r.params 0 4)).valid = true)) ∧
    (∃ s : State, ∃ r : Req, s.takes cmdRegionCreate r ∧ (pn r.params 0 4 < 131072 ∧ pn r.params 4 1 ≤ 3 ∧ 1 ≤ pn
      r.params 8 4 ∧ pn r.params 8 4 ≤ 1048576 ∧ (s.chip.region (pn r.params 0 4)).valid = false ∧ (s.chip.handle (pn
      r.params 6 2)).valid = false)) ∧
    (∃ s : State, ∃ r : Req, s.takes cmdRegionResize r ∧ pn r.params 0 4 < 131072 ∧ (s.chip.regionResize (pn r.params
      0 4) (pn r.params 8 4)).1 = rOK) ∧
    (∃ s : State, ∃ r : Req, s.takes cmdRegionResize r ∧ (pn r.params 0 4 < 131072 ∧ (s.chip.region (pn r.params 0
      4)).valid = false)) ∧
    (∃ s : State, ∃ r : Req, s.takes cmdRegionDelete r ∧ (pn r.params 0 4 < 131072 ∧ (s.chip.regionDelete (pn r.params
      0 4)).1 = rOK ∧ ∀ l ∈ List.range 64, s.chip.is .DMA_REQ_EN l = false)) ∧
    (∃ s : State, ∃ r : Req, s.takes cmdRegionDelete r ∧ (pn r.params 0 4 < 131072 ∧ (s.chip.region (pn r.params 0
      4)).valid = false)) ∧
    (∃ s : State, ∃ r : Req, s.takes cmdHoldSet r ∧ (pn r.params 0 4 < 131072 ∧ s.chip.holdCode (pn r.params 0 4) (pn
      r.params 8 24) = rOK ∧ (s.chip.region (pn r.params 0 4)).state = 0)) ∧
    (∃ s : State, ∃ r : Req, s.takes cmdHoldSet r ∧ (pn r.params 0 4 < 131072 ∧ s.chip.holdCode (pn r.params 0 4) (pn
      r.params 8 24) = rNotFound)) ∧
    (∃ s : State, ∃ r : Req, s.takes cmdHoldForce r ∧ pn r.params 0 4 < 131072 ∧ pn r.params 4 1 ≤ 1 ∧ s.chip.holdCode
      (pn r.params 0 4) ({ s.chip.region (pn r.params 0 4) with force := false }.holdRec + pn r.params 4 1 * 2 ^ 10) =
      rOK ∧ (s.chip.region (pn r.params 0 4)).state = 0) ∧
    (∃ s : State, ∃ r : Req, s.takes cmdHoldForce r ∧ (pn r.params 0 4 < 131072 ∧ 1 < pn r.params 4 1)) ∧
    (∃ s : State, ∃ r : Req, s.takes cmdRecordSet r ∧ (pn r.params 0 4 < 131072 ∧ s.chip.recordCode (pn r.params 0 4)
      (pn r.params 8 16) = rOK ∧ (s.chip.region (pn r.params 0 4)).spill = 0)) ∧
    (∃ s : State, ∃ r : Req, s.takes cmdRecordSet r ∧ (pn r.params 0 4 < 131072 ∧ s.chip.recordCode (pn r.params 0 4)
      (pn r.params 8 16) = rNotFound)) ∧
    (∃ s : State, ∃ r : Req, s.takes cmdRecordArm r ∧ pn r.params 0 4 < 131072 ∧ pn r.params 4 1 ≤ 1 ∧
      s.chip.recordCode (pn r.params 0 4) ({ s.chip.region (pn r.params 0 4) with arm := false }.recordRec + pn
      r.params 4 1) = rOK) ∧
    (∃ s : State, ∃ r : Req, s.takes cmdRecordArm r ∧ (pn r.params 0 4 < 131072 ∧ 1 < pn r.params 4 1)) ∧
    (∃ s : State, ∃ r : Req, s.takes cmdReplayStart r ∧ (pn r.params 0 2 ≤ 1023 ∧ (s.chip.replayStart (pn r.params 0
      2) (pn r.params 8 64)).1 = rOK ∧ s.chip.now + nsT 20000000 ≤ unpackTime (cursorOf (pn r.params 8 64)).l)) ∧
    (∃ s : State, ∃ r : Req, s.takes cmdReplayStart r ∧ (1023 < pn r.params 0 2 ∧ pn r.params 0 2 ≠ 0xFFFF)) ∧
    (∃ s : State, ∃ r : Req, s.takes cmdReplayStop r ∧ (pn r.params 0 2 < 1024 ∧ (s.chip.cursor (pn r.params 0
      2)).state = 1)) ∧
    (∃ s : State, ∃ r : Req, s.takes cmdReplayStop r ∧ (1024 ≤ pn r.params 0 2)) ∧
    (∃ s : State, ∃ r : Req, s.takes cmdScrubSet r ∧ (bits (pn r.params 0 4) 15 0 ≠ 0)) ∧
    (∃ s : State, ∃ r : Req, s.takes cmdScrubSet r ∧ (bits (pn r.params 0 4) 15 0 = 0)) ∧
    (∃ s : State, ∃ r : Req, ∃ d, s.takes cmdSpillPrepare r ∧ s.chip.driveAnswers (pn r.params 0 1) = some d ∧ pn
      r.params 0 1 ≤ 1 ∧ pn r.params 4 4 = 0x53504C31 ∧ s.chip.extentHeld (pn r.params 0 1) = false ∧ d.formats =
      true) ∧
    (∃ s : State, ∃ r : Req, ∃ d, s.takes cmdSpillPrepare r ∧ s.chip.driveAnswers (pn r.params 0 1) = some d ∧ pn
      r.params 0 1 ≤ 1 ∧ pn r.params 4 4 = 0x53504C31 ∧ s.chip.extentHeld (pn r.params 0 1) = true) ∧
    (∃ s : State, ∃ r : Req, s.takes cmdSpillPrepare r ∧ (pn r.params 0 1 ≤ 1 ∧ pn r.params 4 4 = 0x53504C31 ∧
      s.chip.driveAnswers (pn r.params 0 1) = none)) ∧
    (∃ s : State, ∃ r : Req, s.takes cmdSpillSet r ∧ (pn r.params 0 1 ≤ 1 ∧ spillCfgOk (pn r.params 8 8) = true)) ∧
    (∃ s : State, ∃ r : Req, s.takes cmdSpillSet r ∧ (1 < pn r.params 0 1)) ∧
    (∃ s : State, ∃ r : Req, s.takes cmdSlotPower r ∧ pn r.params 0 1 ≤ 1 ∧ pn r.params 1 1 ≤ 1 ∧ s.chip.domainOn 45 =
      true ∧ pn r.params 1 1 = 0 ∧ s.chip.powered (pn r.params 0 1) = true) ∧
    (∃ s : State, ∃ r : Req, s.takes cmdSlotPower r ∧ pn r.params 0 1 ≤ 1 ∧ pn r.params 1 1 ≤ 1 ∧ s.chip.domainOn 45 =
      true ∧ pn r.params 1 1 = 1 ∧ s.chip.powered (pn r.params 0 1) = false ∧ (s.chip.spilS (pn r.params 0 1)).drive =
      none) ∧
    (∃ s : State, ∃ r : Req, ∃ d, s.takes cmdSlotPower r ∧ pn r.params 0 1 ≤ 1 ∧ pn r.params 1 1 ≤ 1 ∧ s.chip.domainOn
      45 = true ∧ pn r.params 1 1 = 1 ∧ s.chip.powered (pn r.params 0 1) = false ∧ (s.chip.spilS (pn r.params 0
      1)).drive = some d ∧ (d.trains = false ∨ s.chip.is .SPIL_SLOT_STATUS_PWR_FAULT (pn r.params 0 1) = true)) ∧
    (∃ s : State, ∃ r : Req, ∃ d, s.takes cmdSlotPower r ∧ pn r.params 0 1 ≤ 1 ∧ pn r.params 1 1 ≤ 1 ∧ s.chip.domainOn
      45 = true ∧ pn r.params 1 1 = 1 ∧ s.chip.powered (pn r.params 0 1) = false ∧ (s.chip.spilS (pn r.params 0
      1)).drive = some d ∧ d.trains = true ∧ s.chip.is .SPIL_SLOT_STATUS_PWR_FAULT (pn r.params 0 1) = false) ∧
    (∃ s : State, ∃ r : Req, s.takes cmdSlotLocate r ∧ (pn r.params 0 1 ≤ 1 ∧ pn r.params 1 1 ≤ 1)) ∧
    (∃ s : State, ∃ r : Req, s.takes cmdDuoCfg r ∧ (pn r.params 0 1 ≤ 1 ∧ pn r.params 8 1 ≤ 1 ∧ 100 ≤ pn r.params 4 4
      ∧ pn r.params 4 4 ≤ 10000 ∧ s.chip.duoState = 0 ∧ (s.chip.groupPorts 31).any s.chip.portNamed = false ∧ pn
      r.params 0 1 = 0)) ∧
    (∃ s : State, ∃ r : Req, s.takes cmdDuoCfg r ∧ pn r.params 0 1 = 1 ∧ pn r.params 8 1 ≤ 1 ∧ 100 ≤ pn r.params 4 4 ∧
      pn r.params 4 4 ≤ 10000 ∧ s.chip.duoState = 0 ∧ (s.chip.groupPorts 31).any s.chip.portNamed = false ∧
      s.chip.is .DBG_STATUS_FTEST 0 = false ∧ s.chip.is .DUO_CFG_ENABLE 0 = false) ∧
    (∃ s : State, ∃ r : Req, s.takes cmdDuoCfg r ∧ (pn r.params 0 1 ≤ 1 ∧ pn r.params 8 1 ≤ 1 ∧ 100 ≤ pn r.params 4 4
      ∧ pn r.params 4 4 ≤ 10000 ∧ s.chip.duoState ≠ 0)) ∧
    (∃ s : State, ∃ r : Req, s.takes cmdDuoJoin r) ∧
    (∃ s : State, ∃ r : Req, s.takes cmdDuoLeave r ∧ (s.chip.duoState = 0)) ∧
    (∃ s : State, ∃ r : Req, s.takes cmdDuoLeave r ∧ s.chip.duoState = 2 ∧ s.chip.duoActive = true) ∧
    (∃ s : State, ∃ r : Req, s.takes cmdDuoLeave r ∧ ((s.chip.duoState = 2 ∧ s.chip.duoActive = false ∧
      s.chip.duo.pend = []) ∨ s.chip.duoState = 3)) ∧
    (∃ s : State, ∃ r : Req, s.takes cmdDuoSwap r) ∧
    (∃ s : State, ∃ r : Req, s.takes cmdFltCfg r ∧ (1 ≤ pn r.params 0 4 ∧ pn r.params 0 4 ≤ 60000 ∧ 1 ≤ pn r.params 4
      2 ∧ pn r.params 4 2 ≤ 1000 ∧ 1 ≤ pn r.params 8 4 ∧ pn r.params 8 4 ≤ 86400)) ∧
    (∃ s : State, ∃ r : Req, s.takes cmdFltCfg r ∧ (60000 < pn r.params 0 4)) ∧
    (∃ s : State, ∃ r : Req, s.takes cmdFltClearFirst r) ∧
    (∃ s : State, ∃ r : Req, s.takes cmdPwrDomainSet r ∧ s.chip.hasDomain (pn r.params 0 1) = true ∧ pn r.params 1 1 =
      1 ∧ s.chip.requested (pn r.params 0 1) = false) ∧
    (∃ s : State, ∃ r : Req, s.takes cmdPwrDomainSet r ∧ s.chip.hasDomain (pn r.params 0 1) = true ∧ pn r.params 1 1 =
      0 ∧ s.chip.offCode (pn r.params 0 1) = rOK ∧ s.chip.requested (pn r.params 0 1) = true ∧ (s.chip.duoState = 2 →
      pn r.params 0 1 < 32 ∨ (40 ≤ pn r.params 0 1 ∧ pn r.params 0 1 ≠ 45))) ∧
    (∃ s : State, ∃ r : Req, s.takes cmdPwrDomainSet r ∧ s.chip.hasDomain (pn r.params 0 1) = true ∧ pn r.params 1 1 =
      0 ∧ s.chip.offCode (pn r.params 0 1) ≠ rOK) ∧
    (∃ s : State, ∃ r : Req, s.takes cmdPwrDomainSet r ∧ (pn r.params 1 1 ≤ 1 ∧ s.chip.hasDomain (pn r.params 0 1) =
      false)) ∧
    (∃ s : State, ∃ r : Req, s.takes cmdSlackSet r ∧ (pn r.params 0 1 ≤ 3 ∧ slackCtrlOk (pn r.params 4 4) = true ∧
      slackCfgOk (pn r.params 8 4) = true ∧ s.chip.domainOn (40 + pn r.params 0 1) = true)) ∧
    (∃ s : State, ∃ r : Req, s.takes cmdSlackSet r ∧ (3 < pn r.params 0 1)) ∧
    (∃ s : State, ∃ r : Req, s.takes cmdAvsSet r ∧ avsCtrlOk (pn r.params 0 4) = true ∧ avsLimitsOk (pn r.params 8 8)
      = true) ∧
    (∃ s : State, ∃ r : Req, s.takes cmdAvsSet r ∧ (avsCtrlOk (pn r.params 0 4) = false)) ∧
    (∃ s : State, ∃ r : Req, s.takes cmdStageLeadSet r ∧ (s.chip.populated (pn r.params 0 1) = true ∧ 800 ≤ pn
      r.params 4 2 ∧ pn r.params 4 2 ≤ 10000 ∧ s.chip.domainOn (40 + quadOf (pn r.params 0 1)) = true ∧
      (s.chip.groupPorts (pn r.params 0 1)).all (fun k => s.chip.berthsOf k == []) = true)) ∧
    (∃ s : State, ∃ r : Req, s.takes cmdStageLeadSet r ∧ (s.chip.populated (pn r.params 0 1) = true ∧ pn r.params 4 2
      < 800)) ∧
    (∃ s : State, ∃ r : Req, s.takes cmdMonAccess r ∧ (pn r.params 0 1 ≤ 1)) ∧
    (∃ s : State, ∃ r : Req, s.takes cmdMonAccess r ∧ (1 < pn r.params 0 1)) ∧
    (∃ s : State, ∃ r : Req, s.takes cmdFreeze r) ∧
    (∃ s : State, ∃ r : Req, s.takes cmdCaptureRelease r) :=
  ⟨⟨(up fun c => c.setHandle 0 { c.handle 0 with valid := true }), (req 0 (layOut 112 [(2, 1, 1), (8, 40, (1 + 2 ^ 6
      + 4096 * 2 ^ 32) + (0xFFFFFFFF * 2 ^ 160) + 2 * 2 ^ 224)])), by decide +kernel⟩,
    ⟨(up fun c => c), (req 0 (layOut 112 [(2, 1, 2)])), by decide +kernel⟩,
    ⟨(up fun c => c.setHandle 0 { c.handle 0 with valid := true }), (req 0 (layOut 112 [(2, 1, 3), (8, 40, (1 + 2 ^ 6
      + 4096 * 2 ^ 32) + (0xFFFFFFFF * 2 ^ 160) + 2 * 2 ^ 224)])), by decide +kernel⟩,
    ⟨(up fun c => c), (req 0 (layOut 112 [])), by decide +kernel⟩,
    ⟨(up fun c => c), (req 0 (layOut 112 [(2, 1, 1), (8, 40, 7)])), by decide +kernel⟩,
    ⟨(up fun c => let c := c.setHandle 0 { c.handle 0 with valid := true }; c.setF .PORT_GRP_CFG_SPLIT 0 8), (req 0
      (layOut 112 [(2, 1, 3), (8, 40, (1 + 2 ^ 6 + 4096 * 2 ^ 32) + (0xFFFFFFFF * 2 ^ 160) + 2 * 2 ^ 224), (48, 8, 2 ^
      63 + 2 ^ 48)])), by decide +kernel⟩,
    ⟨(up fun c => c), (req 0 (layOut 2 [])), by decide +kernel⟩,
    ⟨(up fun c => c), (req 0 (layOut 3 [(2, 1, 1)])), by decide +kernel⟩,
    ⟨(up fun c => c), (req 0 (layOut 3 [(2, 1, 2)])), by decide +kernel⟩,
    ⟨(up fun c => c.setHandle 0 { c.handle 0 with valid := true, meterEn := true }), (req 0 (layOut 12 [(0, 4,
      131071), (8, 4, 1)])), by decide +kernel, ⟨by decide +kernel, by decide +kernel, by decide +kernel, by
      decide +kernel, by decide +kernel, regionCreate_ok _ _ _ _ _ (by decide +kernel) (by decide +kernel)⟩⟩,
    ⟨(up fun c => c.setRegion 3 { c.region 3 with valid := true, kind := 1, handle := 0, pages := [1] }), (req 0
      (layOut 12 [(0, 4, 3), (8, 4, 1048576)])), by decide +kernel⟩,
    ⟨(up fun c => c), (req 0 (layOut 12 [(4, 1, 3), (8, 4, 1)])), by decide +kernel⟩,
    ⟨(up fun c => c.setRegion 3 { c.region 3 with valid := true, kind := 1, handle := 0, pages := [1, 2] }), (req 0
      (layOut 12 [(0, 4, 3), (8, 4, 1)])), by decide +kernel⟩,
    ⟨(up fun c => c), (req 0 (layOut 12 [])), by decide +kernel⟩,
    ⟨(up fun c => c.setRegion 3 { c.region 3 with valid := true, kind := 1, handle := 0, pages := [1] }), (req 0
      (layOut 4 [(0, 4, 3)])), by decide +kernel⟩,
    ⟨(up fun c => c), (req 0 (layOut 4 [])), by decide +kernel⟩,
    ⟨(up fun c => let c := c.setHandle 0 { c.handle 0 with valid := true, egrLen := 1 };
      let c := c.setStrm { c.strm with pool := [(0, poolWord 0 5)] }; let c := give c 5 0 0 []; c.setRegion 3
      { c.region 3 with valid := true, kind := 2, handle := 0, pages := [1] }), (req 0 (layOut 32 [(0, 4, 3), (8, 24,
      20000 * 2 ^ 128)])), by decide +kernel⟩,
    ⟨(up fun c => c), (req 0 (layOut 32 [])), by decide +kernel⟩,
    ⟨(up fun c => let c := c.setHandle 0 { c.handle 0 with valid := true, egrLen := 1 };
      let c := c.setStrm { c.strm with pool := [(0, poolWord 0 5)] }; let c := give c 5 0 0 [];
      let c := c.setRegion 3 { c.region 3 with valid := true, kind := 2, handle := 0, pages := [1] }; c.setRegion 3
      ((c.region 3).withHold (20000 * 2 ^ 128))), (req 0 (layOut 5 [(0, 4, 3), (4, 1, 1)])), by decide +kernel⟩,
    ⟨(up fun c => c), (req 0 (layOut 5 [(4, 1, 2)])), by decide +kernel⟩,
    ⟨(up fun c => c.setRegion 3 { c.region 3 with valid := true, kind := 3, handle := 0, pages := [1] }), (req 0
      (layOut 24 [(0, 4, 3)])), by decide +kernel⟩,
    ⟨(up fun c => c), (req 0 (layOut 24 [])), by decide +kernel⟩,
    ⟨(up fun c => c.setRegion 3 { c.region 3 with valid := true, kind := 3, handle := 0, pages := [1] }), (req 0
      (layOut 5 [(0, 4, 3), (4, 1, 1)])), by decide +kernel⟩,
    ⟨(up fun c => c), (req 0 (layOut 5 [(4, 1, 2)])), by decide +kernel⟩,
    ⟨(up fun c => let c := give c 5 0 1 []; c.setRegion 3 { c.region 3 with valid := true, kind := 3, rate := 5 }),
      (req 0 (layOut 72 [(8, 64, 3 + 5 * 2 ^ 32 + packTime (nsT 1000) * 2 ^ 192 + packTime (nsT 30000000) * 2 ^
      320)])), by decide +kernel⟩,
    ⟨(up fun c => c), (req 0 (layOut 72 [(0, 2, 1024)])), by decide +kernel⟩,
    ⟨(up fun c => c.setCursor 1023 { c.cursor 1023 with state := 1 }), (req 0 (layOut 2 [(0, 2, 1023)])), by
      decide +kernel⟩,
    ⟨(up fun c => c), (req 0 (layOut 2 [(0, 2, 1024)])), by decide +kernel⟩,
    ⟨(up fun c => c), (req 0 (layOut 4 [(0, 4, 1)])), by decide +kernel⟩,
    ⟨(up fun c => c), (req 0 (layOut 4 [])), by decide +kernel⟩,
    ⟨(up fun c => let c := (c.setF .SPIL_SLOT_STATUS_LINK_UP 0 1).setF .SPIL_SLOT_CTRL_PWR_ON 0 1; c.setSpil 0
      { c.spilS 0 with drive := some (⟨65536, true, true, 5, 4, 300, 0, 0, 0⟩ : DriveInfo) }), (req 0 (layOut 8 [(4,
      4, 0x53504C31)])), (⟨65536, true, true, 5, 4, 300, 0, 0, 0⟩ : DriveInfo), by decide +kernel⟩,
    ⟨(up fun c => let c := (c.setF .SPIL_SLOT_STATUS_LINK_UP 0 1).setF .SPIL_SLOT_CTRL_PWR_ON 0 1;
      let c := c.setSpil 0 { c.spilS 0 with drive := some (⟨65536, true, true, 5, 4, 300, 0, 0, 0⟩ : DriveInfo) };
      c.setRegion 3
      { c.region 3 with valid := true, kind := 3, spill := 1, rings := [(0, ⟨[⟨1, 0, 0, some 7, false⟩], [], 0, 0⟩)] }),
      (req 0 (layOut 8 [(4, 4, 0x53504C31)])), (⟨65536, true, true, 5, 4, 300, 0, 0, 0⟩ : DriveInfo), by
      decide +kernel⟩,
    ⟨(up fun c => c), (req 0 (layOut 8 [(0, 1, 1), (4, 4, 0x53504C31)])), by decide +kernel⟩,
    ⟨(up fun c => c), (req 0 (layOut 16 [(0, 1, 1), (8, 8, 14000 * 2 ^ 32)])), by decide +kernel⟩,
    ⟨(up fun c => c), (req 0 (layOut 16 [(0, 1, 2)])), by decide +kernel⟩,
    ⟨(up fun c => let c := (c.setF .SPIL_SLOT_STATUS_LINK_UP 0 1).setF .SPIL_SLOT_CTRL_PWR_ON 0 1; c.setSpil 0
      { c.spilS 0 with drive := some (⟨65536, true, true, 5, 4, 300, 0, 0, 0⟩ : DriveInfo) }), (req 0 (layOut 2 [])),
      by decide +kernel⟩,
    ⟨(up fun c => c), (req 0 (layOut 2 [(1, 1, 1)])), by decide +kernel⟩,
    ⟨(up fun c => c.setSpil 0
      { c.spilS 0 with drive := some (⟨65536, true, false, 5, 4, 300, 0, 0, 0⟩ : DriveInfo) }), (req 0 (layOut 2 [(1,
      1, 1)])), (⟨65536, true, false, 5, 4, 300, 0, 0, 0⟩ : DriveInfo), by decide +kernel⟩,
    ⟨(up fun c => c.setSpil 0 { c.spilS 0 with drive := some (⟨65536, true, true, 5, 4, 300, 0, 0, 0⟩ : DriveInfo) }),
      (req 0 (layOut 2 [(1, 1, 1)])), (⟨65536, true, true, 5, 4, 300, 0, 0, 0⟩ : DriveInfo), by decide +kernel⟩,
    ⟨(up fun c => c), (req 0 (layOut 2 [])), by decide +kernel⟩,
    ⟨(up fun c => c), (req 0 (layOut 10 [(4, 4, 10000)])), by decide +kernel⟩,
    ⟨(up fun c => c.setB .DUO_CFG_ENABLE 0 false), (req 0 (layOut 10 [(0, 1, 1), (4, 4, 100)])), by decide +kernel⟩,
    ⟨(up fun c => c.setF .DUO_STATUS_STATE 0 3), (req 0 (layOut 10 [(4, 4, 100)])), by decide +kernel⟩,
    ⟨(up fun c => let c := c.setF .DUO_CFG_ENABLE 0 1; c.setF .PORT_STATUS_LINK_STATE 248 3), (req 0 (layOut 0 [])),
      by decide +kernel⟩,
    ⟨(up fun c => c), (req 0 (layOut 0 [])), by decide +kernel⟩,
    ⟨(up fun c => c.setF .DUO_STATUS_STATE 0 2), (req 0 (layOut 0 [])), by decide +kernel⟩,
    ⟨(up fun c => c.setF .DUO_STATUS_STATE 0 3), (req 0 (layOut 0 [])), by decide +kernel⟩,
    ⟨(up fun c => c.setF .DUO_STATUS_STATE 0 2), (req 0 (layOut 0 [])), by decide +kernel⟩,
    ⟨(up fun c => c), (req 0 (layOut 12 [(0, 4, 60000), (4, 2, 1000), (8, 4, 86400)])), by decide +kernel⟩,
    ⟨(up fun c => c), (req 0 (layOut 12 [(0, 4, 60001), (4, 2, 1000), (8, 4, 86400)])), by decide +kernel⟩,
    ⟨(up fun c => c), (req 0 (layOut 0 [])), by decide +kernel⟩,
    ⟨(up fun c => c.setF .PWR_DOMAIN_CTRL_REQ 0 0), (req 0 (layOut 2 [(0, 1, 0), (1, 1, 1)])), by decide +kernel⟩,
    ⟨(up fun c => c), (req 0 (layOut 2 [])), by decide +kernel⟩,
    ⟨(up fun c => c), (req 0 (layOut 2 [(0, 1, 46)])), by decide +kernel⟩,
    ⟨(up fun c => c), (req 0 (layOut 2 [(0, 1, 47)])), by decide +kernel⟩,
    ⟨(up fun c => c), (req 0 (layOut 12 [(0, 1, 3), (4, 4, 0x030201), (8, 4, 128)])), by decide +kernel⟩,
    ⟨(up fun c => c), (req 0 (layOut 12 [(0, 1, 4)])), by decide +kernel⟩,
    ⟨(up fun c => c), (req 0 (layOut 16 [(0, 4, 0x3232), (8, 8, 10 * 2 ^ 48 + 50 * 2 ^ 32 + 640 * 2 ^ 16 + 600)])), by
      decide +kernel⟩,
    ⟨(up fun c => c), (req 0 (layOut 16 [])), by decide +kernel⟩,
    ⟨(up fun c => c), (req 0 (layOut 6 [(0, 1, 31), (4, 2, 10000)])), by decide +kernel⟩,
    ⟨(up fun c => c), (req 0 (layOut 6 [])), by decide +kernel⟩,
    ⟨(up fun c => c), (req 0 (layOut 1 [])), by decide +kernel⟩,
    ⟨(up fun c => c), (req 0 (layOut 1 [(0, 1, 2)])), by decide +kernel⟩,
    ⟨(up fun c => c), (req 0 (layOut 0 [])), by decide +kernel⟩,
    ⟨(up fun c => let c := c.setB .DBG_STATUS_CAPTURE_HELD 0 true; c.setF .DBG_STATUS_CAP_LINES 0 2), (req 0 (layOut 0
      [])), by decide +kernel⟩⟩

theorem witness_TimeNowReads :
    (∃ s : State, ∃ src : Src, s.up ∧ (src = .host → s.chip.hostServed = true)) ∧
    (∃ s : State, ∃ src : Src, ∃ len : Nat, s.up ∧ (src = .host → s.chip.hostServed = true) ∧ len ∈ [4, 8]) :=
  ⟨⟨(up fun c => c), .host, by decide +kernel⟩,
    ⟨(up fun c => c), .host, 8, by decide +kernel⟩⟩

theorem witness_ProfileWrites :
    (∃ s : State, ∃ src : Src, ∃ n : Nat, ∃ v : Nat, s.chip.admits src .STRM ∧ n < 16 ∧ v < 2 ^ 64 ∧ s.chip.profUsed n
      = true) ∧
    (∃ s : State, ∃ src : Src, ∃ data : Nat, s.chip.admits src .STRM) ∧
    (∃ s : State, ∃ src : Src, ∃ data : Nat, s.chip.admits src .STRM ∧ s.chip.is .STRM_PROFILE_VALID (s.chip.normKey
      (keyOf s.chip.strmData)).profile = true ∧ s.chip.is .STRM_PROFILE_PORT_IN_KEY (s.chip.normKey (keyOf
      s.chip.strmData)).profile = false ∧ (s.chip.handle (keyHandle s.chip.strmData)).valid = true ∧ s.chip.keysOf
      (keyHandle s.chip.strmData) < 8 ∧ s.chip.strm.keys.length < 61440 ∧ s.chip.findKey (s.chip.normKey (keyOf
      s.chip.strmData)) = none) ∧
    (∃ s : State, ∃ src : Src, ∃ data : Nat, s.chip.admits src .STRM ∧ s.chip.is .STRM_PROFILE_VALID (s.chip.normKey
      (keyOf s.chip.strmData)).profile = false) :=
  ⟨⟨(own fun c => c.setStrm { c.strm with keys := [(c.normKey (keyOf 0), 0)] }), .host, 0, (2 ^ 64 - 1), by
      decide +kernel⟩,
    ⟨(own fun c => c), .host, 0, by decide +kernel⟩,
    ⟨(own fun c => (c.setF .STRM_PROFILE_VALID 0 1).setHandle 0 { c.handle 0 with valid := true }), .host, 0, by
      decide +kernel⟩,
    ⟨(own fun c => c), .host, 0, by decide +kernel⟩⟩

theorem witness_SlackRules :
    (∃ s : State, ∃ src : Src, ∃ q : Nat, ∃ v : Nat, s.chip.admits src .CORE ∧ q < 4 ∧ v < 2 ^ 32 ∧ s.chip.domainOn
      (40 + q) = true ∧ bits v 7 0 < bits v 15 8 ∧ bits v 15 8 < bits v 23 16) ∧
    (∃ s : State, ∃ src : Src, ∃ q : Nat, ∃ v : Nat, s.chip.admits src .CORE ∧ q < 4 ∧ v < 2 ^ 32 ∧ s.chip.domainOn
      (40 + q) = true ∧ ¬ (bits v 7 0 < bits v 15 8 ∧ bits v 15 8 < bits v 23 16)) ∧
    (∃ s : State, ∃ src : Src, ∃ q : Nat, ∃ v : Nat, s.chip.admits src .CORE ∧ q < 4 ∧ v < 2 ^ 32 ∧ s.chip.domainOn
      (40 + q) = true ∧ 64 ≤ bits v 7 0 ∧ bits v 7 0 ≤ 128) ∧
    (∃ s : State, ∃ src : Src, ∃ q : Nat, ∃ v : Nat, s.chip.admits src .CORE ∧ q < 4 ∧ v < 2 ^ 32 ∧ s.chip.domainOn
      (40 + q) = true ∧ ¬ (64 ≤ bits v 7 0 ∧ bits v 7 0 ≤ 128)) :=
  ⟨⟨(own fun c => c), .host, 3, 0x030201, by decide +kernel⟩,
    ⟨(own fun c => c), .host, 0, 0x010201, by decide +kernel⟩,
    ⟨(own fun c => c), .host, 3, 128, by decide +kernel⟩,
    ⟨(own fun c => c), .host, 0, 129, by decide +kernel⟩⟩

theorem witness_CounterReloaded :
    ∃ s : State, ∃ k : Nat, ∃ v : Nat, s.chip.ticking = true ∧ k < 3 ∧ v % timeWrap ≠ s.chip.raw :=
  ⟨(up fun c => c), 2, 1, by decide +kernel⟩

end Sys2Proof.Tests
end

section
/-!
PROOFS. What a REGISTER_WRITE of a whole 32-bit register does, once its path may write it (R11, R313, R445-R447), and what
the note of the state shown that ends the command leaves as it was (R297).
-/
namespace Sys2Proof.Machine

/-! ### What the note of the state shown keeps -/

/-- The note writes no register but those of the event ring, the lost events and the lost records. -/
theorem SameRegs.noteState {l : List Fld} {s t : State} (h : SameRegs l s t) :
    SameRegs (l ++ eventFlds) s (t.on Chip.noteState) := by
  intro f hf i
  simp only [eventFlds, List.mem_append, List.mem_cons, List.not_mem_nil, or_false, not_or] at hf
  obtain ⟨hl, hwr, hevt, hsaff⟩ := hf
  exact (Chip.noteState_fld t.chip f i hwr hevt hsaff).trans (h f hl i)

theorem SamePlane.noteState {s t : State} (h : SamePlane s t) : SamePlane s (t.on Chip.noteState) := by
  simpa [SamePlane] using h

/-! ### The write of a whole register -/

/-- A command that keeps the link state of port 248 is no loss of the duo link (R383). -/
theorem State.watchLink_of_link (s : State) (f : State → State) (h : (f s).chip.link 248 = s.chip.link 248) :
    s.watchLink f = f s := by
  have hn : ¬ (s.chip.link 248 = 3 ∧ (f s).chip.link 248 ≠ 3) := fun ⟨was, now⟩ => now (h.trans was)
  simp only [State.watchLink, if_neg hn]

/-- The offset is that of the 32-bit register d with index i, and no hand-over copy holds a write of it (R129, R443). -/
structure RegDesc.WordAt (d : RegDesc) (off i : Nat) : Prop where
  aligned : off % 4 = 0
  block : blockAt off = some d.block
  noArea : areaAt off = none
  reg : regAt off = some (d, i)
  width : d.width = 32
  notHeld : d.reg ∉ [Reg.SCHD_BERTH_CFG, .SCHD_BERTH_SHAPER, .TIDE_PORT_CFG]

/-- A path that may write a lit register sets it: nothing drops or holds the write. -/
theorem State.writeReg_sets (s : State) (src : Src) {d : RegDesc} (i v : Nat) (half : Bool) (hlit : s.chip.dark d i = false)
    (hmay : s.chip.mayWrite d.block = true) (hstrm : d.block = .STRM → s.chip.replicaCopy = false)
    (hheld : d.reg ∉ [Reg.SCHD_BERTH_CFG, .SCHD_BERTH_SHAPER, .TIDE_PORT_CFG]) :
    s.writeReg src d i v half = s.setReg d i v := by
  have hc : [Reg.SCHD_BERTH_CFG, .SCHD_BERTH_SHAPER, .TIDE_PORT_CFG].contains d.reg = false := by
    simpa using hheld
  have hb : (d.block == .STRM && s.chip.replicaCopy) = false := by simpa using hstrm
  simp only [State.writeReg, hlit, hmay, hb, hc, Bool.not_true, Bool.false_and, Bool.false_eq_true, ↓reduceIte]

/-- A served write of 4 bytes at the offset of a 32-bit register writes that register whole. -/
theorem State.writeBar_word (s : State) (src : Src) {d : RegDesc} {off i v : Nat} (hd : d.WordAt off i) (hv : v < 2 ^ 32) :
    s.writeBar src off 4 v = (s.on fun c => c.dropHalves src).writeReg src d i v false := by
  have hgood : badAccess off 4 = false := by
    have := hd.aligned
    simp only [badAccess, Bool.or_eq_false_iff, decide_eq_false_iff_not]
    omega
  have hmod : v % 4294967296 = v := Nat.mod_eq_of_lt hv
  simp [State.writeBar, State.write4, hgood, hd.aligned, hd.noArea, hd.reg, hd.width, hmod]

theorem exec_registerWrite (src : Src) (off len v : Nat) (s : State) :
    exec (.registerWrite src off len v) s = .next ((s.regWrite src off len v).on Chip.noteState) := rfl

/-- REGISTER_WRITE of a 32-bit register that is lit, reached and claimed: the path drops the halves it held, the register
takes the value, and a change of the state shown is noted. -/
theorem exec_registerWrite_word (s : State) (src : Src) {d : RegDesc} {off i v : Nat} (g : Chip → Chip)
    (hd : d.WordAt off i) (hv : v < 2 ^ 32) (hadm : s.chip.admits src d.block)
    (hlit : (s.chip.dropHalves src).dark d i = false) (hset : ∀ s : State, s.setReg d i v = s.on g)
    (hlink : (g (s.chip.dropHalves src)).link 248 = s.chip.link 248) :
    exec (.registerWrite src off 4 v) s = .next ((s.on fun c => g (c.dropHalves src)).on Chip.noteState) := by
  obtain ⟨hreach, hmay, hcopy⟩ := hadm
  have hbar : s.writeBar src off 4 v = s.on fun c => g (c.dropHalves src) := by
    rw [State.writeBar_word s src hd hv, State.writeReg_sets (s.on fun c => c.dropHalves src), hset]
    · rfl
    · exact hlit
    · exact (Chip.dropHalves_mayWrite ..).trans hmay
    · simpa [Chip.replicaCopy] using hcopy
    · exact hd.notHeld
  have hwatch : (s.watchLink fun s => s.writeBar src off 4 v) = s.writeBar src off 4 v :=
    s.watchLink_of_link _ (by rw [hbar]; exact hlink)
  have hmr : s.chip.mayReach src off = true := by simp [Chip.mayReach, hd.block, hreach]
  have hreg : s.regWrite src off 4 v = s.on fun c => g (c.dropHalves src) := by
    simp only [State.regWrite, hmr, Bool.not_true, Bool.false_eq_true, ↓reduceIte, hwatch, hbar]
  rw [exec_registerWrite, hreg]

end Sys2Proof.Machine
end

section
/-!
PROOFS. The two slack registers of a quadrant (R38): where they lie, what a value in and out of its rules does, and the
statement assembled from both.
-/
namespace Sys2Proof.Machine

/-! ### The two registers -/

/-- The row of CORE_SLACK_CTRL in the register table. -/
def slackCtrlDesc : RegDesc := regsCORE[0]'(by decide)

/-- The row of CORE_SLACK_CFG in the register table. -/
def slackCfgDesc : RegDesc := regsCORE[1]'(by decide)

theorem slackCtrlDesc_wordAt {q : Nat} (hq : q < 4) : slackCtrlDesc.WordAt (0x80000 + 0x100 * q) q := by
  match q, hq with
  | 0, _ | 1, _ | 2, _ | 3, _ => exact ⟨rfl, rfl, rfl, rfl, rfl, by decide⟩

theorem slackCfgDesc_wordAt {q : Nat} (hq : q < 4) : slackCfgDesc.WordAt (0x80004 + 0x100 * q) q := by
  match q, hq with
  | 0, _ | 1, _ | 2, _ | 3, _ => exact ⟨rfl, rfl, rfl, rfl, rfl, by decide⟩

/-- They are dark exactly while their quadrant's domain is off (R5). -/
theorem Chip.dark_slackCtrl (c : Chip) (q : Nat) : c.dark slackCtrlDesc q = !c.domainOn (40 + q) := rfl

theorem Chip.dark_slackCfg (c : Chip) (q : Nat) : c.dark slackCfgDesc q = !c.domainOn (40 + q) := rfl

@[simp] theorem Chip.dropHalves_domainOn (c : Chip) (src : Src) (d : Nat) :
    (c.dropHalves src).domainOn d = c.domainOn d := by
  simp [Chip.domainOn, Chip.bitF]

/-! ### A CORE write and its rules -/

theorem Chip.coreWrite_ok (c : Chip) {ok : Bool} (source off : Nat) (f : Chip → Chip) (h : ok = true) :
    c.coreWrite ok source off f = f c := by
  simp [Chip.coreWrite, h]

/-- Out of its rules, the write is dropped whole and CORE_PARAM is reported. -/
theorem Chip.coreWrite_bad (c : Chip) {ok : Bool} (source off : Nat) (f : Chip → Chip) (h : ok = false) :
    c.coreWrite ok source off f = c.reportR ⟨source, 0x008, off, false⟩ := by
  simp [Chip.coreWrite, h]

/-- In or out of its rules, the write keeps the fields that its register does not hold. -/
theorem Chip.coreWrite_fld (c : Chip) (ok : Bool) (source off : Nat) (f : Chip → Chip) (g : Fld) (j : Nat)
    (h : (f c).fld g j = c.fld g j) : (c.coreWrite ok source off f).fld g j = c.fld g j := by
  unfold Chip.coreWrite
  split
  · exact h
  · simp

theorem slackCtrlOk_iff (v : Nat) :
    slackCtrlOk v = true ↔ bits v 7 0 < bits v 15 8 ∧ bits v 15 8 < bits v 23 16 := by
  simp [slackCtrlOk]

theorem slackCfgOk_iff (v : Nat) : slackCfgOk v = true ↔ 64 ≤ bits v 7 0 ∧ bits v 7 0 ≤ 128 := by
  simp [slackCfgOk]

/-- The fields of CORE_SLACK_CTRL. -/
def slackCtrlFlds : List Fld :=
  [.CORE_SLACK_CTRL_ENABLE, .CORE_SLACK_CTRL_LOWER_THR, .CORE_SLACK_CTRL_WARN_THR, .CORE_SLACK_CTRL_RAISE_THR]

theorem Chip.applySlackCtrl_fld (c : Chip) (q v : Nat) (g : Fld) (j : Nat) (h : g ∉ slackCtrlFlds) :
    (c.applySlackCtrl q v).fld g j = c.fld g j := by
  simp only [slackCtrlFlds, List.mem_cons, List.not_mem_nil, or_false, not_or] at h
  obtain ⟨he, hl, hw, hr⟩ := h
  simp [Chip.applySlackCtrl, Ne.symm he, Ne.symm hl, Ne.symm hw, Ne.symm hr]

theorem Chip.applySlackCfg_fld (c : Chip) (q v : Nat) (g : Fld) (j : Nat) (h : g ≠ .CORE_SLACK_CFG_TARGET_SIZE) :
    (c.applySlackCfg q v).fld g j = c.fld g j := by
  simp [Chip.applySlackCfg, Ne.symm h]

/-! ### The two writes as commands -/

/-- REGISTER_WRITE of CORE_SLACK_CTRL. -/
theorem exec_slackCtrl (s : State) {src : Src} {q v : Nat} (hadm : s.chip.admits src .CORE) (hq : q < 4) (hv : v < 2 ^ 32)
    (hon : s.chip.domainOn (40 + q) = true) :
    exec (.registerWrite src (0x80000 + 0x100 * q) 4 v) s =
      .next ((s.on fun c => (c.dropHalves src).wrSlackCtrl q v).on Chip.noteState) := by
  refine exec_registerWrite_word s src (fun c => c.wrSlackCtrl q v) (slackCtrlDesc_wordAt hq) hv hadm ?_ (fun _ => rfl) ?_
  · simp [Chip.dark_slackCtrl, hon]
  · exact (Chip.coreWrite_fld _ _ _ _ _ _ _ (Chip.applySlackCtrl_fld _ _ _ _ _ (by decide))).trans
      (Chip.dropHalves_fld ..)

/-- REGISTER_WRITE of CORE_SLACK_CFG. -/
theorem exec_slackCfg (s : State) {src : Src} {q v : Nat} (hadm : s.chip.admits src .CORE) (hq : q < 4) (hv : v < 2 ^ 32)
    (hon : s.chip.domainOn (40 + q) = true) :
    exec (.registerWrite src (0x80004 + 0x100 * q) 4 v) s =
      .next ((s.on fun c => (c.dropHalves src).wrSlackCfg q v).on Chip.noteState) := by
  refine exec_registerWrite_word s src (fun c => c.wrSlackCfg q v) (slackCfgDesc_wordAt hq) hv hadm ?_ (fun _ => rfl) ?_
  · simp [Chip.dark_slackCfg, hon]
  · exact (Chip.coreWrite_fld _ _ _ _ _ _ _ (Chip.applySlackCfg_fld _ _ _ _ _ (by decide))).trans
      (Chip.dropHalves_fld ..)

/-- What a dropped CORE write leaves: the report in the batch, and all else but the path's halves as it was. -/
theorem coreWrite_dropped (s : State) (src : Src) (r : Report) :
    let t := (s.on fun c => (c.dropHalves src).reportR r).on Chip.noteState
    SameRegs eventFlds s t ∧ t.chip.flt.batch = s.chip.flt.batch ++ [r] ∧ SamePlane s t ∧ SameStore s t := by
  refine ⟨SameRegs.noteState (l := []) ?_, ?_, SamePlane.noteState ?_, rfl, rfl, rfl⟩
  · intro f _ i
    simp
  · simp [Chip.reportR]
  · simp [SamePlane]

theorem slackCtrl_taken (s : State) (src : Src) (q v : Nat) :
    let t := (s.on fun c => (c.dropHalves src).applySlackCtrl q v).on Chip.noteState
    t.chip.fld .CORE_SLACK_CTRL_ENABLE q = bits v 31 31 ∧ t.chip.fld .CORE_SLACK_CTRL_LOWER_THR q = bits v 23 16 ∧
      t.chip.fld .CORE_SLACK_CTRL_WARN_THR q = bits v 15 8 ∧ t.chip.fld .CORE_SLACK_CTRL_RAISE_THR q = bits v 7 0 ∧
      SameRegs (slackCtrlFlds ++ eventFlds) s t ∧ SamePlane s t ∧ SameStore s t := by
  have hregs : SameRegs slackCtrlFlds s (s.on fun c => (c.dropHalves src).applySlackCtrl q v) := by
    intro f hf i
    simp [Chip.applySlackCtrl_fld _ _ _ _ _ hf]
  have hplane : SamePlane s (s.on fun c => (c.dropHalves src).applySlackCtrl q v) := by
    simp [SamePlane, Chip.applySlackCtrl]
  refine ⟨?_, ?_, ?_, ?_, hregs.noteState, hplane.noteState, rfl, rfl, rfl⟩ <;>
    simp [Chip.noteState_fld, Chip.applySlackCtrl]

theorem slackCfg_taken (s : State) (src : Src) (q v : Nat) :
    let t := (s.on fun c => (c.dropHalves src).applySlackCfg q v).on Chip.noteState
    t.chip.fld .CORE_SLACK_CFG_TARGET_SIZE q = bits v 7 0 ∧
      SameRegs (.CORE_SLACK_CFG_TARGET_SIZE :: eventFlds) s t ∧ SamePlane s t ∧ SameStore s t := by
  refine ⟨?_, SameRegs.noteState (l := [.CORE_SLACK_CFG_TARGET_SIZE]) ?_, SamePlane.noteState ?_, rfl, rfl, rfl⟩
  · simp [Chip.noteState_fld, Chip.applySlackCfg]
  · intro f hf i
    simp [Chip.applySlackCfg_fld _ _ _ _ _ (List.ne_of_not_mem_cons hf)]
  · simp [SamePlane, Chip.applySlackCfg]

/-- Settles O59: each of the two writes reaches its register, which takes a value within its rules and otherwise only
reports. -/
theorem slackRules : Obligations.SlackRules := by
  unfold Obligations.SlackRules
  refine ⟨by decide, fun s src q v hadm hq hv hon => ?_⟩
  have hctrl := exec_slackCtrl s hadm hq hv hon
  have hcfg := exec_slackCfg s hadm hq hv hon
  refine ⟨fun h => ⟨_, hctrl, ?_⟩, fun h => ⟨_, hctrl, ?_⟩, fun h => ⟨_, hcfg, ?_⟩, fun h => ⟨_, hcfg, ?_⟩⟩
  · simp only [Chip.wrSlackCtrl, Chip.coreWrite_ok _ _ _ _ ((slackCtrlOk_iff v).2 h)]
    exact slackCtrl_taken s src q v
  · rw [← slackCtrlOk_iff, Bool.not_eq_true] at h
    simp only [Chip.wrSlackCtrl, Chip.coreWrite_bad _ _ _ _ h]
    exact coreWrite_dropped s src _
  · simp only [Chip.wrSlackCfg, Chip.coreWrite_ok _ _ _ _ ((slackCfgOk_iff v).2 h)]
    exact slackCfg_taken s src q v
  · rw [← slackCfgOk_iff, Bool.not_eq_true] at h
    simp only [Chip.wrSlackCfg, Chip.coreWrite_bad _ _ _ _ h]
    exact coreWrite_dropped s src _

end Sys2Proof.Machine
end

section
/-!
PROOFS. The reload of a counter that alone differs (R55): what TIME_CTR_RELOAD does to the device, and what it leaves.
-/
namespace Sys2Proof.Machine

theorem exec_timeCtrReload (k v : Nat) (s : State) :
    exec (.timeCtrReload k v) s = .next (s.on fun c => c.ctrReload k v) := rfl

/-- A reload of counter k in the register file: it is counted, its sticky bit is set and the counter is named. -/
def Chip.noteReload (c : Chip) (k : Nat) : Chip :=
  ((c.count 32 .TIME_VOTE_CNT_RELOADS 0).setB .TIME_STATUS_RELOAD_SEEN 0 true).setF .TIME_STATUS_LAST_BAD 0 k

/-- At an edge of a running reference, a counter that alone differs is reloaded, noted and reported. -/
theorem Chip.ctrReload_differs (c : Chip) {k v : Nat} (hon : c.ticking = true) (hk : k < 3) (hv : v % timeWrap ≠ c.raw) :
    c.ctrReload k v = ((c.setRaw c.raw).noteReload k).reportR ⟨0x1000, 0x102, k, false⟩ := by
  have hacts : ¬ (!c.ticking || decide (3 ≤ k) || decide (v % timeWrap = c.raw)) = true := by
    simp [hon, hk, hv]
  exact if_neg hacts

theorem Chip.noteReload_seen (c : Chip) (k : Nat) : (c.noteReload k).is .TIME_STATUS_RELOAD_SEEN 0 = true := by
  simp [Chip.noteReload, Chip.is, bit]

theorem Chip.noteReload_lastBad (c : Chip) (k : Nat) : (c.noteReload k).fld .TIME_STATUS_LAST_BAD 0 = k := by
  simp [Chip.noteReload]

theorem Chip.noteReload_reloads (c : Chip) (k : Nat) :
    (c.noteReload k).fld .TIME_VOTE_CNT_RELOADS 0 = satAdd 32 (c.fld .TIME_VOTE_CNT_RELOADS 0) 1 := by
  simp [Chip.noteReload]

theorem Chip.noteReload_fld (c : Chip) (k : Nat) (g : Fld) (j : Nat)
    (h : g ∉ [Fld.TIME_STATUS_RELOAD_SEEN, .TIME_STATUS_LAST_BAD, .TIME_VOTE_CNT_RELOADS]) :
    (c.noteReload k).fld g j = c.fld g j := by
  simp only [List.mem_cons, List.not_mem_nil, or_false, not_or] at h
  obtain ⟨hseen, hbad, hcnt⟩ := h
  simp [Chip.noteReload, Ne.symm hseen, Ne.symm hbad, Ne.symm hcnt]

/-- Settles O60: the three counters take the voted time, the reload is noted and reported, and nothing else changes. -/
theorem counterReloaded : Obligations.CounterReloaded := by
  unfold Obligations.CounterReloaded
  refine ⟨by decide, fun s k v hon hk hv => ?_⟩
  have hrun := s.chip.ctrReload_differs hon hk hv
  refine ⟨_, exec_timeCtrReload k v s, ?_⟩
  simp only [State.on_chip, hrun, SameRegs, SamePlane]
  refine ⟨rfl, rfl, rfl, ?seen, ?lastBad, ?reloads, rfl, ?regs, ⟨rfl, rfl, rfl, rfl, rfl⟩, rfl, rfl, rfl⟩
  case seen => exact Chip.noteReload_seen _ k
  case lastBad => exact Chip.noteReload_lastBad _ k
  case reloads => exact Chip.noteReload_reloads _ k
  case regs => exact fun f hf i => Chip.noteReload_fld _ k f i hf

end Sys2Proof.Machine
end

section
/-!
PROOFS. Reads of TIME_NOW and TIME_NOW_HI: what R58 says holds of every read that nothing delays, on either path. A read by
the host driver waits while a copy holds an earlier posted write of it (R254, R405) and answers nothing then, which refutes
the statement that has every served read answered.
-/
namespace Sys2Proof.Machine

theorem exec_registerRead (src : Src) (off len : Nat) (s : State) :
    exec (.registerRead src off len) s = .next (s.regRead src off len) := rfl

/-! ### A read that is answered -/

/-- A served read of a running core is answered, unless a copy holds its register or a posted write of the host driver. -/
theorem State.regRead_answers (s : State) {src : Src} {off len : Nat} (hup : s.up)
    (hserved : src = .host → s.chip.hostServed = true) (hgood : badAccess off len = false)
    (hcopy : s.chip.readHeldBy off = none) (hfree : src = .host → s.chip.hostWriteHeld = none) :
    s.regRead src off len = s.readAnswer src off len := by
  obtain ⟨hrst, haon, hfroz⟩ := s.chip.live_eq hup
  cases src with
  | host => simp [State.regRead, Chip.readWaits, hserved rfl, hgood, hcopy, hfree rfl]
  | mon => simp [State.regRead, Chip.readWaits, hgood, hcopy, haon, hfroz, Chip.inReset, hrst]

/-- The rows of TIME_NOW and of its companion in the register table. -/
def timeNowDesc : RegDesc := regsTIME0[0]'(by decide)
def timeNowHiDesc : RegDesc := regsTIME0[1]'(by decide)

theorem State.regShow_timeNow (s : State) : s.regShow timeNowDesc 0 = packTime s.chip.now % 2 ^ 64 := by
  have hsum : s.regShow timeNowDesc 0 = [s.showF .TIME_NOW_NOW 0 * 1].sum := rfl
  rw [hsum, List.sum_singleton, Nat.mul_one]
  rfl

theorem State.regShow_timeNowHi (s : State) : s.regShow timeNowHiDesc 0 = packTime s.chip.now / 2 ^ 64 := by
  have hsum : s.regShow timeNowHiDesc 0 = [s.showF .TIME_NOW_HI_SEC_HI 0 * 1].sum := rfl
  rw [hsum, List.sum_singleton, Nat.mul_one]
  rfl

/-- The path latches a value as that of the _HI register at an offset (R448). -/
def Chip.latch (c : Chip) (src : Src) (off v : Nat) : Chip :=
  c.setPath src { c.path src with hi := kInsert (c.path src).hi off v }

theorem Chip.latch_hi (c : Chip) (src : Src) (off v : Nat) : kGet 0 ((c.latch src off v).path src).hi off = v := by
  cases src <;> exact (kGet_kInsert ..).trans (if_pos rfl)

theorem State.readBar_timeNow (s : State) (src : Src) :
    s.readBar src 0x50000 8 = (packTime s.chip.now % 2 ^ 64,
      s.on fun c => (c.dropHalves src).latch src 0x50008 (packTime s.chip.now / 2 ^ 64)) := by
  rw [← s.regShow_timeNow, ← s.regShow_timeNowHi]
  cases src <;> rfl

theorem State.readBar_timeNowHi (s : State) (src : Src) {len : Nat} (h : len ∈ [4, 8]) :
    s.readBar src 0x50008 len = (kGet 0 (s.chip.path src).hi 0x50008 % 2 ^ 32, s.on fun c => c.dropHalves src) := by
  simp only [List.mem_cons, List.not_mem_nil, or_false] at h
  obtain rfl | rfl := h <;> cases src <;> rfl

/-- The first half of R58, of every read that no posted write of the host driver delays. -/
theorem timeNow_read_answers (s : State) {src : Src} (hup : s.up) (hserved : src = .host → s.chip.hostServed = true)
    (hfree : src = .host → s.chip.hostWriteHeld = none) :
    Gives (.registerRead src 0x50000 8) s fun t =>
      t.chip.out = s.chip.out ++ [.readData src 0 8 (packTime s.chip.now % 2 ^ 64)] ∧
        kGet 0 (t.chip.path src).hi 0x50008 = packTime s.chip.now / 2 ^ 64 ∧ t.chip.regs = s.chip.regs ∧
        SamePlane s t ∧ SameStore s t := by
  refine ⟨_, exec_registerRead .., ?_⟩
  rw [s.regRead_answers hup hserved rfl rfl hfree, State.readAnswer, s.readBar_timeNow src]
  have hlatched := (s.chip.dropHalves src).latch_hi src 0x50008 (packTime s.chip.now / 2 ^ 64)
  cases src <;> exact ⟨rfl, hlatched, rfl, ⟨rfl, rfl, rfl, rfl, rfl⟩, rfl, rfl, rfl⟩

/-- Its second half: the companion shows what the path's last read of TIME_NOW left there, and keeps it. -/
theorem timeNowHi_read_answers (s : State) {src : Src} {len : Nat} (hlen : len ∈ [4, 8]) (hup : s.up)
    (hserved : src = .host → s.chip.hostServed = true) (hfree : src = .host → s.chip.hostWriteHeld = none) :
    Gives (.registerRead src 0x50008 len) s fun t =>
      t.chip.out = s.chip.out ++ [.readData src 0 len (kGet 0 (s.chip.path src).hi 0x50008 % 2 ^ 32)] ∧
        (t.chip.path src).hi = (s.chip.path src).hi ∧ t.chip.regs = s.chip.regs ∧ SamePlane s t ∧ SameStore s t := by
  have hgood : ∀ n ∈ [4, 8], badAccess 0x50008 n = false := by decide
  refine ⟨_, exec_registerRead .., ?_⟩
  rw [s.regRead_answers hup hserved (hgood len hlen) rfl hfree, State.readAnswer, s.readBar_timeNowHi src hlen]
  cases src <;> exact ⟨rfl, rfl, rfl, ⟨rfl, rfl, rfl, rfl, rfl⟩, rfl, rfl, rfl⟩

/-! ### A read that waits -/

@[simp] theorem Chip.holdAcc_out (c : Chip) (p : Nat) (a : HeldAcc) : (c.holdAcc p a).out = c.out := by
  unfold Chip.holdAcc
  split
  · rfl
  · split <;> rfl

/-- A served read of the host driver joins the accesses of the copy that holds it. -/
theorem State.regRead_host_waits (s : State) {off len p : Nat} (hserved : s.chip.hostServed = true)
    (hgood : badAccess off len = false) (hwait : s.chip.readWaits .host off = some p) :
    s.regRead .host off len = s.on fun c => (c.dropHalves .host).holdAcc p (.read true off len) := by
  simp only [State.regRead, hserved, hgood, hwait]
  rfl

/-- No copy of a hand-over holds a read of TIME_NOW: an earlier posted write of the host driver is all it waits for. -/
theorem Chip.readWaits_timeNow (c : Chip) : c.readWaits .host 0x50000 = c.hostWriteHeld := rfl

/-- While a copy holds a posted write of the host driver, a read of TIME_NOW by it sends nothing. -/
theorem regRead_timeNow_out_of_writeHeld (s : State) {p : Nat} (hserved : s.chip.hostServed = true)
    (hheld : s.chip.hostWriteHeld = some p) : (s.regRead .host 0x50000 8).chip.out = s.chip.out := by
  rw [s.regRead_host_waits hserved rfl (s.chip.readWaits_timeNow.trans hheld)]
  simp

/-! ### A device whose copy of a replica holds a write -/

/-- The device as it serves the host driver, with STRM claimed and the replica of quadrant 1 being copied (R405). -/
def replicaCopying : State := State.reset.on fun c =>
  let c := c.setPwr { c.pwr with rstLow := false, aonReady := true, copying := 2 }
  let c := c.setHost { c.host with ready := true, cfg := { c.host.cfg with memEn := true, dstate := 0 } }
  (c.setF .HOST_STATUS_LINK_UP 0 1).setF .MBX_CLAIM_CLAIMED 0 (2 ^ 5)

/-- That device after the host driver has written STRM_PROFILE of profile 0. -/
def strmWriteHeld : State := (replicaCopying.regWrite .host 0xA00800 8 0).on Chip.noteState

theorem exec_registerWrite_replicaCopying :
    exec (.registerWrite .host 0xA00800 8 0) replicaCopying = .next strmWriteHeld := exec_registerWrite ..

theorem strmWriteHeld_up : strmWriteHeld.up := by decide +kernel

theorem strmWriteHeld_hostServed : strmWriteHeld.chip.hostServed = true := by decide +kernel

/-- The write waits for the copy (R405). -/
theorem strmWriteHeld_hostWriteHeld : strmWriteHeld.chip.hostWriteHeld = some replicaHold := by decide +kernel

/-- Refutes O57: while the copy of a replica holds a posted STRM write of the host driver, its read of TIME_NOW waits for
that write (R254) and answers nothing, where the statement has it answered at once. -/
theorem not_timeNowReads : ¬ Obligations.TimeNowReads := by
  unfold Obligations.TimeNowReads
  intro h
  obtain ⟨⟨t, hexec, hout, -⟩, -⟩ := h strmWriteHeld .host strmWriteHeld_up fun _ => strmWriteHeld_hostServed
  rw [exec_registerRead] at hexec
  cases hexec
  rw [regRead_timeNow_out_of_writeHeld _ strmWriteHeld_hostServed strmWriteHeld_hostWriteHeld] at hout
  simp at hout

end Sys2Proof.Machine
end

section
/-!
PROOFS. Profiles in use (R89): what a REGISTER_WRITE of a whole 64-bit register does, what a STRM_CMD does once its path may
write it (R108, R405), what INSERT on KEY answers, and the statement assembled from these.
-/
namespace Sys2Proof.Machine

/-! ### The write of a whole 64-bit register -/

/-- The offset is that of the 64-bit register d with index i, and no hand-over copy holds a write of it (R129, R443). -/
structure RegDesc.LongAt (d : RegDesc) (off i : Nat) : Prop where
  aligned : off % 8 = 0
  block : blockAt off = some d.block
  noArea : areaAt off = none
  reg : regAt off = some (d, i)
  width : d.width = 64
  notHeld : d.reg ∉ [Reg.SCHD_BERTH_CFG, .SCHD_BERTH_SHAPER, .TIDE_PORT_CFG]

/-- A served write of 8 bytes at the offset of a 64-bit register writes that register whole. -/
theorem State.writeBar_long (s : State) (src : Src) {d : RegDesc} {off i v : Nat} (hd : d.LongAt off i) (hv : v < 2 ^ 64) :
    s.writeBar src off 8 v = (s.on fun c => c.dropHalves src).writeReg src d i v false := by
  have hgood : badAccess off 8 = false := by
    have := hd.aligned
    simp only [badAccess, Bool.or_eq_false_iff, decide_eq_false_iff_not]
    omega
  have hmod : v % 18446744073709551616 = v := Nat.mod_eq_of_lt hv
  simp [State.writeBar, hgood, hd.noArea, hd.reg, hd.width, hmod]

/-- REGISTER_WRITE, of either width, of a whole register that is lit, reached and claimed: the path drops the halves it held,
the register takes the value, and a change of the state shown is noted. -/
theorem exec_registerWrite_whole (s : State) (src : Src) {d : RegDesc} {off len i v : Nat} (g : Chip → Chip)
    (hblock : blockAt off = some d.block) (hheld : d.reg ∉ [Reg.SCHD_BERTH_CFG, .SCHD_BERTH_SHAPER, .TIDE_PORT_CFG])
    (hbar : s.writeBar src off len v = (s.on fun c => c.dropHalves src).writeReg src d i v false)
    (hadm : s.chip.admits src d.block) (hlit : (s.chip.dropHalves src).dark d i = false)
    (hset : ∀ s : State, s.setReg d i v = s.on g) (hlink : (g (s.chip.dropHalves src)).link 248 = s.chip.link 248) :
    exec (.registerWrite src off len v) s = .next ((s.on fun c => g (c.dropHalves src)).on Chip.noteState) := by
  obtain ⟨hreach, hmay, hcopy⟩ := hadm
  have hreg : s.writeBar src off len v = s.on fun c => g (c.dropHalves src) := by
    rw [hbar, State.writeReg_sets (s.on fun c => c.dropHalves src), hset]
    · rfl
    · exact hlit
    · exact (Chip.dropHalves_mayWrite ..).trans hmay
    · simpa [Chip.replicaCopy] using hcopy
    · exact hheld
  have hwatch : (s.watchLink fun s => s.writeBar src off len v) = s.writeBar src off len v :=
    s.watchLink_of_link _ (by rw [hreg]; exact hlink)
  have hmr : s.chip.mayReach src off = true := by simp [Chip.mayReach, hblock, hreach]
  have hwrite : s.regWrite src off len v = s.on fun c => g (c.dropHalves src) := by
    simp only [State.regWrite, hmr, Bool.not_true, Bool.false_eq_true, ↓reduceIte, hwatch, hreg]
  rw [exec_registerWrite, hwrite]

/-! ### A write of a profile in use -/

/-- The row of STRM_PROFILE in the register table. -/
def profileDesc : RegDesc := regsSTRM[5]'(by decide)

theorem profileDesc_longAt {n : Nat} (hn : n < 16) : profileDesc.LongAt (0xA00800 + 8 * n) n := by
  match n, hn with
  | 0, _ | 1, _ | 2, _ | 3, _ | 4, _ | 5, _ | 6, _ | 7, _ | 8, _ | 9, _ | 10, _ | 11, _ | 12, _ | 13, _ | 14, _ | 15, _ =>
    exact ⟨rfl, rfl, rfl, rfl, rfl, by decide⟩
  | n + 16, hn => exact absurd hn (Nat.not_lt.2 (Nat.le_add_left 16 n))

/-- A write of a profile that a key entry names does nothing but report STRM_PARAM (R89). -/
theorem Chip.wrProfile_used (c : Chip) {n : Nat} (v : Nat) (h : c.profUsed n = true) :
    c.wrProfile n v = c.reportR ⟨0x3010, 0x301, 0xA00800 + 8 * n, false⟩ := by
  simp [Chip.wrProfile, h]

theorem Chip.dropHalves_profUsed (c : Chip) (src : Src) (n : Nat) : (c.dropHalves src).profUsed n = c.profUsed n := by
  simp [Chip.profUsed]

/-- REGISTER_WRITE of STRM_PROFILE while a key entry names the profile. -/
theorem exec_profile_used (s : State) {src : Src} {n v : Nat} (hadm : s.chip.admits src .STRM) (hn : n < 16)
    (hv : v < 2 ^ 64) (hused : s.chip.profUsed n = true) :
    exec (.registerWrite src (0xA00800 + 8 * n) 8 v) s =
      .next ((s.on fun c => (c.dropHalves src).reportR ⟨0x3010, 0x301, 0xA00800 + 8 * n, false⟩).on Chip.noteState) := by
  have hdrop := (s.chip.dropHalves src).wrProfile_used v ((s.chip.dropHalves_profUsed src n).trans hused)
  have hat := profileDesc_longAt hn
  have hlink : ((s.chip.dropHalves src).wrProfile n v).link 248 = s.chip.link 248 := by
    rw [hdrop]
    exact Chip.dropHalves_fld ..
  rw [exec_registerWrite_whole s src (fun c => c.wrProfile n v) hat.block hat.notHeld (s.writeBar_long src hat hv) hadm rfl
    (fun _ => rfl) hlink]
  simp only [State.on, hdrop]

/-! ### STRM_CMD by a path that may write it -/

/-- The fields of STRM_CMD. -/
def strmCmdFlds : List Fld := [.STRM_CMD_TABLE, .STRM_CMD_OP, .STRM_CMD_BANK, .STRM_CMD_REPL_SEL, .STRM_CMD_REPLICA]

/-- The fields of STRM_CMD take their values from a word. -/
def Chip.setStrmCmd (c : Chip) (w : Nat) : Chip :=
  ((((c.setF .STRM_CMD_TABLE 0 (bits w 27 24)).setF .STRM_CMD_OP 0 (bits w 23 20)).setF .STRM_CMD_BANK 0
    (bits w 19 19)).setF .STRM_CMD_REPL_SEL 0 (bits w 18 18)).setF .STRM_CMD_REPLICA 0 (bits w 17 16)

theorem Chip.wrStrmCmd_start (c : Chip) {w : Nat} (h : w.testBit 31 = true) :
    c.wrStrmCmd w = (c.setStrmCmd w).strmOp (bits w 27 24) (bits w 23 20) (bits w 19 19)
      (if w.testBit 18 then some (bits w 17 16) else none) := by
  simp only [Chip.wrStrmCmd, h, ↓reduceIte, Chip.setStrmCmd]

theorem strmWord_start {table op : Nat} (data : Nat) (ht : table < 16) (ho : op < 16) :
    (strmWord table op data).testBit 31 = true := by
  simp only [strmWord, Nat.testBit_eq_decide_div_mod_eq, decide_eq_true_eq]
  omega

theorem strmWord_table {table op : Nat} (data : Nat) (ht : table < 16) (ho : op < 16) :
    bits (strmWord table op data) 27 24 = table := by
  simp only [strmWord, bits]
  omega

theorem strmWord_op {table op : Nat} (data : Nat) (ho : op < 16) : bits (strmWord table op data) 23 20 = op := by
  simp only [strmWord, bits]
  omega

/-- The device as an operation of STRM_CMD finds it: the path's halves dropped, the word in the register. -/
def Chip.atStrmCmd (c : Chip) (src : Src) (w : Nat) : Chip := (c.dropHalves src).setStrmCmd w

@[simp] theorem Chip.atStrmCmd_strm (c : Chip) (src : Src) (w : Nat) : (c.atStrmCmd src w).strm = c.strm := by
  simp [Chip.atStrmCmd, Chip.setStrmCmd]

theorem Chip.atStrmCmd_fld (c : Chip) (src : Src) (w : Nat) {f : Fld} (i : Nat) (h : f ∉ strmCmdFlds) :
    (c.atStrmCmd src w).fld f i = c.fld f i := by
  simp only [strmCmdFlds, List.mem_cons, List.not_mem_nil, or_false, not_or] at h
  obtain ⟨htable, hop, hbank, hsel, hrepl⟩ := h
  simp [Chip.atStrmCmd, Chip.setStrmCmd, Ne.symm htable, Ne.symm hop, Ne.symm hbank, Ne.symm hsel, Ne.symm hrepl]

theorem Chip.atStrmCmd_is (c : Chip) (src : Src) (w : Nat) {f : Fld} (i : Nat) (h : f ∉ strmCmdFlds) :
    (c.atStrmCmd src w).is f i = c.is f i := by
  simp only [Chip.is, c.atStrmCmd_fld src w i h]

@[simp] theorem Chip.atStrmCmd_strmData (c : Chip) (src : Src) (w : Nat) : (c.atStrmCmd src w).strmData = c.strmData := by
  have hdata (i : Nat) : (c.atStrmCmd src w).fld .STRM_DATA_DATA i = c.fld .STRM_DATA_DATA i :=
    c.atStrmCmd_fld src w i (by decide)
  simp only [Chip.strmData, hdata]

/-- What a key compares is up to its profile's registers, which STRM_CMD does not touch (R86). -/
@[simp] theorem Chip.atStrmCmd_normKey (c : Chip) (src : Src) (w : Nat) (k : Key) :
    (c.atStrmCmd src w).normKey k = c.normKey k := by
  have hfn : (c.atStrmCmd src w).profFn k.profile = c.profFn k.profile := c.atStrmCmd_fld src w _ (by decide)
  have htag : (c.atStrmCmd src w).profTagged k.profile = c.profTagged k.profile := c.atStrmCmd_fld src w _ (by decide)
  have his {f : Fld} (h : f ∉ strmCmdFlds) := c.atStrmCmd_is src w k.profile h
  simp only [Chip.normKey, hfn, htag, his (f := .STRM_PROFILE_PORT_IN_KEY) (by decide),
    his (f := .STRM_PROFILE_IGN_DSCP) (by decide), his (f := .STRM_PROFILE_IGN_PROTO) (by decide),
    his (f := .STRM_PROFILE_IGN_DMAC) (by decide), his (f := .STRM_PROFILE_IGN_SRC_PORT) (by decide),
    his (f := .STRM_PROFILE_IGN_DST_PORT) (by decide), his (f := .STRM_PROFILE_IGN_IP_SRC) (by decide)]

/-- An operation of STRM_CMD by a path that reaches STRM, has it claimed and need not wait for a replica's copy. -/
theorem Chip.strmCmd_runs (c : Chip) {src : Src} {table op : Nat} (data : Nat) (hadm : c.admits src .STRM) (ht : table < 16)
    (ho : op < 16) :
    c.strmCmd src (strmWord table op data) = (c.atStrmCmd src (strmWord table op data)).strmOp table op
      (bits (strmWord table op data) 19 19)
      (if (strmWord table op data).testBit 18 then some (bits (strmWord table op data) 17 16) else none) := by
  obtain ⟨hreach, hmay, hcopy⟩ := hadm
  have hfree : (c.dropHalves src).replicaCopy = false := by simpa [Chip.replicaCopy] using hcopy
  have hrun := (c.dropHalves src).wrStrmCmd_start (strmWord_start data ht ho)
  rw [strmWord_table data ht ho, strmWord_op data ho] at hrun
  simp only [Chip.strmCmd, Chip.gated_acts _ src .STRM _ _ hreach hmay, Chip.strmWrite, hfree, Bool.false_eq_true,
    ↓reduceIte, hrun, Chip.atStrmCmd]

/-! ### INSERT on KEY -/

@[simp] theorem Chip.normKey_profile (c : Chip) (k : Key) : (c.normKey k).profile = k.profile := rfl

@[simp] theorem Chip.strmResult_strm (x : Nat × Chip) : (Chip.strmResult x).strm = x.2.strm := rfl

@[simp] theorem Chip.strmResult_result (x : Nat × Chip) : (Chip.strmResult x).fld .STRM_STATUS_RESULT 0 = x.1 := by
  simp [Chip.strmResult]

@[simp] theorem Chip.ovfInsert_strm (c : Chip) : c.ovfInsert.strm = c.strm := rfl

/-- No insertion answers LOCKED, the one code that STRM_CMD also reports. -/
theorem Chip.keyInsert_ne_locked (c : Chip) (r : Nat) : (c.keyInsert r).1 ≠ rLocked := by
  simp only [Chip.keyInsert]
  repeat' split
  all_goals
    dsimp only
    decide

theorem Chip.strmOp_keyInsert (c : Chip) (bank : Nat) (quad : Option Nat) :
    c.strmOp 0 2 bank quad = Chip.strmResult (c.keyInsert c.strmData) := by
  simp only [Chip.strmOp, if_neg (c.keyInsert_ne_locked _)]

/-- An insertion under a profile whose VALID is 0 (R89). -/
theorem Chip.keyInsert_invalidProfile (c : Chip) (r : Nat) (h : c.is .STRM_PROFILE_VALID (keyOf r).profile = false) :
    c.keyInsert r = (rParam, c) := by
  simp [Chip.keyInsert, h]

/-- What an insertion below 61,440 entries needs to succeed, where its profile compares no port (R82, R83, R89). -/
structure Chip.KeyFits (c : Chip) (r : Nat) : Prop where
  valid : c.is .STRM_PROFILE_VALID (keyOf r).profile = true
  noPort : c.is .STRM_PROFILE_PORT_IN_KEY (keyOf r).profile = false
  handle : (c.handle (keyHandle r)).valid = true
  few : c.keysOf (keyHandle r) < 8
  room : c.strm.keys.length < 61440
  new : c.findKey (c.normKey (keyOf r)) = none

theorem Chip.keyInsert_fits (c : Chip) {r : Nat} (h : c.KeyFits r) :
    (c.keyInsert r).1 = rOK ∧
      (c.keyInsert r).2.strm = { c.strm with keys := c.strm.keys ++ [(c.normKey (keyOf r), keyHandle r)] } := by
  have hport : c.keyPortBad r = false := by simp [Chip.keyPortBad, h.noPort]
  have hroom : ¬ (c.strm.keys.length ≥ 65536 ∨ c.keysOf (keyHandle r) ≥ 8) := by
    have := h.few
    have := h.room
    omega
  have hbelow : ¬ c.strm.keys.length ≥ 61440 := Nat.not_le.2 h.room
  simp [Chip.keyInsert, h.valid, hport, h.handle, h.new, hroom, hbelow, Chip.fresh]

theorem Chip.KeyFits.atStrmCmd {c : Chip} {r : Nat} (h : c.KeyFits r) (src : Src) (w : Nat) :
    (c.atStrmCmd src w).KeyFits r where
  valid := (c.atStrmCmd_is src w _ (by decide)).trans h.valid
  noPort := (c.atStrmCmd_is src w _ (by decide)).trans h.noPort
  handle := by simpa [Chip.handle] using h.handle
  few := by simpa [Chip.keysOf] using h.few
  room := by simpa using h.room
  new := by simpa [Chip.findKey] using h.new

/-- A chip that holds a key entry uses its profile. -/
theorem Chip.profUsed_of_mem {c : Chip} {k : Key} {h : Nat} (hk : (k, h) ∈ c.strm.keys) : c.profUsed k.profile = true :=
  List.any_eq_true.2 ⟨(k, h), hk, beq_self_eq_true _⟩

/-! ### The two outcomes of STRM_KEY_INSERT -/

/-- STRM_KEY_INSERT runs the insertion on the record window and shows its code. -/
theorem exec_strmKeyInsert (s : State) {src : Src} (data : Nat) (hadm : s.chip.admits src .STRM) :
    exec (.strmKeyInsert src data) s = .next (s.withChip
      (Chip.strmResult ((s.chip.atStrmCmd src (strmWord 0 2 data)).keyInsert s.chip.strmData))) := by
  have hcmd := s.chip.strmCmd_runs (table := 0) (op := 2) data hadm (by decide) (by decide)
  rw [Chip.strmOp_keyInsert, Chip.atStrmCmd_strmData] at hcmd
  exact congrArg (fun c => Host.Outcome.next (s.withChip c)) hcmd

theorem strmKeyInsert_invalidProfile (s : State) {src : Src} (data : Nat) (hadm : s.chip.admits src .STRM)
    (hinvalid : s.chip.is .STRM_PROFILE_VALID (keyOf s.chip.strmData).profile = false) :
    Gives (.strmKeyInsert src data) s fun t =>
      t.chip.strm = s.chip.strm ∧ t.chip.fld .STRM_STATUS_RESULT 0 = rParam ∧ SameStore s t := by
  refine ⟨_, exec_strmKeyInsert s data hadm, ?_⟩
  rw [Chip.keyInsert_invalidProfile _ _ ((s.chip.atStrmCmd_is src (strmWord 0 2 data) _ (by decide)).trans hinvalid)]
  exact ⟨s.chip.atStrmCmd_strm src (strmWord 0 2 data), Chip.strmResult_result _, rfl, rfl, rfl⟩

theorem strmKeyInsert_fits (s : State) {src : Src} (data : Nat) (hadm : s.chip.admits src .STRM)
    (hfits : s.chip.KeyFits s.chip.strmData) :
    Gives (.strmKeyInsert src data) s fun t =>
      t.chip.strm = { s.chip.strm with
        keys := s.chip.strm.keys ++ [(s.chip.normKey (keyOf s.chip.strmData), keyHandle s.chip.strmData)] } ∧
        t.chip.fld .STRM_STATUS_RESULT 0 = rOK ∧ SameStore s t := by
  obtain ⟨hcode, hstrm⟩ := Chip.keyInsert_fits _ (hfits.atStrmCmd src (strmWord 0 2 data))
  simp only [Chip.atStrmCmd_strm, Chip.atStrmCmd_normKey] at hstrm
  exact ⟨_, exec_strmKeyInsert s data hadm, hstrm, (Chip.strmResult_result _).trans hcode, rfl, rfl, rfl⟩

/-- Settles O58: a write of a profile in use only reports, an insertion that fits places its key and so puts its profile into
use, and one under an invalid profile answers PARAM. -/
theorem profileWrites : Obligations.ProfileWrites := by
  unfold Obligations.ProfileWrites
  refine ⟨by decide, fun s src hadm => ⟨fun n v hn hv hused => ?used, fun data => ⟨rfl, ?fits, ?invalid⟩⟩⟩
  case used => exact ⟨_, exec_profile_used s hadm hn hv hused, coreWrite_dropped s src _⟩
  case fits =>
    intro hvalid hnoPort hhandle hfew hroom hnew
    obtain ⟨t, hexec, hstrm, hresult, hstore⟩ :=
      strmKeyInsert_fits s data hadm ⟨hvalid, hnoPort, hhandle, hfew, hroom, hnew⟩
    have hkeys : t.chip.strm.keys = s.chip.strm.keys ++ [(_, _)] := congrArg StrmS.keys hstrm
    have hmem := hkeys ▸ List.mem_append_right s.chip.strm.keys (List.mem_singleton_self _)
    exact ⟨t, hexec, hkeys, Chip.profUsed_of_mem hmem, hresult, hstore⟩
  case invalid => exact fun hinvalid => strmKeyInsert_invalidProfile s data hadm hinvalid

end Sys2Proof.Machine
end
